-- ==== Sys2Proof/Word.lean ====
section
/-! DEFINITION. Word.lean: the widths of the things the manual treats as bits. -/

namespace Sys2Proof

/-- One byte of a store or of a frame. -/
abbrev Byte := BitVec 8

/-- A 32-bit field: a word of the common store, a register, a CRC, or a count that wraps (R189, R199, R162). -/
abbrev Word := BitVec 32

/-- A station (MAC) address, its first octet on the wire the most significant (R203). -/
abbrev MacAddr := BitVec 48

/-- An IPv4 address, its first octet on the wire the most significant (R203). -/
abbrev Ipv4Addr := BitVec 32

/-- An EtherType (R41, R103). -/
abbrev EtherType := BitVec 16

end Sys2Proof
end

