-- ==== Sys2Proof/Syntax.lean ====
section
/-! DEFINITION. Syntax.lean: the commands, one constructor per row of spec/opcode_table.json, and the names their
operands use. -/

namespace Sys2Proof

/-- The five Ethernet ports (R145). -/
inductive Port where
  | p0 | p1 | p2 | p3 | p4
  deriving DecidableEq, Repr

/-- The six request chains, in directory order (R188, R191). -/
inductive Chain where
  | setup | price | label | net | exchange | delivery
  deriving DecidableEq, Repr

/-- The commands: what reaches the part from outside and the part's own whole steps. A request row carries no
operand: its operands are in the record its chain has in hand (R194, R195). A message row carries none either: its
message is the front of its block's hand-off queue (R149). An expiry names the entry whose expiry falls due. -/
inductive Instr where
  /-- POWER_ON (R187): Power is applied: the whole common store is cleared, every volatile state takes its after-reset value and the part is STOPPED. -/
  | powerOn
  /-- RESET (R187): A CONTROL write with RESET set performs a controller reset: the status block and directory are cleared, volatile state is reset and the RUN value of the same write is not taken. -/
  | reset
  /-- RUN (R186): A CONTROL write with RUN = 1 makes the part RUNNING, or is remembered if the start-up scan is running, and the Request Unit then reads each head word and command word once. -/
  | run
  /-- CAUSE_READ (R201): A read of CAUSE returns the code of the highest pending cause and removes that one cause from the set. -/
  | causeRead
  /-- CAUSE_ENABLE_WRITE (R202): A write to CAUSE_ENABLE replaces all five enables and sends an MSI if it enables a cause that is already pending. -/
  | causeEnableWrite (value : Word)
  /-- REGISTER_WRITE_IGNORED (R185): A write to IDENT, to CAUSE or to an offset outside the four registers is ignored. -/
  | registerWriteIgnored (offset : Nat) (value : Word)
  /-- START_UP_SCAN (R70): After each reset the Journal Unit chooses a header, walks the journal, raises the marks and reports, or formats the journal, and then sets start state READY. -/
  | startUpScan
  /-- HEAD_WRITE (R192): A host write to a directory head word starts an OFF or FAULTED chain at a nonzero offset while the part is RUNNING. -/
  | headWrite (chain : Chain) (value : Word)
  /-- STOP (R193): A STOP written to a command word sends the chain OFF, after any record in hand is finished, and NONE is written back. -/
  | stop (chain : Chain)
  /-- COMMAND_OTHER_VALUE (R193): A command word write of any value other than STOP has no effect except that NONE is written back. -/
  | commandOtherValue (chain : Chain) (value : Word)
  /-- LINK_WORD_WRITE (R196): A host write to the link word of the record a chain is parked on resumes the chain, keeps it parked or faults it. -/
  | linkWordWrite (offset : BitVec 18) (value : Word) (enables : BitVec 4)
  /-- SET_PORT_ROLES (R146): The port roles, station addresses and link EtherTypes are replaced, with queue, station, guest, till and base station clean-up on each port whose role changes. -/
  | setPortRoles
  /-- SET_SLOT_TABLES (R160): Both uplink slot tables are replaced. -/
  | setSlotTables
  /-- SET_PACER (R158): The queue caps, the pause and resume levels and the pacer rate and depth are set. -/
  | setPacer
  /-- SET_GUEST_POLICY (R165): The default guest budget and the default time limit are set. -/
  | setGuestPolicy
  /-- SET_LABEL_PARAMS (R112): The maximum attempts and the slots per cycle are set, and CYCLE_SET is sent to every ACTIVE station when S changes. -/
  | setLabelParams
  /-- LOAD_TEMPLATE (R80): A label template is stored with its values clamped into range, unless a directory record names it. -/
  | loadTemplate (chain : Chain)
  /-- SET_EXCHANGE_PARAMS (R122): The exchange parameters are set and the last batch is set to the base batch number, unless a session is open. -/
  | setExchangeParams
  /-- SET_CLOCK (R177): The time of day is placed at the given day and milliseconds, and a scheduled period is realigned to the new time. -/
  | setClock
  /-- SET_PERIOD_MANUAL (R179): The mode becomes MANUAL, any schedule is discarded and the period switches if the given period differs. -/
  | setPeriodManual
  /-- SET_PERIOD_SCHEDULED (R180): An open time and a close time are set and the period is aligned with the schedule, provided the clock is set. -/
  | setPeriodScheduled
  /-- SET_PLAUSIBILITY (R40): The down and up percentages of the plausibility window are set, with values outside their range clamped. -/
  | setPlausibility
  /-- LOAD_ITEMS (R24): Up to 32 item entries are inserted in order, and each gets its own result code. -/
  | loadItems
  /-- CHANGE_PRICE (R8): A price change passes through the form, unchanged, window and item state checks and becomes current, pending, waiting or queried. -/
  | changePrice
  /-- CONFIRM_CHANGE (R15): QUERIED is cleared on a waiting change, which is promoted at once if the item is SETTLED. -/
  | confirmChange
  /-- REJECT_CHANGE (R16): A queried waiting change is discarded. -/
  | rejectChange
  /-- SET_TEXT (R23): The item text is replaced and its revision raised, and the bound labels are queued for a full update. -/
  | setText
  /-- REMOVE_ITEM (R25): An item with no bound labels is deleted from the item table. -/
  | removeItem
  /-- READ_ITEM (R26): The item image is copied into the request body. -/
  | readItem
  /-- BIND_LABEL (R88): A label record is created and bound to an item after its checks and the Price Engine's bind report. -/
  | bindLabel
  /-- UNBIND_LABEL (R89): A bound label is sent to UNBINDING, or removed at once if it has no home. -/
  | unbindLabel
  /-- SET_LABEL_TEMPLATE (R90): The label's template is replaced, the template user counts are adjusted and the label is queued for a full update. -/
  | setLabelTemplate
  /-- RETRY_LABEL (R91): A STALE label returns to QUEUED with attempts 0, and a recovery report goes to the Price Engine. -/
  | retryLabel
  /-- READ_LABEL (R92): The label image is copied into the request body. -/
  | readLabel
  /-- SEND_FRAME (R161): A host frame is queued on a named port, or decided as a frame from the appliance for FORWARD. -/
  | sendFrame
  /-- ADMIT_GUEST (R169): A guest session is admitted or renewed with a budget and a time limit. -/
  | admitGuest
  /-- REVOKE_GUEST (R170): An ADMITTED guest session becomes LAPSED with reason REVOKED. -/
  | revokeGuest
  /-- READ_COUNTS (R162): The per-port counters are copied into the request body and cleared if the clear flag is set. -/
  | readCounts
  /-- FLUSH_STATIONS (R153): Every station table record is removed. -/
  | flushStations
  /-- START_EXCHANGE (R126): An exchange session is started with a deadline of the present count plus the given duration. -/
  | startExchange
  /-- ABORT_EXCHANGE (R142): An open session sends BYE(ABORTED) and ends ABORTED. -/
  | abortExchange
  /-- READ_JOURNAL_STATE (R75): The journal state is written into the request body. -/
  | readJournalState
  /-- DELIVERY_FILL (R197): When a frame waits for the host, the DELIVERY chain takes its record and writes the descriptor and the frame into it. -/
  | deliveryFill
  /-- FRAME_RECEIVE (R148): A frame received whole on a port is checked, learned from and then consumed, delivered, queued or dropped by steps 1 to 4. -/
  | frameReceive (port : Port) (checkOk : Bool) (bytes : List Byte)
  /-- SIGN_ON (R46): A till SIGN_ON binds or refreshes the till entry, or is refused, and is answered with the till mark. -/
  | signOn
  /-- QUOTE_ASK (R50): A till quote ask is priced by the Price Engine and answered with a QUOTE. -/
  | quoteAsk
  /-- SALE_PUT (R52): A till sale passes the form, match, in-flight and mark checks and is answered or handed to the Journal Unit. -/
  | salePut
  /-- SIGN_OFF (R47): A till SIGN_OFF ends the till's session and is answered. -/
  | signOff
  /-- BS_HELLO (R107): A base station hello takes a table entry, refreshes it, restarts it or returns it, and is answered with CYCLE_SET. -/
  | bsHello
  /-- LABEL_SEEN (R119): The sightings in a LABEL_SEEN are handed to the Label Service one by one, moving homes and recovering STALE labels. -/
  | labelSeen
  /-- UPDATE_RESULT (R117): The result for an in-flight tag ends that update with its outcome and frees its credit. -/
  | updateResult
  /-- WELCOME (R128): A WELCOME in OPENING releases up to the server's sequence or ends the session on a gap. -/
  | welcome
  /-- JACK (R130): A cumulative JACK releases acknowledged entries, trims or removes blocks and may end the upload. -/
  | jack
  /-- PBLOCK (R134): A price block is staged in order, acknowledged or ignored, or ends the session when the stage would overflow. -/
  | pblock
  /-- COMMIT (R135): A COMMIT is answered again, starts the application of a matching stage, or records a mismatch and pulls again. -/
  | commit
  /-- NO_MORE (R137): A NO_MORE discards any uncommitted stage, sends BYE(COMPLETE) and moves the session to CLOSING. -/
  | noMore
  /-- BYE_ACK (R138): A BYE_ACK in CLOSING ends the session COMPLETE. -/
  | byeAck
  /-- REFUSE (R143): A REFUSE from the server ends the session FAILED_REFUSED with the server's reason. -/
  | refuse
  /-- BATCH_ENTRY_APPLY (R136): One staged batch entry is handed to the Price Engine and its disposition counted, and the batch is committed after the last entry. -/
  | batchEntryApply
  /-- APPEND_START (R65): A queued append starts, ending HOLD when room or sequence is lacking, or otherwise writing its entry. -/
  | appendStart
  /-- APPEND_END (R65): A completed append writes the till mark and the header, raises the next sequence and ends ACCEPTED. -/
  | appendEnd
  /-- RELEASE_COMPLETE (R68): When a release's header write completes, the head and acknowledged sequence move, units are freed and the waiting session proceeds. -/
  | releaseComplete
  /-- LAN_EGRESS_START (R155): A port whose link is up and that is idle starts sending the head frame of its LAN egress queue. -/
  | lanEgressStart (port : Port)
  /-- UPLINK_PICK (R159): The scheduler picks a class queue by slot table and fallback order, and starts its head frame on the uplink. -/
  | uplinkPick
  /-- TRANSMIT_END (R155): A frame's transmission ends, its buffer is returned and it is counted in frames out. -/
  | transmitEnd (port : Port)
  /-- PHY_LINK_DOWN (R163): A port's link goes down: PORT_LINK is posted, its queues are freed, and an uplink loss is reported to the Exchange Unit. -/
  | phyLinkDown (port : Port)
  /-- PHY_LINK_UP (R163): A port's link comes up: PORT_LINK is posted and the uplink state goes to the Exchange Unit. -/
  | phyLinkUp (port : Port)
  /-- MILLISECOND_STEP (R176): The monotonic count rises by 1, the pacer is topped up and a set time of day advances. -/
  | millisecondStep
  /-- TILL_SILENCE_EXPIRY (R48): A SIGNED_ON till silent for 900 s goes to SIGNED_OFF and TILL_SIGNED_OFF is posted. -/
  | tillSilenceExpiry (till : Nat)
  /-- BASE_STATION_SILENCE (R109): An ACTIVE station silent for 30 s becomes LOST, its updates are returned and BASE_STATION_LOST is posted. -/
  | baseStationSilence (station : Nat)
  /-- UPDATE_DEADLINE (R118): An in-flight update reaching its deadline ends NO_ANSWER and frees its credit. -/
  | updateDeadline (station : Nat) (tag : Nat)
  /-- STATION_AGING (R153): A station table record not seen for 300 s is removed. -/
  | stationAging (address : MacAddr)
  /-- HELLO_RESEND (R127): The resend time in OPENING sends the HELLO again, or ends the session FAILED_NO_ANSWER. -/
  | helloResend
  /-- JBLOCK_RESEND (R131): The resend time in UPLOAD resends every block in the window, or ends the session FAILED_NO_ANSWER. -/
  | jblockResend
  /-- PULL_RESEND (R133): The resend time in DOWNLOAD sends the PULL again, or ends the session FAILED_NO_ANSWER. -/
  | pullResend
  /-- BYE_RESEND (R138): The resend time in CLOSING sends the BYE again, or ends the session COMPLETE_UNCONFIRMED. -/
  | byeResend
  /-- SERVER_IDLE_EXPIRY (R133): A server silent for the idle limit in DOWNLOAD, while no batch is being applied, ends the session FAILED_NO_ANSWER. -/
  | serverIdleExpiry
  /-- SESSION_DEADLINE (R140): The session deadline sends BYE(INCOMPLETE) once and ends the session INCOMPLETE. -/
  | sessionDeadline
  /-- GUEST_TIME_LIMIT (R171): An ADMITTED session reaching its time limit lapses EXPIRED and GUEST_LAPSED is posted. -/
  | guestTimeLimit (address : MacAddr)
  /-- GUEST_IDLE_REMOVAL (R172): A HELD or LAPSED session silent for 120 s is removed. -/
  | guestIdleRemoval (address : MacAddr)
  /-- OPEN_TIME_REACHED (R180): The running time of day reaches the schedule's open time and the period switches to OPEN. -/
  | openTimeReached
  /-- CLOSE_TIME_REACHED (R180): The running time of day reaches the schedule's close time and the period switches to CLOSED. -/
  | closeTimeReached
  /-- WINDOW_START_REACHED (R182): The running time of day reaches the window start and the Exchange Unit starts a session if it is IDLE and its parameters are set. -/
  | windowStartReached
  /-- POWER_LOSS (R58): Power fails while the part is working, stopping it at once and possibly leaving the backed SRAM piece being written with part old and part new content. -/
  | powerLoss
  deriving DecidableEq, Repr

end Sys2Proof
end

