-- ==== Sys2Proof/Config.lean ====
section
/-! DEFINITION. Config.lean: the values the manual leaves open. None has a body, so nothing can be proved of one. -/

namespace Sys2Proof.Config

/-- The format mark of a header copy, less 1: the mark is "one fixed value", which the manual does not give (R59;
log 8). -/
opaque formatMarkLessOne : Fin 4294967295

/-- The format mark of a header copy: any one word but 0, since a mark that is cleared is not correct (R59, R72;
log 8). -/
def formatMark : Word := BitVec.ofNat 32 (formatMarkLessOne.val + 1)

/-- The frame check sequence of a frame the part makes, from the frame's bytes before it: the manual does not give how
it is formed (R148; log 49). -/
opaque frameCheck : List Byte → Word

/-- How many pieces of the append's (or the scan's) backed writes are whole when a reset or a power loss falls,
before it is limited to the pieces there are; the argument numbers the event (R58, R66; log 9). -/
opaque piecesDone : Nat → Nat

/-- Whether the header write of a release in progress is whole when a reset or a power loss falls; the argument
numbers the event (R58, R68; log 9). -/
opaque releaseHeaderDone : Nat → Bool

/-- Whether the byte at an index of a piece torn by a power loss holds the new content: arguments the event's
number and the byte's index (R58; log 9). -/
opaque tornByteIsNew : Nat → Nat → Bool

/-- The type-of-service octet of the datagrams the part sends, which the manual does not give (R124; log 16). -/
opaque ipv4Tos : Byte

/-- The time-to-live octet of the datagrams the part sends, which the manual does not give (R124; log 16). -/
opaque ipv4Ttl : Byte

/-- The identification field of the n-th datagram the part sends, which the manual does not give (R124; log 16). -/
opaque ipv4Ident : Nat → BitVec 16

/-- The don't-fragment flag of an unfragmented datagram the part sends, which the manual does not give (R124;
log 16). -/
opaque ipv4DontFragment : Bool

/-- The UDP checksum field of the n-th datagram the part sends: the manual does not say whether one is formed
(R124; log 16). -/
opaque udpChecksum : Nat → BitVec 16

end Sys2Proof.Config
end

