-- ==== Sys2Proof/Machine/State.lean ====
section
/-! DEFINITION. Machine/State.lean: everything the manual gives the part to hold, as plain data, and its value after
power-on. -/

namespace Sys2Proof.Machine

/-! ### Shapes used by several units -/

/-- A map with keys strictly rising: one record per key (items by article, labels by id, stations by address). -/
abbrev Table (α : Type) := List (Nat × α)

/-- Bytes by address in one canonical form: addresses strictly rising, no listed byte 0 (R187, R58; log 7). -/
abbrev Memory := List Host.Cell

/-- One thing for each of the five ports. -/
structure PerPort (α : Type) where
  p0 : α
  p1 : α
  p2 : α
  p3 : α
  p4 : α
  deriving DecidableEq, Repr

/-- One thing for each of the six chains. -/
structure PerChain (α : Type) where
  setup : α
  price : α
  label : α
  net : α
  exchange : α
  delivery : α
  deriving DecidableEq, Repr

/-- The four uplink classes (R155), in fallback order (R159). -/
inductive UplinkClass where
  | payment | store | exchange | guest
  deriving DecidableEq, Repr

/-- One thing for each of the four uplink classes. -/
structure PerClass (α : Type) where
  payment : α
  store : α
  exchange : α
  guest : α
  deriving DecidableEq, Repr

/-! ### Request Unit (chapter 11) -/

/-- Run state (R186). -/
inductive RunState where
  | stopped | running
  deriving DecidableEq, Repr

/-- Start state (R70, R186). -/
inductive StartState where
  | checking | ready
  deriving DecidableEq, Repr

/-- Chain states (R192). -/
inductive ChainPhase where
  | off | running | parked | faulted
  deriving DecidableEq, Repr

/-- Fault codes of a chain (R192, R194). -/
inductive FaultCode where
  | noFault | badLink | badLength | notNew
  deriving DecidableEq, Repr

/-- The record a chain has in hand: what the walker read when it took the record (R194; log 13). -/
structure RecordInHand where
  /-- offset in the common store -/
  offset : Nat
  /-- kind byte -/
  kind : Nat
  /-- tell was set -/
  tell : Bool
  /-- the copy of the body -/
  body : List Byte
  deriving DecidableEq, Repr

/-- A chain as its walker holds it (R192, R193, R194). The directory entry in the common store is a copy. -/
structure ChainState where
  phase : ChainPhase
  current : Word
  done : Word
  fault : FaultCode
  inHand : Option RecordInHand
  /-- a STOP awaits the end of the record in hand (R193) -/
  stopping : Bool
  deriving DecidableEq, Repr

/-- The five interrupt causes, highest first (R201). -/
inductive Cause where
  | fault | logFull | notice | done | delivered
  deriving DecidableEq, Repr

/-- The Request Unit's own state (R185, R186, R192, R199-R201). -/
structure RequestUnit where
  runState : RunState
  startState : StartState
  rememberedRun : Bool
  chains : PerChain ChainState
  /-- written count W -/
  written : Word
  /-- accepted read count A -/
  accepted : Word
  dropped : Word
  deliveryMiss : Word
  /-- the cause set: bit i is the cause of code i + 1 -/
  causes : BitVec 5
  /-- CAUSE_ENABLE -/
  enables : BitVec 5
  deriving DecidableEq, Repr

/-! ### Price Engine (chapters 1 and 2) -/

/-- Sale kind (R2). -/
inductive SaleKind where
  | each | weighed
  deriving DecidableEq, Repr

/-- Measure of the unit price (R2). -/
inductive Measure where
  | gram | millilitre | piece
  deriving DecidableEq, Repr

/-- A promotion: N pieces for the total T (R3). -/
structure Promotion where
  n : Nat
  t : Nat
  deriving DecidableEq, Repr

/-- A version of an item (R3). -/
structure Version where
  number : Nat
  base : Nat
  promo : Option Promotion
  deriving DecidableEq, Repr

/-- The waiting change of an item (R4). -/
structure WaitingChange where
  base : Nat
  promo : Option Promotion
  queried : Bool
  deriving DecidableEq, Repr

/-- An item record (R2). The item state is a function of it (R7, `Item.state`). -/
structure Item where
  article : Nat
  text : List Byte
  textRevision : Nat
  saleKind : SaleKind
  measure : Measure
  packQty : Nat
  refQty : Nat
  current : Version
  pending : Option Version
  waiting : Option WaitingChange
  lastVersion : Nat
  /-- bound labels, in binding order -/
  labels : List Nat
  outstanding : Nat
  staleCount : Nat
  /-- 0 for HOST, or a batch number -/
  origin : Nat
  deriving DecidableEq, Repr

/-- The Price Engine (R1, R40). -/
structure PriceEngine where
  items : Table Item
  down : Nat
  up : Nat
  deriving DecidableEq, Repr

/-! ### Till Service (chapter 3) -/

/-- States of a till entry (R44). -/
inductive TillPhase where
  | absent | signedOn | signedOff
  deriving DecidableEq, Repr

/-- A line of a sale, as sent (R42, R60). -/
structure SaleLine where
  article : Nat
  quantity : Nat
  amount : Nat
  version : Nat
  /-- the basis code, CURRENT 0 or PENDING 1 (R208) -/
  basis : Nat
  deriving DecidableEq, Repr

/-- A sale as handed to the Journal Unit (R55). -/
structure Sale where
  till : Nat
  basket : Nat
  day : Nat
  ms : Nat
  total : Nat
  lines : List SaleLine
  deriving DecidableEq, Repr

/-- The context the Till Service keeps for the answer of a sale in flight (R55). -/
structure SaleContext where
  basket : Nat
  station : MacAddr
  port : Port
  deriving DecidableEq, Repr

/-- An entry of the till table (R44). The sale-in-flight flag is set exactly when there is a context (R55, R56). -/
structure TillEntry where
  phase : TillPhase
  station : Option MacAddr
  port : Option Port
  lastHeard : Nat
  quotes : Word
  inFlight : Option SaleContext
  deriving DecidableEq, Repr

/-- The four messages a till sends, read from a frame (R42, R208). -/
inductive TillMessage where
  | signOn
  | quoteAsk (ref : Nat) (article : Nat) (quantity : Nat)
  /-- the lines are those the frame holds: fewer than the line count when the frame falls short (R41) -/
  | salePut (basket day ms total lineCount : Nat) (lines : List SaleLine)
  | signOff
  deriving DecidableEq, Repr

/-- A till message handed over by the Forwarding Unit (R41, R149). -/
structure TillFrame where
  port : Port
  source : MacAddr
  till : Nat
  message : TillMessage
  deriving DecidableEq, Repr

/-- The Till Service (R44); entry i of the table is till id i + 1. -/
structure TillService where
  entries : Vector TillEntry 64
  inbox : List TillFrame
  deriving DecidableEq, Repr

/-! ### Journal Unit (chapter 4) -/

/-- Side of the alert level (R67). -/
inductive AlertSide where
  | below | above
  deriving DecidableEq, Repr

/-- Backed state as reported (R75, R206). -/
inductive BackedState where
  | unwritten | kept | formatted
  deriving DecidableEq, Repr

/-- The append in progress (R64, R65): handed over and about to start, or started with units reserved. -/
structure Append where
  sale : Sale
  started : Bool
  reserved : Nat
  deriving DecidableEq, Repr

/-- A release whose header write is in progress (R68, third case). -/
structure Release where
  upTo : Nat
  clear : Bool
  newHead : Nat
  units : Nat
  deriving DecidableEq, Repr

/-- The Journal Unit's working state (R62). -/
structure Journal where
  head : Nat
  used : Nat
  acked : Nat
  next : Nat
  fresh : Bool
  alertLevel : Nat
  side : AlertSide
  append : Option Append
  queue : List Sale
  release : Option Release
  backedState : BackedState
  deriving DecidableEq, Repr

/-! ### Label Service (chapter 5) -/

/-- States of a label (R78). -/
inductive LabelPhase where
  | idle | queued | sent | stale | unbinding
  deriving DecidableEq, Repr

/-- Stale reasons (R77). -/
inductive StaleReason where
  | noReason | noAnswer | rejected
  deriving DecidableEq, Repr

/-- Kinds of update (R83). -/
inductive UpdateKind where
  | fullUpdate | partialUpdate | blankUpdate
  deriving DecidableEq, Repr

/-- What a label has confirmed it shows (R77). -/
structure Confirmed where
  version : Nat
  template : Nat
  textRevision : Nat
  deriving DecidableEq, Repr

/-- The update in flight of a label (R77). -/
structure InFlightUpdate where
  tag : Nat
  kind : UpdateKind
  version : Nat
  template : Nat
  textRevision : Nat
  station : Nat
  deriving DecidableEq, Repr

/-- A label record (R77). -/
structure Label where
  id : Nat
  article : Option Nat
  template : Nat
  home : Option Nat
  lastHeard : Nat
  battery : Nat
  signal : Nat
  confirmed : Option Confirmed
  inFlight : Option InFlightUpdate
  attempts : Nat
  again : Bool
  blankDue : Bool
  staleReason : StaleReason
  phase : LabelPhase
  deriving DecidableEq, Repr

/-- A window of drawing blocks (R80). -/
structure Window where
  firstCol : Nat
  firstRow : Nat
  lastCol : Nat
  lastRow : Nat
  deriving DecidableEq, Repr

/-- A template (R79, R80). -/
structure Template where
  columns : Nat
  rows : Nat
  text : Window
  price : Window
  unitPrice : Window
  promo : Window
  colour : Bool
  deriving DecidableEq, Repr

/-- The Label Service (R76, R79, R86, R93). -/
structure LabelService where
  directory : Table Label
  templates : Table Template
  /-- label ids waiting with no home, rising -/
  homeless : List Nat
  maxAttempts : Nat
  deriving DecidableEq, Repr

/-! ### Base Station Link (chapter 6) -/

/-- States of a base station (R105). -/
inductive StationPhase where
  | active | lost
  deriving DecidableEq, Repr

/-- An in-flight record (R105). -/
structure InFlightRecord where
  tag : Nat
  label : Nat
  kind : UpdateKind
  cost : Nat
  deadline : Nat
  deriving DecidableEq, Repr

/-- A taken entry of the base station table (R105). Cost in flight is a function of it. -/
structure BaseStation where
  id : Nat
  address : MacAddr
  port : Port
  bootCount : Nat
  credit : Nat
  zone : Nat
  phase : StationPhase
  lastHeard : Nat
  inFlight : List InFlightRecord
  /-- label ids waiting to be picked, rising -/
  ready : List Nat
  waitingForBuffer : Bool
  deriving DecidableEq, Repr

/-- Outcomes of an update (R94). -/
inductive UpdateOutcome where
  | shown | rejected | noAnswer | returned
  deriving DecidableEq, Repr

/-- One sighting of a LABEL_SEEN (R104). -/
structure Sighting where
  label : Nat
  battery : Nat
  signal : Nat
  deriving DecidableEq, Repr

/-- The three messages a base station sends (R104). -/
inductive LabelMessage where
  | hello (bootCount credit zone : Nat)
  | seen (sightings : List Sighting)
  | result (tag label : Nat) (outcome : UpdateOutcome)
  deriving DecidableEq, Repr

/-- A label link message handed over by the Forwarding Unit (R103, R149). -/
structure LabelFrame where
  port : Port
  source : MacAddr
  station : Nat
  message : LabelMessage
  deriving DecidableEq, Repr

/-- What asks for an arbiter run (R113): a station's own event, or a buffer's return (R115). -/
inductive ArbiterCall where
  | station (id : Nat)
  | bufferReturned
  deriving DecidableEq, Repr

/-- The Base Station Link (R105, R112, R116). Taken entries never free again before a reset, so the list of taken
entries, at most 32, is the table in table order. -/
structure StationLink where
  table : List BaseStation
  nextTag : Nat
  slots : Nat
  /-- arbiter runs asked for in this step and still to make (log 10) -/
  due : List ArbiterCall
  inbox : List LabelFrame
  deriving DecidableEq, Repr

/-! ### Exchange Unit (chapter 7) -/

/-- Session states (R123). -/
inductive SessionState where
  | idle | opening | upload | download | closing
  deriving DecidableEq, Repr

/-- Outcomes of a session (R139). -/
inductive SessionOutcome where
  | noOutcome | complete | completeUnconfirmed | incomplete | aborted | failedNoAnswer | failedRefused | linkDown
  deriving DecidableEq, Repr

/-- The fields of one item entry as it is carried, codes unread (R24, R124, R212). -/
structure ItemEntry where
  article : Nat
  textLength : Nat
  text : List Byte
  saleKind : Nat
  measure : Nat
  packQty : Nat
  refQty : Nat
  base : Nat
  promo : Option Promotion
  deriving DecidableEq, Repr

/-- An entry of a batch (R124). -/
inductive BatchEntry where
  | change (article base : Nat) (promo : Option Promotion)
  | newItem (entry : ItemEntry)
  deriving DecidableEq, Repr

/-- A block of the upload window (R129). -/
structure Block where
  first : Nat
  last : Nat
  deriving DecidableEq, Repr

/-- The stage (R123, R134): the CRC is the running register, not yet inverted. -/
structure Stage where
  batch : Option Nat
  nextIndex : Nat
  entries : List BatchEntry
  crc : Word
  deriving DecidableEq, Repr

/-- The counts of a batch's dispositions (R136). -/
structure BatchCounts where
  applied : Nat
  skipped : Nat
  queried : Nat
  deriving DecidableEq, Repr

/-- The answer to the last batch applied in the session (R123, R136). -/
structure CommitAnswer where
  batch : Nat
  counts : BatchCounts
  deriving DecidableEq, Repr

/-- The totals carried in BYE (R123). -/
structure Totals where
  acknowledged : Nat
  batches : Nat
  counts : BatchCounts
  deriving DecidableEq, Repr

/-- What a session waits for while a release it asked for is in progress (R128, R130). -/
inductive Awaiting where
  | welcome | jack
  deriving DecidableEq, Repr

/-- The messages the server sends (R124). -/
inductive ServerMessage where
  | welcome (sequence : Nat)
  | jack (sequence : Nat)
  | pblock (batch index : Nat) (entries : List BatchEntry) (bytes : List Byte)
  | commit (batch count : Nat) (crc : Word)
  | noMore
  | byeAck
  | refuse (reason : Nat)
  deriving DecidableEq, Repr

/-- The Exchange Unit: parameters (R122) and session context (R123). Window start and end stand in the clock. -/
structure Exchange where
  branchId : Word
  ownIp : Ipv4Addr
  serverIp : Ipv4Addr
  udpPort : Nat
  retransmit : Nat
  maxTries : Nat
  /-- server idle limit in seconds -/
  idleLimit : Nat
  paramsSet : Bool
  lastBatch : Nat
  state : SessionState
  deadline : Nat
  tries : Nat
  resend : Option Nat
  serverHeard : Nat
  window : List Block
  nextToCut : Nat
  stage : Stage
  applying : Bool
  /-- entries of the batch being applied and not yet handed over -/
  rest : List BatchEntry
  /-- dispositions counted so far in the batch being applied -/
  counts : BatchCounts
  /-- the batch of the last commit mismatch, with count 1 -/
  mismatch : Option Nat
  lastAnswer : Option CommitAnswer
  totals : Totals
  uplinkUp : Bool
  lastOutcome : SessionOutcome
  awaiting : Option Awaiting
  inbox : List ServerMessage
  /-- datagrams sent, the model's own number for the open header fields (log 16) -/
  datagrams : Nat
  deriving DecidableEq, Repr

/-! ### Forwarding Unit (chapter 8) -/

/-- Port roles (R145). -/
inductive Role where
  | uplink | till | label | guest | office
  deriving DecidableEq, Repr

/-- An Ethernet frame, whole, its check sequence as it came or was given (log 1, log 49). -/
structure Frame where
  dest : MacAddr
  source : MacAddr
  etherType : EtherType
  payload : List Byte
  /-- the frame check sequence -/
  check : Word
  deriving DecidableEq, Repr

/-- The two MAC control frames the part sends (R157). -/
inductive PauseFrame where
  | pause | resume
  deriving DecidableEq, Repr

/-- What is on a port's wire: a frame holding a buffer, or a pause or resume frame (R154, R157). -/
inductive OnWire where
  | buffered (frame : Frame)
  | control (frame : Frame)
  deriving DecidableEq, Repr

/-- The seven counters of a port (R162). -/
structure PortCounters where
  framesIn : Word
  framesOut : Word
  noBuffer : Word
  queueCap : Word
  policy : Word
  guest : Word
  unknown : Word
  deriving DecidableEq, Repr

/-- Drop reasons (R162). -/
inductive DropReason where
  | noBuffer | queueCap | policy | guest | unknown
  deriving DecidableEq, Repr

/-- A port (R145, R154, R155, R157, R162, R163). -/
structure PortState where
  role : Option Role
  linkUp : Bool
  /-- LAN egress queue, oldest first -/
  lan : List Frame
  lanCap : Nat
  /-- pause and resume frames that wait for the port, oldest first -/
  control : List Frame
  wire : Option OnWire
  counters : PortCounters
  deriving DecidableEq, Repr

/-- Reasons of a delivery (R151). -/
inductive DeliveryReason where
  | broadcast | toAppliance | guestPortal
  deriving DecidableEq, Repr

/-- A frame awaiting delivery to the host (R156). -/
structure Delivery where
  frame : Frame
  ingress : Port
  reason : DeliveryReason
  deriving DecidableEq, Repr

/-- A record of the station table (R153). -/
structure StationRecord where
  port : Port
  lastSeen : Nat
  deriving DecidableEq, Repr

/-- The Forwarding Unit (R145-R163). -/
structure Forwarding where
  ports : PerPort PortState
  appliance : MacAddr
  controller : MacAddr
  gateway : MacAddr
  tillType : EtherType
  labelType : EtherType
  freeBuffers : Nat
  stations : Table StationRecord
  classes : PerClass (List Frame)
  classCaps : PerClass Nat
  pauseLevel : Nat
  resumeLevel : Nat
  paused : Bool
  tokens : Int
  rate : Nat
  depth : Nat
  day : Vector UplinkClass 32
  night : Vector UplinkClass 32
  pointer : Fin 32
  delivery : List Delivery
  deriving DecidableEq, Repr

/-! ### Guest Unit (chapter 9) -/

/-- States of a guest session (R164). -/
inductive GuestPhase where
  | held | admitted | lapsed
  deriving DecidableEq, Repr

/-- Lapse reasons (R164). -/
inductive LapseReason where
  | noLapse | spent | expired | revoked
  deriving DecidableEq, Repr

/-- A guest session (R164); the key is the station address. -/
structure GuestSession where
  port : Port
  phase : GuestPhase
  lapse : LapseReason
  budget : Nat
  used : Nat
  /-- seconds -/
  timeLimit : Nat
  admittedAt : Nat
  lastSeen : Nat
  deriving DecidableEq, Repr

/-- The Guest Unit (R164, R165). -/
structure GuestUnit where
  sessions : Table GuestSession
  defaultBudget : Nat
  defaultLimit : Nat
  deriving DecidableEq, Repr

/-! ### Branch Clock (chapter 10) -/

/-- Trading period (R179). -/
inductive Period where
  | closed | opened
  deriving DecidableEq, Repr

/-- Mode of the period, with its schedule (R179, R180). -/
inductive PeriodMode where
  | manual
  | scheduled (openAt closeAt : Nat)
  deriving DecidableEq, Repr

/-- The base of the time of day (R177). -/
structure ClockBase where
  day : Nat
  ms : Nat
  count : Nat
  deriving DecidableEq, Repr

/-- The Branch Clock (R176-R182). -/
structure Clock where
  /-- the monotonic count -/
  count : Nat
  /-- present exactly while the set flag is set -/
  base : Option ClockBase
  period : Period
  mode : PeriodMode
  windowStart : Nat
  windowEnd : Nat
  /-- set times reached by the running clock and not yet acted on (R178; log 12) -/
  openDue : Bool
  closeDue : Bool
  windowDue : Bool
  deriving DecidableEq, Repr

/-! ### The machine -/

/-- Faults: none. No rule stops the part: a chain fault and a journal format are states it goes on from
(R194, R72). -/
inductive Fault where
  deriving DecidableEq, Repr

/-- Refusals. -/
inductive Refusal where
  /-- Raised by `exec`'s arm for a command that has no meaning yet; safe: nothing can be proved of its effect. -/
  | notModelled (mnemonic : String)
  deriving DecidableEq, Repr

/-- What the part shows of itself outside its stores, the model's own record of it (log 28): the value the last read
of CAUSE returned (R201) and the number of messages sent over the PCIe link (R202). -/
structure HostSide where
  readData : Word
  interrupts : Nat
  deriving DecidableEq, Repr

/-- The whole machine. -/
structure State where
  /-- power is applied (log 6) -/
  powered : Bool
  /-- the common store (R188) -/
  store : Memory
  /-- the backed SRAM (R58) -/
  backed : Memory
  requests : RequestUnit
  price : PriceEngine
  tills : TillService
  journal : Journal
  labels : LabelService
  link : StationLink
  exchange : Exchange
  net : Forwarding
  guests : GuestUnit
  clock : Clock
  host : HostSide
  /-- index of the next free value (log 9) -/
  freeIndex : Nat
  /-- the commands that wait, first in first out -/
  pending : List Instr
  deriving DecidableEq, Repr

/-! ### Values after reset -/

/-- A chain after either reset (R187, R192). -/
def ChainState.reset : ChainState :=
  { phase := .off, current := 0, done := 0, fault := .noFault, inHand := none, stopping := false }

/-- The Request Unit after either reset, the start-up scan beginning (R185, R187). -/
def RequestUnit.reset : RequestUnit :=
  { runState := .stopped, startState := .checking, rememberedRun := false
    chains := ⟨.reset, .reset, .reset, .reset, .reset, .reset⟩
    written := 0, accepted := 0, dropped := 0, deliveryMiss := 0, causes := 0, enables := 0 }

/-- The Price Engine after either reset (R1, R40). -/
def PriceEngine.reset : PriceEngine := { items := [], down := 50, up := 100 }

/-- A till entry after either reset (R44). -/
def TillEntry.reset : TillEntry :=
  { phase := .absent, station := none, port := none, lastHeard := 0, quotes := 0, inFlight := none }

/-- The Till Service after either reset (R44). -/
def TillService.reset : TillService := { entries := Vector.replicate 64 .reset, inbox := [] }

/-- The Journal Unit's working state before the scan has built it (R62, R67; log 25). -/
def Journal.reset : Journal :=
  { head := 0, used := 0, acked := 0, next := 1, fresh := false, alertLevel := 100000, side := .below
    append := none, queue := [], release := none, backedState := .unwritten }

/-- The Label Service after either reset (R76, R79, R93). -/
def LabelService.reset : LabelService := { directory := [], templates := [], homeless := [], maxAttempts := 4 }

/-- The Base Station Link after either reset (R105, R112). -/
def StationLink.reset : StationLink := { table := [], nextTag := 1, slots := 512, due := [], inbox := [] }

/-- An empty stage, its CRC register preset (R123, R61). -/
def Stage.empty : Stage := { batch := none, nextIndex := 0, entries := [], crc := 0xFFFFFFFF }

/-- Counts of nothing (R136). -/
def BatchCounts.zero : BatchCounts := { applied := 0, skipped := 0, queried := 0 }

/-- Totals of nothing (R123). -/
def Totals.zero : Totals := { acknowledged := 0, batches := 0, counts := .zero }

/-- The Exchange Unit after either reset (R122, R123; log 25). -/
def Exchange.reset : Exchange :=
  { branchId := 0, ownIp := 0, serverIp := 0, udpPort := 47210, retransmit := 2000, maxTries := 6, idleLimit := 30
    paramsSet := false, lastBatch := 0, state := .idle, deadline := 0, tries := 0, resend := none, serverHeard := 0
    window := [], nextToCut := 0, stage := .empty, applying := false, rest := [], counts := .zero, mismatch := none
    lastAnswer := none, totals := .zero, uplinkUp := false, lastOutcome := .noOutcome, awaiting := none, inbox := []
    datagrams := 0 }

/-- Counters at 0 (R162). -/
def PortCounters.zero : PortCounters :=
  { framesIn := 0, framesOut := 0, noBuffer := 0, queueCap := 0, policy := 0, guest := 0, unknown := 0 }

/-- A port after either reset (R145, R155, R162). -/
def PortState.reset : PortState :=
  { role := none, linkUp := false, lan := [], lanCap := 256, control := [], wire := none, counters := .zero }

/-- The first half of the DAY table's default (R160). -/
def daySlots : Vector UplinkClass 16 :=
  #v[.payment, .store, .guest, .payment, .store, .payment, .store, .guest,
     .payment, .store, .payment, .store, .exchange, .payment, .store, .guest]

/-- The first quarter of the NIGHT table's default (R160). -/
def nightSlots : Vector UplinkClass 8 :=
  #v[.exchange, .store, .exchange, .payment, .exchange, .store, .exchange, .exchange]

/-- The Forwarding Unit after either reset (R145, R153-R160). -/
def Forwarding.reset : Forwarding :=
  { ports := ⟨.reset, .reset, .reset, .reset, .reset⟩, appliance := 0, controller := 0, gateway := 0
    tillType := 0x9B20, labelType := 0x9B21, freeBuffers := 4096, stations := []
    classes := ⟨[], [], [], []⟩, classCaps := ⟨256, 512, 64, 256⟩, pauseLevel := 192, resumeLevel := 64, paused := false
    tokens := 100000, rate := 20000, depth := 100000
    day := daySlots ++ daySlots
    night := nightSlots ++ nightSlots ++ nightSlots ++ nightSlots
    pointer := 0, delivery := [] }

/-- The Guest Unit after either reset (R164, R165). -/
def GuestUnit.reset : GuestUnit := { sessions := [], defaultBudget := 200000000, defaultLimit := 3600 }

/-- The Branch Clock after either reset (R176, R177, R179, R182). -/
def Clock.reset : Clock :=
  { count := 0, base := none, period := .closed, mode := .manual, windowStart := 3600000, windowEnd := 18000000
    openDue := false, closeDue := false, windowDue := false }

/-- The part right after its first power-on: the common store all 0 (R187), the backed SRAM as log 7 says, every
volatile state at its after-reset value, the start-up scan beginning (R187). -/
def State.reset : State :=
  { powered := true, store := [], backed := [], requests := .reset, price := .reset, tills := .reset, journal := .reset
    labels := .reset, link := .reset, exchange := .reset, net := .reset, guests := .reset, clock := .reset
    host := { readData := 0, interrupts := 0 }, freeIndex := 0, pending := [] }

end Sys2Proof.Machine
end

