-- ==== Sys2Proof/Machine/Bytes.lean ====
section
/-! DEFINITION. Machine/Bytes.lean: byte order (R203), fields of byte structures, and the one CRC of the part (R61). -/

namespace Sys2Proof.Machine

/-- The `n` low bytes of a number, least significant first (R203, stores). -/
def leBytes : Nat → Nat → List Byte
  | 0, _ => []
  | n + 1, v => BitVec.ofNat 8 v :: leBytes n (v / 256)

/-- The number whose bytes are given least significant first (R203, stores). -/
def leNat : List Byte → Nat
  | [] => 0
  | b :: bs => b.toNat + 256 * leNat bs

/-- The `n` low bytes of a number, most significant first (R203, frames and addresses). -/
def beBytes (n v : Nat) : List Byte := (leBytes n v).reverse

/-- The number whose bytes are given most significant first (R203, frames and addresses). -/
def beNat (bs : List Byte) : Nat := leNat bs.reverse

/-- `n` bytes of a structure from an offset. -/
def fieldBytes (bs : List Byte) (off n : Nat) : List Byte := (bs.drop off).take n

/-- A field of a store structure: least significant byte first. -/
def leField (bs : List Byte) (off n : Nat) : Nat := leNat (fieldBytes bs off n)

/-- A field of a frame, or an address held in wire order: most significant byte first. -/
def beField (bs : List Byte) (off n : Nat) : Nat := beNat (fieldBytes bs off n)

/-- `n` zero bytes. -/
def zeros (n : Nat) : List Byte := List.replicate n 0

/-- A text field: its length byte and 24 bytes, zero beyond the length (R203). -/
def textField (text : List Byte) : List Byte :=
  BitVec.ofNat 8 text.length :: (text.take 24 ++ zeros (24 - text.length))

/-- A byte of flags, bit 0 first. -/
def flagByte (bits : List Bool) : Nat :=
  match bits with
  | [] => 0
  | b :: bs => b.toNat + 2 * flagByte bs

/-- `bytes` written over a structure from an offset, the structure's length kept. -/
def patchBytes (bs : List Byte) (off : Nat) (bytes : List Byte) : List Byte :=
  (bs.take off ++ bytes ++ bs.drop (off + bytes.length)).take bs.length

/-! ### CRC-32 (R61) -/

/-- One bit of the CRC: generator 0x04C11DB7 with bits taken least significant first. -/
def crcBit (c : Word) : Word := if c.getLsbD 0 then (c >>> 1) ^^^ 0xEDB88320 else c >>> 1

/-- One byte of the CRC. -/
def crcByte (c : Word) (b : Byte) : Word :=
  crcBit (crcBit (crcBit (crcBit (crcBit (crcBit (crcBit (crcBit (c ^^^ b.setWidth 32))))))))

/-- The CRC register run on over bytes. -/
def crcRun (c : Word) (bs : List Byte) : Word := bs.foldl crcByte c

/-- The CRC-32 of bytes: register preset to all ones, result inverted (R61). -/
def crc32 (bs : List Byte) : Word := ~~~ (crcRun 0xFFFFFFFF bs)

end Sys2Proof.Machine
end

