-- ==== Sys2Proof/Machine/Ops.lean ====
section
/-! DEFINITION. Machine/Ops.lean: the named operations over maps, memories, ports, chains and the fields of State. -/

namespace Sys2Proof.Machine

/-! ### Maps -/

/-- The record of a key. -/
def Table.find {α : Type} : Table α → Nat → Option α
  | [], _ => none
  | (k, v) :: t, key => if k = key then some v else Table.find t key

/-- The map with a key's record set, keys kept rising. -/
def Table.put {α : Type} : Table α → Nat → α → Table α
  | [], key, x => [(key, x)]
  | (k, v) :: t, key, x =>
    if key < k then (key, x) :: (k, v) :: t
    else if key = k then (key, x) :: t
    else (k, v) :: Table.put t key x

/-- The map without a key's record. -/
def Table.del {α : Type} : Table α → Nat → Table α
  | [], _ => []
  | (k, v) :: t, key => if k = key then t else (k, v) :: Table.del t key

/-- The keys of a map rise strictly. -/
abbrev Table.rising {α : Type} (t : Table α) : Prop := t.Pairwise (fun a b => a.1 < b.1)

/-! ### Sets of ids, kept rising -/

/-- A set with an id added. -/
def setAdd : List Nat → Nat → List Nat
  | [], k => [k]
  | x :: xs, k => if k < x then k :: x :: xs else if k = x then x :: xs else x :: setAdd xs k

/-- A set with an id taken out. -/
def setDrop (xs : List Nat) (k : Nat) : List Nat := xs.filter (fun x => x != k)

/-! ### Memories -/

/-- The byte at an address: 0 where nothing is listed (R187; log 7). -/
def Memory.read (m : Memory) (a : Nat) : Byte := (Table.find m a).getD 0

/-- The memory with one byte written: a byte of 0 is not listed. -/
def Memory.write (m : Memory) (a : Nat) (b : Byte) : Memory :=
  if b = 0 then Table.del m a else Table.put m a b

/-- `n` bytes from an address on. -/
def Memory.readBytes (m : Memory) (a : Nat) : Nat → List Byte
  | 0 => []
  | n + 1 => m.read a :: Memory.readBytes m (a + 1) n

/-- Bytes written from an address on. -/
def Memory.writeBytes (m : Memory) (a : Nat) : List Byte → Memory
  | [] => m
  | b :: bs => Memory.writeBytes (m.write a b) (a + 1) bs

/-- The 32-bit word at an address (R189, R203). -/
def Memory.word (m : Memory) (a : Nat) : Word := BitVec.ofNat 32 (leNat (m.readBytes a 4))

/-- The memory with a 32-bit word written whole (R189, R203). -/
def Memory.setWord (m : Memory) (a : Nat) (v : Word) : Memory := m.writeBytes a (leBytes 4 v.toNat)

/-- The memory with every byte from `lo` up to but not including `hi` set to 0. -/
def Memory.clear (m : Memory) (lo hi : Nat) : Memory := m.filter (fun c => !(decide (lo ≤ c.1) && decide (c.1 < hi)))

/-- The canonical form: addresses strictly rising, no listed byte 0. -/
abbrev Memory.wf (m : Memory) : Prop := m.Pairwise (fun a b => a.1 < b.1) ∧ ∀ c ∈ m, c.2 ≠ 0

/-! ### Ports and chains -/

/-- The ports in order. -/
def Port.all : List Port := [.p0, .p1, .p2, .p3, .p4]

/-- The number of a port. -/
def Port.index : Port → Nat
  | .p0 => 0 | .p1 => 1 | .p2 => 2 | .p3 => 3 | .p4 => 4

/-- The port of a number. -/
def Port.ofIndex : Nat → Option Port
  | 0 => some .p0 | 1 => some .p1 | 2 => some .p2 | 3 => some .p3 | 4 => some .p4 | _ => none

/-- A port's share of something held per port. -/
def PerPort.get {α : Type} (x : PerPort α) : Port → α
  | .p0 => x.p0 | .p1 => x.p1 | .p2 => x.p2 | .p3 => x.p3 | .p4 => x.p4

/-- Something held per port, with one port's share replaced. -/
def PerPort.set {α : Type} (x : PerPort α) (p : Port) (v : α) : PerPort α :=
  match p with
  | .p0 => { x with p0 := v } | .p1 => { x with p1 := v } | .p2 => { x with p2 := v }
  | .p3 => { x with p3 := v } | .p4 => { x with p4 := v }

/-- The chains in directory order (R188). -/
def Chain.all : List Chain := [.setup, .price, .label, .net, .exchange, .delivery]

/-- The directory index of a chain (R188). -/
def Chain.index : Chain → Nat
  | .setup => 0 | .price => 1 | .label => 2 | .net => 3 | .exchange => 4 | .delivery => 5

/-- A chain's share of something held per chain. -/
def PerChain.get {α : Type} (x : PerChain α) : Chain → α
  | .setup => x.setup | .price => x.price | .label => x.label
  | .net => x.net | .exchange => x.exchange | .delivery => x.delivery

/-- Something held per chain, with one chain's share replaced. -/
def PerChain.set {α : Type} (x : PerChain α) (c : Chain) (v : α) : PerChain α :=
  match c with
  | .setup => { x with setup := v } | .price => { x with price := v } | .label => { x with label := v }
  | .net => { x with net := v } | .exchange => { x with exchange := v } | .delivery => { x with delivery := v }

/-- A class's share of something held per uplink class. -/
def PerClass.get {α : Type} (x : PerClass α) : UplinkClass → α
  | .payment => x.payment | .store => x.store | .exchange => x.exchange | .guest => x.guest

/-- Something held per uplink class, with one class's share replaced. -/
def PerClass.set {α : Type} (x : PerClass α) (c : UplinkClass) (v : α) : PerClass α :=
  match c with
  | .payment => { x with payment := v } | .store => { x with store := v }
  | .exchange => { x with exchange := v } | .guest => { x with guest := v }

/-! ### Fields of State -/

/-- The state with `powered` replaced. -/
def State.setPowered (s : State) (x : Bool) : State := { s with powered := x }

/-- The state with `store` replaced. -/
def State.setStore (s : State) (x : Memory) : State := { s with store := x }

/-- The state with `backed` replaced. -/
def State.setBacked (s : State) (x : Memory) : State := { s with backed := x }

/-- The state with `requests` replaced. -/
def State.setRequests (s : State) (x : RequestUnit) : State := { s with requests := x }

/-- The state with `price` replaced. -/
def State.setPrice (s : State) (x : PriceEngine) : State := { s with price := x }

/-- The state with `tills` replaced. -/
def State.setTills (s : State) (x : TillService) : State := { s with tills := x }

/-- The state with `journal` replaced. -/
def State.setJournal (s : State) (x : Journal) : State := { s with journal := x }

/-- The state with `labels` replaced. -/
def State.setLabels (s : State) (x : LabelService) : State := { s with labels := x }

/-- The state with `link` replaced. -/
def State.setLink (s : State) (x : StationLink) : State := { s with link := x }

/-- The state with `exchange` replaced. -/
def State.setExchange (s : State) (x : Exchange) : State := { s with exchange := x }

/-- The state with `net` replaced. -/
def State.setNet (s : State) (x : Forwarding) : State := { s with net := x }

/-- The state with `guests` replaced. -/
def State.setGuests (s : State) (x : GuestUnit) : State := { s with guests := x }

/-- The state with `clock` replaced. -/
def State.setClock (s : State) (x : Clock) : State := { s with clock := x }

/-- The state with `host` replaced. -/
def State.setHost (s : State) (x : HostSide) : State := { s with host := x }

/-- The state with `freeIndex` replaced. -/
def State.setFreeIndex (s : State) (x : Nat) : State := { s with freeIndex := x }

/-- The state with `pending` replaced. -/
def State.setPending (s : State) (x : List Instr) : State := { s with pending := x }

/-! ### The common store (R188-R190) -/

/-- The word of the store at an offset. -/
def State.storeWord (s : State) (off : Nat) : Word := s.store.word off

/-- The state with a word of the store written by the part. -/
def State.writeWord (s : State) (off : Nat) (v : Word) : State := s.setStore (s.store.setWord off v)

/-- The state with bytes of the store written by the part. -/
def State.writeStore (s : State) (off : Nat) (bs : List Byte) : State := s.setStore (s.store.writeBytes off bs)

/-- The state with a status block field written with a number (R190, R206). -/
def State.status (s : State) (off v : Nat) : State := s.writeWord off (BitVec.ofNat 32 v)

/-! ### The clock of the part (R176-R178, R183) -/

/-- Milliseconds of a day. -/
def msPerDay : Nat := 86400000

/-- The time of day a base gives at a monotonic count: day and milliseconds of day (R177, R178). -/
def ClockBase.timeAt (b : ClockBase) (count : Nat) : Nat × Nat :=
  let t := b.ms + (count - b.count)
  ((b.day + t / msPerDay) % 65536, t % msPerDay)

/-- The stamp of a notice: the time of day, or the count read as if set to day 0, 0 ms at the reset (R183). -/
def Clock.stamp (c : Clock) : Nat × Nat :=
  (c.base.getD { day := 0, ms := 0, count := 0 }).timeAt c.count

/-- The present monotonic count (R176). -/
def State.now (s : State) : Nat := s.clock.count

end Sys2Proof.Machine
end

