-- ==== Sys2Proof/Machine/Flags.lean ====
section
/-! DEFINITION. Machine/Flags.lean: the cause set and the message-signalled interrupt (R201, R202), the result codes
and result flags of a record (R195, R206), and the codes the status block and the images write (R206, R212). -/

namespace Sys2Proof.Machine

/-! ### Causes -/

/-- The code of a cause (R201). -/
def Cause.code : Cause → Nat
  | .fault => 1 | .logFull => 2 | .notice => 3 | .done => 4 | .delivered => 5

/-- A cause's bit in the cause set and in CAUSE_ENABLE (R205). -/
def Cause.bit (c : Cause) : BitVec 5 := 1#5 <<< (c.code - 1)

/-- The causes, highest first (R201). -/
def Cause.all : List Cause := [.fault, .logFull, .notice, .done, .delivered]

/-- The causes that are both pending and enabled (R202). -/
def RequestUnit.signalled (r : RequestUnit) : BitVec 5 := r.causes &&& r.enables

/-- The interrupts sent when the signalled set goes from one value to another: one exactly when it goes from empty
to non-empty (R202). -/
def interruptsSent (before after : BitVec 5) : Nat := if before = 0 ∧ after ≠ 0 then 1 else 0

/-- The state with the cause set and the enables replaced, and the message of R202 sent if the signalled set goes
from empty to non-empty. -/
def State.setCauses (s : State) (causes enables : BitVec 5) : State :=
  let r : RequestUnit := { s.requests with causes := causes, enables := enables }
  let sent := interruptsSent s.requests.signalled r.signalled
  (s.setRequests r).setHost { s.host with interrupts := s.host.interrupts + sent }

/-- A cause raised: raising a pending cause leaves it pending (R201). -/
def State.raise (s : State) (c : Cause) : State := s.setCauses (s.requests.causes ||| c.bit) s.requests.enables

/-- The highest pending cause (R201). -/
def RequestUnit.highest (r : RequestUnit) : Option Cause := Cause.all.find? (fun c => r.causes &&& c.bit != 0)

/-! ### Result codes and flags -/

/-- The result codes (R195). -/
inductive Code where
  | ok | queried | badKind | badForm | notFound | exists_ | tableFull | busy | refusedPeriod | shortRecord | noBuffer
  | badPromo | labelBound
  deriving DecidableEq, Repr

/-- The number of a result code (R206). -/
def Code.number : Code → Nat
  | .ok => 0 | .queried => 1 | .badKind => 2 | .badForm => 3 | .notFound => 4 | .exists_ => 5 | .tableFull => 6
  | .busy => 7 | .refusedPeriod => 8 | .shortRecord => 9 | .noBuffer => 10 | .badPromo => 11 | .labelBound => 12

/-- The codes that leave a record DONE (R195; LOAD_ITEMS has its own rule, R24). -/
def Code.isDone : Code → Bool
  | .ok => true
  | .queried => true
  | _ => false

/-- The result flags (R195, R206). -/
structure ResultFlags where
  adjusted : Bool
  unchanged : Bool
  noEffect : Bool
  cut : Bool
  deriving DecidableEq, Repr

/-- No flag set. -/
def ResultFlags.clear : ResultFlags := { adjusted := false, unchanged := false, noEffect := false, cut := false }

/-- The flags byte (R206). -/
def ResultFlags.byte (f : ResultFlags) : Byte :=
  BitVec.ofNat 8 (flagByte [f.adjusted, f.unchanged, f.noEffect, f.cut])

/-- What a request answers: the code, the record state, the flags, and the result parts written into the body, each
at its offset (R195, R212). -/
structure Reply where
  code : Code
  done : Bool
  flags : ResultFlags
  parts : List (Nat × List Byte)
  deriving DecidableEq, Repr

/-- A reply with a code, no flag, and result parts. -/
def Reply.plain (code : Code) (parts : List (Nat × List Byte)) : Reply :=
  { code := code, done := code.isDone, flags := .clear, parts := parts }

/-- A DONE reply with ADJUSTED as given. -/
def Reply.adjusted (flag : Bool) (parts : List (Nat × List Byte)) : Reply :=
  { code := .ok, done := true, flags := { ResultFlags.clear with adjusted := flag }, parts := parts }

/-- A DONE reply with UNCHANGED set. -/
def Reply.unchanged (parts : List (Nat × List Byte)) : Reply :=
  { code := .ok, done := true, flags := { ResultFlags.clear with unchanged := true }, parts := parts }

/-- A DONE reply with NO_EFFECT set. -/
def Reply.noEffect (parts : List (Nat × List Byte)) : Reply :=
  { code := .ok, done := true, flags := { ResultFlags.clear with noEffect := true }, parts := parts }

/-! ### Clamping (R195) -/

/-- A number brought to the nearest limit of a range. -/
def clampTo (lo hi v : Nat) : Nat := if v < lo then lo else if hi < v then hi else v

/-! ### Codes of the status block, the directory and the images (R206, R212) -/

def ChainPhase.code : ChainPhase → Nat
  | .off => 0 | .running => 1 | .parked => 2 | .faulted => 3

def FaultCode.code : FaultCode → Nat
  | .noFault => 0 | .badLink => 1 | .badLength => 2 | .notNew => 3

def BackedState.code : BackedState → Nat
  | .unwritten => 0 | .kept => 1 | .formatted => 2

def Period.code : Period → Nat
  | .closed => 0 | .opened => 1

def SessionState.code : SessionState → Nat
  | .idle => 0 | .opening => 1 | .upload => 2 | .download => 3 | .closing => 4

def SessionOutcome.code : SessionOutcome → Nat
  | .noOutcome => 0 | .complete => 1 | .completeUnconfirmed => 2 | .incomplete => 3 | .aborted => 4
  | .failedNoAnswer => 5 | .failedRefused => 6 | .linkDown => 7

def LabelPhase.code : LabelPhase → Nat
  | .idle => 0 | .queued => 1 | .sent => 2 | .stale => 3 | .unbinding => 4

def StaleReason.code : StaleReason → Nat
  | .noReason => 0 | .noAnswer => 1 | .rejected => 2

def UpdateKind.code : UpdateKind → Nat
  | .fullUpdate => 1 | .partialUpdate => 2 | .blankUpdate => 3

def SaleKind.code : SaleKind → Nat
  | .each => 0 | .weighed => 1

def SaleKind.ofCode : Nat → Option SaleKind
  | 0 => some .each | 1 => some .weighed | _ => none

def Measure.code : Measure → Nat
  | .gram => 0 | .millilitre => 1 | .piece => 2

def Measure.ofCode : Nat → Option Measure
  | 0 => some .gram | 1 => some .millilitre | 2 => some .piece | _ => none

def GuestPhase.code : GuestPhase → Nat
  | .held => 0 | .admitted => 1 | .lapsed => 2

def LapseReason.code : LapseReason → Nat
  | .noLapse => 0 | .spent => 1 | .expired => 2 | .revoked => 3

def AlertSide.code : AlertSide → Nat
  | .below => 0 | .above => 1

def PeriodMode.code : PeriodMode → Nat
  | .manual => 0
  | .scheduled _ _ => 1

def DeliveryReason.code : DeliveryReason → Nat
  | .broadcast => 1 | .toAppliance => 2 | .guestPortal => 3

/-- A role code: NONE is no role; a code that names none is refused (R204, R212). -/
def Role.ofCode : Nat → Option (Option Role)
  | 0 => some none
  | 1 => some (some .uplink)
  | 2 => some (some .till)
  | 3 => some (some .label)
  | 4 => some (some .guest)
  | 5 => some (some .office)
  | _ => none

def UplinkClass.ofCode : Nat → Option UplinkClass
  | 0 => some .payment | 1 => some .store | 2 => some .exchange | 3 => some .guest | _ => none

end Sys2Proof.Machine
end

