-- ==== Sys2Proof/Machine/Buffers.lean ====
section
/-! DEFINITION. Machine/Buffers.lean: frames, ports, the buffer pool, the LAN egress and class queues, pause and
resume (R154, R155, R157). -/

namespace Sys2Proof.Machine

/-! ### Frames -/

/-- The length of a frame in bytes, the Ethernet header and the four bytes of the check sequence among them (R148, R158,
R208; log 1). -/
def Frame.length (f : Frame) : Nat := 18 + f.payload.length

/-- The frame that bytes spell: destination, source, EtherType, the payload, and the check sequence in the last four
bytes (log 1, log 49). -/
def Frame.ofBytes (bs : List Byte) : Frame :=
  { dest := BitVec.ofNat 48 (beField bs 0 6), source := BitVec.ofNat 48 (beField bs 6 6)
    etherType := BitVec.ofNat 16 (beField bs 12 2), payload := fieldBytes bs 14 (bs.length - 18)
    check := BitVec.ofNat 32 (beField bs (bs.length - 4) 4) }

/-- The bytes of a frame before its check sequence. -/
def Frame.content (dest source : MacAddr) (etherType : EtherType) (payload : List Byte) : List Byte :=
  beBytes 6 dest.toNat ++ beBytes 6 source.toNat ++ beBytes 2 etherType.toNat ++ payload

/-- The bytes of a frame. -/
def Frame.toBytes (f : Frame) : List Byte :=
  Frame.content f.dest f.source f.etherType f.payload ++ beBytes 4 f.check.toNat

/-- A payload padded with zero bytes so that its frame has at least 64 bytes (R203). -/
def padPayload (bs : List Byte) : List Byte := bs ++ zeros (46 - bs.length)

/-- A frame the part makes: padded, and with its check sequence (R203; log 1, log 49). -/
def State.makeFrame (s : State) (dest : MacAddr) (etherType : EtherType) (payload : List Byte) : Frame :=
  let p := padPayload payload
  { dest := dest, source := s.net.controller, etherType := etherType, payload := p
    check := Config.frameCheck (Frame.content dest s.net.controller etherType p) }

/-- The address names a group: broadcast or multicast. -/
def isGroup (a : MacAddr) : Bool := a.getLsbD 40

/-- The broadcast address. -/
def broadcastAddr : MacAddr := 0xFFFFFFFFFFFF

/-! ### Ports and counters -/

/-- A port. -/
def State.port (s : State) (p : Port) : PortState := s.net.ports.get p

/-- The state with a port replaced. -/
def State.setPort (s : State) (p : Port) (x : PortState) : State :=
  s.setNet { s.net with ports := s.net.ports.set p x }

/-- The counters with a drop counted (R162). -/
def PortCounters.drop (c : PortCounters) : DropReason → PortCounters
  | .noBuffer => { c with noBuffer := c.noBuffer + 1 }
  | .queueCap => { c with queueCap := c.queueCap + 1 }
  | .policy => { c with policy := c.policy + 1 }
  | .guest => { c with guest := c.guest + 1 }
  | .unknown => { c with unknown := c.unknown + 1 }

/-- The counters with several drops of one reason counted. -/
def PortCounters.drops (c : PortCounters) (r : DropReason) : Nat → PortCounters
  | 0 => c
  | n + 1 => (c.drop r).drops r n

/-- Drops counted on a port. -/
def State.countDrops (s : State) (p : Port) (r : DropReason) (n : Nat) : State :=
  s.setPort p { s.port p with counters := (s.port p).counters.drops r n }

/-- One drop counted on a port. -/
def State.countDrop (s : State) (p : Port) (r : DropReason) : State :=
  s.setPort p { s.port p with counters := (s.port p).counters.drop r }

/-- A frame received whole counted (R148, R162). -/
def State.countIn (s : State) (p : Port) : State :=
  s.setPort p { s.port p with counters := { (s.port p).counters with framesIn := (s.port p).counters.framesIn + 1 } }

/-- The port with the UPLINK role (R145). -/
def Forwarding.uplink (n : Forwarding) : Option Port := Port.all.find? (fun p => (n.ports.get p).role == some .uplink)

/-- The port has a role. -/
def State.hasRole (s : State) (p : Port) (r : Role) : Bool := (s.port p).role == some r

/-! ### The buffer pool (R154) -/

/-- Buffers returned to the pool; each return is reported to the Base Station Link (R154, R115). -/
def State.returnBuffers (s : State) (n : Nat) : State :=
  let s := s.setNet { s.net with freeBuffers := s.net.freeBuffers + n }
  s.setLink { s.link with due := s.link.due ++ List.replicate n .bufferReturned }

/-! ### Pause and resume frames (R157) -/

/-- The quanta a pause or resume frame carries (R157). -/
def PauseFrame.quanta : PauseFrame → Nat
  | .pause => 65535 | .resume => 0

/-- The reserved control address, 01-80-C2-00-00-01 (R157). -/
def controlAddr : MacAddr := 0x0180C2000001

/-- The EtherType of a MAC control frame (R157). -/
def controlType : EtherType := 0x8808

/-- The code of the pause operation (R157 names it; log 36). -/
def pauseOperation : Nat := 1

/-- A pause or resume frame: to the reserved control address, from the controller, the pause operation and the quanta
(R157; log 36). -/
def State.pauseFrame (s : State) (k : PauseFrame) : Frame :=
  s.makeFrame controlAddr controlType (beBytes 2 pauseOperation ++ beBytes 2 k.quanta)

/-- A pause or resume frame given to a port to send; a port whose link is down sends none (log 29). -/
def State.sendControl (s : State) (p : Port) (k : PauseFrame) : State :=
  if (s.port p).linkUp then s.setPort p { s.port p with control := (s.port p).control ++ [s.pauseFrame k] } else s

/-- A pause or resume frame given to every GUEST port. -/
def State.sendControlGuest (s : State) (k : PauseFrame) : State :=
  Port.all.foldl (fun s p => if s.hasRole p .guest then s.sendControl p k else s) s

/-- The test when a frame has joined the GUEST queue (R157). -/
def State.pauseTest (s : State) : State :=
  if !s.net.paused && decide (s.net.pauseLevel ≤ s.net.classes.guest.length) then
    (s.setNet { s.net with paused := true }).sendControlGuest .pause
  else s

/-- The test when a frame has left the GUEST queue, or the queue has been freed (R157). -/
def State.resumeTest (s : State) : State :=
  if s.net.paused && decide (s.net.classes.guest.length ≤ s.net.resumeLevel) then
    (s.setNet { s.net with paused := false }).sendControlGuest .resume
  else s

/-! ### Joining a queue (R155) -/

/-- Where a frame is offered: a port's LAN egress queue, or a class queue of the uplink. -/
inductive Target where
  | lan (port : Port)
  | cls (c : UplinkClass)
  deriving DecidableEq, Repr

/-- Whether the link of the port a target leaves by is up (R152, R163). -/
def State.targetUp (s : State) : Target → Bool
  | .lan p => (s.port p).linkUp
  | .cls _ => match s.net.uplink with
    | some p => (s.port p).linkUp
    | none => false

/-- Whether the target's queue holds fewer frames than its cap (R155). -/
def State.hasRoom (s : State) : Target → Bool
  | .lan p => decide ((s.port p).lan.length < (s.port p).lanCap)
  | .cls c => decide ((s.net.classes.get c).length < s.net.classCaps.get c)

/-- Why a frame offered to a target is dropped, or none (R152, R155). DESIGN CHOICE: no rule orders the tests; a link that is
down is found before an empty pool (log 58). -/
def State.refusal (s : State) (t : Target) : Option DropReason :=
  if !s.targetUp t then some .unknown
  else if s.net.freeBuffers = 0 then some .noBuffer
  else if !s.hasRoom t then some .queueCap
  else none

/-- A frame joined to the end of its queue, taking a buffer (R154, R155), with the GUEST queue's pause test (R157). -/
def State.join (s : State) (t : Target) (f : Frame) : State :=
  let s := s.setNet { s.net with freeBuffers := s.net.freeBuffers - 1 }
  match t with
  | .lan p => s.setPort p { s.port p with lan := (s.port p).lan ++ [f] }
  | .cls c =>
    let s := s.setNet { s.net with classes := s.net.classes.set c (s.net.classes.get c ++ [f]) }
    if c = .guest then s.pauseTest else s

/-- A frame offered to a target: it joins, or its drop is counted on a port (R155). -/
def State.offer (s : State) (t : Target) (f : Frame) (countOn : Port) : State :=
  match s.refusal t with
  | some r => s.countDrop countOn r
  | none => s.join t f

/-- A frame of one of the part's own blocks offered to a LAN egress queue: a drop is counted on that port (R155). -/
def State.offerOwn (s : State) (p : Port) (f : Frame) : State := s.offer (.lan p) f p

/-! ### Freeing queues -/

/-- A port's LAN egress queue freed: each frame counted UNKNOWN on the port, each buffer returned (R146, R163). -/
def State.freeLan (s : State) (p : Port) : State :=
  let n := (s.port p).lan.length
  let s := s.setPort p { s.port p with lan := [] }
  (s.countDrops p .unknown n).returnBuffers n

/-- A class queue freed: each frame counted on a port with a reason, each buffer returned (R160, R163). -/
def State.freeClass (s : State) (c : UplinkClass) (countOn : Port) (r : DropReason) : State :=
  let n := (s.net.classes.get c).length
  let s := s.setNet { s.net with classes := s.net.classes.set c [] }
  (s.countDrops countOn r n).returnBuffers n

/-- A class queue freed with no port to count its frames on, each buffer returned. -/
def State.emptyClass (s : State) (c : UplinkClass) : State :=
  (s.setNet { s.net with classes := s.net.classes.set c [] }).returnBuffers (s.net.classes.get c).length

/-- The paused flag cleared, if set, with a resume frame on every GUEST port (R160, R163). -/
def State.endPause (s : State) : State :=
  if s.net.paused then (s.setNet { s.net with paused := false }).sendControlGuest .resume else s

/-- The four class queues freed as on the loss of the uplink's link (R146, R163). -/
def State.freeUplink (s : State) (countOn : Port) : State :=
  let s := s.freeClass .payment countOn .unknown
  let s := s.freeClass .store countOn .unknown
  let s := s.freeClass .exchange countOn .unknown
  let s := s.freeClass .guest countOn .unknown
  s.endPause

end Sys2Proof.Machine
end

