-- ==== Sys2Proof/Machine/Notices.lean ====
section
/-! DEFINITION. Machine/Notices.lean: the notice log (R198-R200) and the offsets of the status block (R206). -/

namespace Sys2Proof.Machine

/-! ### Offsets of the status block (R206) -/

def offStartState : Nat := 0x000
def offRunState : Nat := 0x004
def offBackedState : Nat := 0x008
def offPeriod : Nat := 0x00C
def offChainStates : Nat := 0x010
def offWritten : Nat := 0x028
def offDropped : Nat := 0x02C
def offDeliveryMiss : Nat := 0x030
def offDay : Nat := 0x034
def offMsOfDay : Nat := 0x038
def offClockSet : Nat := 0x03C
def offSession : Nat := 0x040
def offOutcome : Nat := 0x044
def offUnitsUsed : Nat := 0x048
def offUnitsFree : Nat := 0x04C
def offOldest : Nat := 0x050
def offNext : Nat := 0x054
def offLabelCounts : Nat := 0x058
def offGuests : Nat := 0x06C

/-- The notice read count the host writes (R188, R200). -/
def offReadCount : Nat := 0x580

/-- The notice log (R188). -/
def offLog : Nat := 0x1000

/-! ### Posting -/

/-- The notice kinds (R198, R206). -/
inductive NoticeKind where
  | labelStale | labelRecovered | labelBlankFailed | campaignDone | priceQueried | batchApplied | exchangeEnded
  | exchangeGap | journalLevel | journalRecovered | journalLost | tillSignedOn | tillSignedOff | baseStationFound
  | baseStationLost | guestLapsed | portLink | periodChanged
  deriving DecidableEq, Repr

/-- The number of a notice kind (R206). -/
def NoticeKind.code : NoticeKind → Nat
  | .labelStale => 1 | .labelRecovered => 2 | .labelBlankFailed => 3 | .campaignDone => 4 | .priceQueried => 5
  | .batchApplied => 6 | .exchangeEnded => 7 | .exchangeGap => 8 | .journalLevel => 9 | .journalRecovered => 10
  | .journalLost => 11 | .tillSignedOn => 12 | .tillSignedOff => 13 | .baseStationFound => 14 | .baseStationLost => 15
  | .guestLapsed => 16 | .portLink => 17 | .periodChanged => 18

/-- A detail of two parts: the first in bits 31-24, the second in bits 23-0 (R206). -/
def twoParts (hi lo : Nat) : Nat := (hi % 256) * 16777216 + lo % 16777216

/-- A notice entry as the log holds it (R206). -/
def noticeBytes (kind : NoticeKind) (subject detail : Nat) (stamp : Nat × Nat) : List Byte :=
  leBytes 1 kind.code ++ zeros 3 ++ leBytes 8 subject ++ leBytes 4 detail ++ leBytes 4 stamp.2 ++ leBytes 2 stamp.1
    ++ zeros 10

/-- The read count accepted at a post: the word offered if it lies within the span of unread notices, else the one
accepted before (R200). -/
def acceptedRead (written accepted offered : Word) : Word :=
  if offered - accepted ≤ written - accepted then offered else accepted

/-- A notice posted (R199): the read count is offered, then the notice is written and W raised, or dropped. -/
def State.post (s : State) (kind : NoticeKind) (subject detail : Nat) : State :=
  let a := acceptedRead s.requests.written s.requests.accepted (s.storeWord offReadCount)
  let s := s.setRequests { s.requests with accepted := a }
  if s.requests.written - a < 256 then
    let w := s.requests.written
    let s := s.writeStore (offLog + 32 * (w.toNat % 256)) (noticeBytes kind subject detail s.clock.stamp)
    let s := s.setRequests { s.requests with written := w + 1 }
    let s := (s.status offWritten (w + 1).toNat).raise .notice
    if w + 1 - a = 256 then s.raise .logFull else s
  else
    let d := s.requests.dropped + 1
    (s.setRequests { s.requests with dropped := d }).status offDropped d.toNat

end Sys2Proof.Machine
end

