-- ==== Sys2Proof/Machine/Journal.lean ====
section
/-! DEFINITION. Machine/Journal.lean: the backed SRAM, its pieces, the entry, mark and header formats, the start-up
scan, releases and reads (chapter 4, R207). The append itself stands in Machine/Appends.lean. -/

namespace Sys2Proof.Machine

/-! ### The areas (R58) -/

/-- The units of the journal area. -/
def journalUnits : Nat := 114688

/-- The address of a unit, counted modulo the area. -/
def unitAddr (unit : Nat) : Nat := 0x100000 + 64 * (unit % journalUnits)

/-- The address of a till's mark. -/
def markAddr (till : Nat) : Nat := 0x400 + 16 * (till - 1)

/-- The address of a header copy. -/
def headerAddr (copy : Nat) : Nat := 64 * copy

/-- A write to the backed SRAM: one piece, or the first units of the area set to zero one after the other (R58, R72). -/
inductive BackedWrite where
  | piece (addr : Nat) (bytes : List Byte)
  | zeroUnits (count : Nat)
  deriving DecidableEq, Repr

/-- A write made whole. -/
def BackedWrite.apply (m : Memory) : BackedWrite → Memory
  | .piece a bs => m.writeBytes a bs
  | .zeroUnits n => m.clear (unitAddr 0) (0x100000 + 64 * n)

/-- Writes made whole, in order. -/
def applyWrites (m : Memory) (ws : List BackedWrite) : Memory := ws.foldl BackedWrite.apply m

/-- A piece torn by a power loss: part old content, part new (R58); `isNew` says which bytes are new. -/
def tornPiece (isNew : Nat → Bool) (old new : List Byte) : List Byte :=
  (List.range new.length).map (fun i => if isNew i then new.getD i 0 else old.getD i 0)

/-- The piece a power loss falls in, written as far as it is; a controller reset begins no further piece (R58). -/
def cutPiece (torn : Option (Nat → Bool)) (m : Memory) (a : Nat) (bs : List Byte) : Memory :=
  match torn with
  | none => m
  | some isNew => m.writeBytes a (tornPiece isNew (m.readBytes a bs.length) bs)

/-- Writes cut short after `k` whole pieces (R58). -/
def cutWrites (torn : Option (Nat → Bool)) (m : Memory) : Nat → List BackedWrite → Memory
  | _, [] => m
  | k, .piece a bs :: ws =>
    match k with
    | 0 => cutPiece torn m a bs
    | k + 1 => cutWrites torn (m.writeBytes a bs) k ws
  | k, .zeroUnits n :: ws =>
    if k < n then cutPiece torn (m.clear (unitAddr 0) (unitAddr 0 + 64 * k)) (unitAddr k) (zeros 64)
    else cutWrites torn (m.clear (unitAddr 0) (unitAddr 0 + 64 * n)) (k - n) ws

/-! ### Headers (R59) -/

/-- The fields of a header copy. -/
structure Header where
  generation : Nat
  head : Nat
  acked : Nat
  next : Nat
  fresh : Bool
  deriving DecidableEq, Repr

/-- The 64 bytes of a header copy (R59; layout log 8). -/
def Header.bytes (h : Header) : List Byte :=
  let body := leBytes 4 Config.formatMark.toNat ++ leBytes 4 h.generation ++ leBytes 4 h.head ++ leBytes 4 h.acked
    ++ leBytes 4 h.next ++ leBytes 1 h.fresh.toNat ++ zeros 39
  body ++ leBytes 4 (crc32 body).toNat

/-- The header copy that 64 bytes hold, if it is valid (R59). -/
def Header.ofBytes (bs : List Byte) : Option Header :=
  if crc32 (bs.take 60) ≠ BitVec.ofNat 32 (leField bs 60 4) then none
  else if Config.formatMark ≠ BitVec.ofNat 32 (leField bs 0 4) then none
  else
    let h : Header := { generation := leField bs 4 4, head := leField bs 8 4, acked := leField bs 12 4
                        next := leField bs 16 4, fresh := leField bs 20 1 == 1 }
    if h.head < journalUnits ∧ h.acked < h.next then some h else none

/-- One generation is newer than another: it lies 1 to 2,147,483,647 above it, modulo 4,294,967,296 (R59). -/
def newerGeneration (a b : Nat) : Bool :=
  let d := (a + 4294967296 - b % 4294967296) % 4294967296
  decide (1 ≤ d) && decide (d ≤ 2147483647)

/-- The newest valid copy, with its number (R59; log 34). -/
def newestHeader (m : Memory) : Option (Header × Nat) :=
  match Header.ofBytes (m.readBytes (headerAddr 0) 64), Header.ofBytes (m.readBytes (headerAddr 1) 64) with
  | none, none => none
  | some a, none => some (a, 0)
  | none, some b => some (b, 1)
  | some a, some b => if newerGeneration b.generation a.generation then some (b, 1) else some (a, 0)

/-- A header write: into the copy that does not hold the newest generation, with a generation one above it (R59). -/
def headerWrite (m : Memory) (head acked next : Nat) (fresh : Bool) : BackedWrite :=
  let target := match newestHeader m with
    | some (h, copy) => (1 - copy, (h.generation + 1) % 4294967296)
    | none => (0, 1)
  .piece (headerAddr target.1)
    (Header.bytes { generation := target.2, head := head, acked := acked, next := next, fresh := fresh })

/-! ### Entries (R60, R207) -/

/-- The units an entry of n lines occupies (R60). -/
def unitsFor (n : Nat) : Nat := 1 + (n + 1) / 2

/-- A line as stored (R207). -/
def SaleLine.stored (l : SaleLine) : List Byte :=
  leBytes 8 l.article ++ leBytes 4 l.quantity ++ leBytes 4 l.amount ++ leBytes 4 l.version ++ leBytes 1 l.basis
    ++ zeros 11

/-- The line units of an entry, two lines a unit, the empty half zero (R60, R207). -/
def lineUnits : List SaleLine → List (List Byte)
  | [] => []
  | [a] => [a.stored ++ zeros 32]
  | a :: b :: rest => (a.stored ++ b.stored) :: lineUnits rest

/-- The bytes of an entry's first unit before its CRC (R207). -/
def entryHead (sequence : Nat) (s : Sale) : List Byte :=
  leBytes 4 sequence ++ leBytes 4 s.basket ++ leBytes 4 s.total ++ leBytes 4 s.ms ++ leBytes 2 s.day
    ++ leBytes 1 s.till ++ leBytes 1 s.lines.length ++ zeros 40

/-- The units of an entry: the first with the CRC over its first 60 bytes and the line units, then those (R207). -/
def entryUnits (sequence : Nat) (s : Sale) : List (List Byte) :=
  let head := entryHead sequence s
  let rest := lineUnits s.lines
  (head ++ leBytes 4 (crc32 (head ++ rest.flatten)).toNat) :: rest

/-- The writes of an entry at a unit: its line units, and its first unit last (R65). -/
def entryWrites (unit sequence : Nat) (s : Sale) : List BackedWrite :=
  match (entryUnits sequence s).zipIdx.map (fun u => BackedWrite.piece (unitAddr (unit + u.2)) u.1) with
  | [] => []
  | first :: rest => rest ++ [first]

/-- Units of the area from one on, as bytes. -/
def unitBytes (m : Memory) (unit : Nat) : Nat → List Byte
  | 0 => []
  | n + 1 => m.readBytes (unitAddr unit) 64 ++ unitBytes m (unit + 1) n

/-- The size of the entry that begins at a unit, from its line count. -/
def entrySize (m : Memory) (unit : Nat) : Nat := unitsFor (m.read (unitAddr unit + 19)).toNat

/-- The units of a number of entries from a unit on. -/
def passUnits (m : Memory) : Nat → Nat → Nat
  | 0, _ => 0
  | k + 1, unit => entrySize m unit + passUnits m k (unit + entrySize m unit)

/-- A number of whole entries from a unit on, each as it is stored. -/
def storedEntries (m : Memory) : Nat → Nat → List (List Byte)
  | 0, _ => []
  | k + 1, unit => unitBytes m unit (entrySize m unit) :: storedEntries m k (unit + entrySize m unit)

/-! ### Marks (R63) -/

/-- A till mark as stored (R207). -/
def markBytes (basket sequence : Nat) : List Byte :=
  let body := leBytes 4 basket ++ leBytes 4 sequence ++ zeros 4
  body ++ leBytes 4 (crc32 body).toNat

/-- The write of a till's mark. -/
def markWrite (till basket sequence : Nat) : BackedWrite := .piece (markAddr till) (markBytes basket sequence)

/-- A till's mark as it stands: basket number and sequence (R63). -/
def State.mark (s : State) (till : Nat) : Nat × Nat :=
  let bs := s.backed.readBytes (markAddr till) 16
  (leField bs 0 4, leField bs 4 4)

/-! ### The start-up scan (4.6) -/

/-- What the walk learns of an entry it accepts. -/
structure WalkedEntry where
  till : Nat
  basket : Nat
  sequence : Nat
  units : Nat
  deriving DecidableEq, Repr

/-- The entry at a unit, if it passes the checks of R73 with `used` units accepted before it. -/
def acceptEntry (m : Memory) (unit sequence used : Nat) : Option WalkedEntry :=
  let first := m.readBytes (unitAddr unit) 64
  let n := leField first 19 1
  let e : WalkedEntry := { till := leField first 18 1, basket := leField first 4 4, sequence := leField first 0 4
                           units := unitsFor n }
  if n = 0 ∨ e.till = 0 ∨ 64 < e.till ∨ e.sequence ≠ sequence ∨ journalUnits < used + e.units then none
  else if crc32 (first.take 60 ++ unitBytes m (unit + 1) (e.units - 1)) ≠ BitVec.ofNat 32 (leField first 60 4) then none
  else some e

/-- The walk (R73); every entry takes two units at least, so the area bounds its length. -/
def walk (m : Memory) : Nat → Nat → Nat → Nat → List WalkedEntry
  | 0, _, _, _ => []
  | fuel + 1, unit, sequence, used =>
    match acceptEntry m unit sequence used with
    | none => []
    | some e => e :: walk m fuel (unit + e.units) (sequence + 1) (used + e.units)

/-- The mark write the scan makes for a till, if any (R74). -/
def markRaise (m : Memory) (entries : List WalkedEntry) (till : Nat) : List BackedWrite :=
  let bs := m.readBytes (markAddr till) 16
  let own := entries.filter (fun e => e.till == till)
  if crc32 (bs.take 12) ≠ BitVec.ofNat 32 (leField bs 12 4) then
    match own.getLast? with
    | none => [markWrite till 0 0]
    | some e => [markWrite till e.basket e.sequence]
  else if own.any (fun e => decide (leField bs 0 4 ≤ e.basket)) then
    match own.getLast? with
    | none => []
    | some e => [markWrite till e.basket e.sequence]
  else []

/-- The till ids. -/
def tillIds : List Nat := (List.range 64).map (· + 1)

/-- What a scan does to the backed SRAM and what it builds. -/
structure ScanResult where
  writes : List BackedWrite
  formatted : Bool
  head : Nat
  used : Nat
  acked : Nat
  next : Nat
  fresh : Bool
  deriving DecidableEq, Repr

/-- The header copies a format writes (R72). -/
def formatHeader (generation : Nat) : Header :=
  { generation := generation, head := 0, acked := 0, next := 1, fresh := true }

/-- A format (R72). -/
def formatResult : ScanResult :=
  { writes := [.piece (headerAddr 0) (zeros 4), .piece (headerAddr 1) (zeros 4), .zeroUnits journalUnits]
      ++ tillIds.map (fun t => markWrite t 0 0)
      ++ [.piece (headerAddr 0) (formatHeader 1).bytes, .piece (headerAddr 1) (formatHeader 2).bytes]
    formatted := true, head := 0, used := 0, acked := 0, next := 1, fresh := true }

/-- A scan of the backed SRAM (R70-R74). DESIGN CHOICE: a format cut off between its two header writes has left copy 0
valid by R59, so that this scan keeps the empty journal as R71 has it, and does not format again as R72 has it (log 50). -/
def scan (m : Memory) : ScanResult :=
  match newestHeader m with
  | none => formatResult
  | some (h, _) =>
    let entries := walk m (journalUnits / 2) h.head (h.acked + 1) 0
    let next := h.acked + 1 + entries.length
    if next < h.next then formatResult
    else
      { writes := (if next = h.next then [] else [headerWrite m h.head h.acked next h.fresh])
          ++ tillIds.flatMap (markRaise m entries)
        formatted := false, head := h.head, used := (entries.map WalkedEntry.units).sum, acked := h.acked, next := next
        fresh := h.fresh }

/-! ### The working state (R62) -/

/-- The units reserved by the append in progress (R62). -/
def Journal.reservedUnits (j : Journal) : Nat := (j.append.map Append.reserved).getD 0

/-- Free units (R62). -/
def Journal.freeUnits (j : Journal) : Nat := journalUnits - j.used - j.reservedUnits

/-- The tail unit (R62). -/
def Journal.tail (j : Journal) : Nat := (j.head + j.used) % journalUnits

/-- The number of entries (R62). -/
def Journal.entries (j : Journal) : Nat := j.next - 1 - j.acked

/-- The side of the alert level on which the units used stand (R67). -/
def Journal.sideNow (j : Journal) : AlertSide := if j.alertLevel ≤ j.used then .above else .below

/-- The status block's journal fields written: the backed state and the counts (R75). -/
def State.writeJournalCounts (s : State) : State :=
  let s := s.status offBackedState s.journal.backedState.code
  let s := s.status offUnitsUsed s.journal.used
  let s := s.status offUnitsFree s.journal.freeUnits
  let s := s.status offOldest (s.journal.acked + 1)
  s.status offNext s.journal.next

/-- The test of the alert level (R67). -/
def State.testAlert (s : State) : State :=
  let side := s.journal.sideNow
  if side = s.journal.side then s
  else
    (s.setJournal { s.journal with side := side }).post .journalLevel 0
      (twoParts (if side = .above then 1 else 2) s.journal.used)

/-- The side set at the end of the scan: JOURNAL_LEVEL UP is posted if it is ABOVE, nothing if it is BELOW (R67). -/
def State.sideAfterScan (s : State) : State :=
  let side := s.journal.sideNow
  let s := s.setJournal { s.journal with side := side }
  if side = .above then s.post .journalLevel 0 (twoParts 1 s.journal.used) else s

/-- A header write made, of the working state as it stands (R59). -/
def State.writeHeader (s : State) : State :=
  let j := s.journal
  s.setBacked ((headerWrite s.backed j.head j.acked j.next j.fresh).apply s.backed)

/-- The backed state kept for the status block and READ_JOURNAL_STATE (R75). -/
def State.setBackedState (s : State) (b : BackedState) : State := s.setJournal { s.journal with backedState := b }

/-- The start-up scan run to its end, up to the setting of READY (R70-R75). -/
def State.runScan (s : State) : State :=
  let r := scan s.backed
  let s := s.setBacked (applyWrites s.backed r.writes)
  let s := s.setJournal { s.journal with head := r.head, used := r.used, acked := r.acked, next := r.next, fresh := r.fresh }
  let s :=
    if r.formatted then ((s.setBackedState .formatted).raise .fault).post .journalLost 0 0
    else (s.setBackedState .kept).post .journalRecovered 0 s.journal.entries
  s.sideAfterScan.writeJournalCounts

/-! ### Release and reading (R68, R69) -/

/-- How a release request goes on (R68): BEYOND, DONE at once, or a header write in progress (log 20). -/
inductive ReleaseReply where
  | beyond | done | started
  deriving DecidableEq, Repr

/-- A release up to a sequence asked for (R68). DESIGN CHOICE: one at or below the acknowledged sequence writes a header
only when it clears FRESH, and writes it at once (log 20); the status block's journal fields are written at its end, also
when nothing has moved (R75; log 61). -/
def State.releaseRequest (s : State) (upTo : Nat) (clear : Bool) : State × ReleaseReply :=
  let j := s.journal
  if j.next ≤ upTo then (s, .beyond)
  else if upTo ≤ j.acked then
    if clear && j.fresh then
      ((s.setJournal { j with fresh := false }).writeHeader.writeJournalCounts, .done)
    else (s.writeJournalCounts, .done)
  else
    let units := passUnits s.backed (upTo - j.acked) j.head
    let r : Release := { upTo := upTo, clear := clear, newHead := (j.head + units) % journalUnits, units := units }
    (s.setJournal { j with release := some r }, .started)

/-- A release's header write made and the release completed (R68, steps 2 to 4). -/
def State.completeRelease (s : State) (r : Release) : State :=
  let j := s.journal
  let s := s.setJournal { j with head := r.newHead, acked := r.upTo, fresh := j.fresh && !r.clear, release := none
                                 used := j.used - r.units }
  s.writeHeader.writeJournalCounts.testAlert

/-- The entries a read returns, each as it is stored (R69). -/
def State.journalRead (s : State) (first count : Nat) : List (List Byte) :=
  let j := s.journal
  if first ≤ j.acked ∨ j.next ≤ first then []
  else
    let unit := j.head + passUnits s.backed (first - j.acked - 1) j.head
    storedEntries s.backed (min count (j.next - first)) unit

/-! ### Interruption (R58, R66, R70; log 9) -/

/-- The next sequence as the working state holds it once `k` pieces of an append's writes are whole: one higher once its
header is, which is the last of them (R65, step 3). -/
def Journal.nextAfter (j : Journal) (appendWrites : List BackedWrite) (k : Nat) : Nat :=
  if appendWrites ≠ [] ∧ appendWrites.length ≤ k then j.next + 1 else j.next

/-- The backed SRAM after a reset or a power loss has cut short what was being written: the scan's writes while the
part is CHECKING, else the append's, and then the header write of a release in progress, which records the next sequence
as it stands at that write (R59). -/
def State.interrupted (s : State) (appendWrites : List BackedWrite) (powerLoss : Bool) : Memory :=
  let torn : Option (Nat → Bool) := if powerLoss then some (Config.tornByteIsNew s.freeIndex) else none
  let k := Config.piecesDone s.freeIndex
  if s.requests.startState = .checking then cutWrites torn s.backed k (scan s.backed).writes
  else
    let m := cutWrites torn s.backed k appendWrites
    match s.journal.release with
    | none => m
    | some r =>
      let j := s.journal
      let w := headerWrite m r.newHead r.upTo (j.nextAfter appendWrites k) (j.fresh && !r.clear)
      if Config.releaseHeaderDone s.freeIndex then w.apply m else cutWrites torn m 0 [w]

end Sys2Proof.Machine
end

