-- ==== Sys2Proof/Machine/PriceArithmetic.lean ====
section
/-! DEFINITION. Machine/PriceArithmetic.lean: chapter 2, on exact integers (R28). -/

namespace Sys2Proof.Machine

/-- The amount above which a line is OVERLIMIT (R33). -/
def overlimit : Nat := 99999999

/-- The line amount of one version and one quantity before the bound is tested (R30, R31, R32). -/
def lineAmount (kind : SaleKind) (v : Version) (quantity : Nat) : Nat :=
  match kind, v.promo with
  | .each, none => v.base * quantity
  | .each, some p => quantity / p.n * p.t + quantity % p.n * v.base
  | .weighed, _ => (v.base * quantity + 500) / 1000

/-- The valid line amount of one version, or none when it is OVERLIMIT (R33). -/
def validAmount (kind : SaleKind) (v : Version) (quantity : Nat) : Option Nat :=
  let a := lineAmount kind v quantity
  if a ≤ overlimit then some a else none

/-- The basis of a quote line (R34). -/
inductive Basis where
  | current | pending
  deriving DecidableEq, Repr

/-- The code of a basis (R208). -/
def Basis.code : Basis → Nat
  | .current => 0 | .pending => 1

/-- The lower of two (R34): amount and basis, or none when the line is OVERLIMIT under every version. -/
def lowerOfTwo (item : Item) (quantity : Nat) : Option (Nat × Basis) :=
  let cur := validAmount item.saleKind item.current quantity
  match item.pending with
  | none => cur.map (fun a => (a, .current))
  | some v =>
    match cur, validAmount item.saleKind v quantity with
    | some a, some b => if a ≤ b then some (a, .current) else some (b, .pending)
    | some a, none => some (a, .current)
    | none, some b => some (b, .pending)
    | none, none => none

/-- The unit price of a base price and whether it is clamped (R36). -/
def unitPriceOf (item : Item) (base : Nat) : Nat × Bool :=
  let u := match item.saleKind with
    | .weighed => base
    | .each => (base * item.refQty + item.packQty / 2) / item.packQty
  if 9999999 < u then (9999999, true) else (u, false)

/-- The status of a quote (R35, R42). -/
inductive QuoteStatus where
  | ok | notFound | overlimit | badQuantity | notSignedOn
  deriving DecidableEq, Repr

/-- The code of a quote status (R208: in the order R42 lists them, from 0). -/
def QuoteStatus.code : QuoteStatus → Nat
  | .ok => 0 | .notFound => 1 | .overlimit => 2 | .badQuantity => 3 | .notSignedOn => 4

/-- A quote result (R35). -/
structure Quote where
  status : QuoteStatus
  amount : Nat
  basis : Basis
  version : Nat
  unitPrice : Nat
  clamped : Bool
  text : List Byte
  deriving DecidableEq, Repr

/-- The fields of a quote that gives no article (R35, R50). -/
def Quote.empty (status : QuoteStatus) : Quote :=
  { status := status, amount := 0, basis := .current, version := 0, unitPrice := 0, clamped := false, text := [] }

/-- The largest quantity of a line (R29). -/
def maxQuantity : SaleKind → Nat
  | .each => 999
  | .weighed => 99999

/-- The fields of a quote taken from one version of an item (R35). -/
def Quote.ofVersion (item : Item) (v : Version) (status : QuoteStatus) (amount : Nat) (basis : Basis) : Quote :=
  let u := unitPriceOf item v.base
  { status := status, amount := amount, basis := basis, version := v.number, unitPrice := u.1, clamped := u.2
    text := item.text }

/-- The quote of an item and a quantity (R29, R34, R35). -/
def itemQuote (item : Item) (quantity : Nat) : Quote :=
  if quantity = 0 ∨ maxQuantity item.saleKind < quantity then .empty .badQuantity
  else match lowerOfTwo item quantity with
    | none => .ofVersion item item.current .overlimit 0 .current
    | some (a, .current) => .ofVersion item item.current .ok a .current
    | some (a, .pending) => .ofVersion item (item.pending.getD item.current) .ok a .pending

/-- The quote of an article and a quantity (R29). -/
def PriceEngine.quote (p : PriceEngine) (article quantity : Nat) : Quote :=
  match p.items.find article with
  | none => .empty .notFound
  | some item => itemQuote item quantity

/-- The promotion test (R38). -/
def promoValid (kind : SaleKind) (base : Nat) (p : Promotion) : Bool :=
  kind == .each && decide (2 ≤ p.n) && decide (p.n ≤ 99) && decide (1 ≤ p.t) && decide (p.t ≤ 9999999)
    && decide (p.t < p.n * base)

/-- A change or an entry with an optional promotion passes the promotion test: one without is not tested (R38). -/
def promoPasses (kind : SaleKind) (base : Nat) : Option Promotion → Bool
  | none => true
  | some p => promoValid kind base p

/-- The low bound of the plausibility window (R39). -/
def windowLow (down old : Nat) : Nat := old * (100 - down) / 100

/-- The high bound of the plausibility window (R39). -/
def windowHigh (up old : Nat) : Nat := (old * (100 + up) + 99) / 100

/-- A new base price lies inside the window (R39). -/
def insideWindow (p : PriceEngine) (old new : Nat) : Bool :=
  decide (windowLow p.down old ≤ new) && decide (new ≤ windowHigh p.up old)

/-- The display values of a version (R37). -/
structure Display where
  price : Nat
  unitPrice : Nat
  clamped : Bool
  promo : Option Promotion
  deriving DecidableEq, Repr

/-- The display values of a version of an item (R37); the promotion colour is PROMO exactly when there is a
promotion. -/
def displayOf (item : Item) (v : Version) : Display :=
  let u := unitPriceOf item v.base
  { price := v.base, unitPrice := u.1, clamped := u.2, promo := v.promo }

/-- The version of an item that carries a number: its current or its pending version, or none when the version is
gone (R37). -/
def Item.versionOf (item : Item) (number : Nat) : Option Version :=
  if item.current.number = number then some item.current
  else match item.pending with
    | some v => if v.number = number then some v else none
    | none => none

end Sys2Proof.Machine
end

