-- ==== Sys2Proof/Machine/Items.lean ====
section
/-! DEFINITION. Machine/Items.lean: the item table and the parts of a change that touch one item alone (R1-R7). -/

namespace Sys2Proof.Machine

/-- Item states (R7). -/
inductive ItemState where
  | settled | campaign | held
  deriving DecidableEq, Repr

/-- The item state (R7). -/
def Item.state (i : Item) : ItemState :=
  match i.pending with
  | none => .settled
  | some _ => if i.staleCount = 0 then .campaign else .held

/-- The code of an item state (R212). -/
def ItemState.code : ItemState → Nat
  | .settled => 0 | .campaign => 1 | .held => 2

/-- The largest article number (R1). -/
def maxArticle : Nat := 99999999999999

/-- The largest base price (R3). -/
def maxBase : Nat := 9999999

/-- The item of an article. -/
def State.item (s : State) (article : Nat) : Option Item := s.price.items.find article

/-- The state with an item record stored under its article. -/
def State.putItem (s : State) (i : Item) : State :=
  s.setPrice { s.price with items := s.price.items.put i.article i }

/-- The number after a version number (R3). -/
def nextNumber (last : Nat) : Nat := if last = 4294967295 then 1 else last + 1

/-- The version a change would follow (R9): the pending version, or else the current version. -/
def Item.followed (i : Item) : Version := i.pending.getD i.current

/-- The dispositions of a change (R8, R27). -/
inductive Disposition where
  | none_ | current | pending | waiting
  deriving DecidableEq, Repr

/-- The code of a disposition (R212). -/
def Disposition.code : Disposition → Nat
  | .none_ => 0 | .current => 1 | .pending => 2 | .waiting => 3

/-- The outcome of a change (R8-R13). -/
inductive ChangeResult where
  | notFound | badForm | badPromo | unchanged | queried
  | placed (disposition : Disposition) (version : Nat)
  deriving DecidableEq, Repr

/-- The item entry an entry of LOAD_ITEMS or a NEW_ITEM inserts, or the result that refuses its form (R24). -/
def ItemEntry.check (e : ItemEntry) (origin : Nat) : Except Code Item :=
  match SaleKind.ofCode e.saleKind, Measure.ofCode e.measure with
  | some kind, some measure =>
    if e.article = 0 ∨ maxArticle < e.article ∨ e.textLength = 0 ∨ 24 < e.textLength
        ∨ (kind = .weighed ∧ measure ≠ .gram) ∨ e.packQty = 0 ∨ 100000 < e.packQty
        ∨ (kind = .each ∧ e.refQty ≠ 1 ∧ e.refQty ≠ 100 ∧ e.refQty ≠ 1000) ∨ maxBase < e.base then
      .error .badForm
    else if !promoPasses kind e.base e.promo then .error .badPromo
    else .ok
      { article := e.article, text := e.text.take e.textLength, textRevision := 0, saleKind := kind, measure := measure
        packQty := e.packQty, refQty := if kind = .weighed then 1000 else e.refQty
        current := { number := 1, base := e.base, promo := e.promo }, pending := none, waiting := none, lastVersion := 1
        labels := [], outstanding := 0, staleCount := 0, origin := origin }
  | _, _ => .error .badForm

/-- One item entry taken (R24): the state after it and the entry's result. -/
def State.loadEntry (s : State) (e : ItemEntry) (origin : Nat) : State × Code :=
  match e.check origin with
  | .error c => (s, c)
  | .ok item =>
    if (s.item e.article).isSome then (s, .exists_)
    else if 65536 ≤ s.price.items.length then (s, .tableFull)
    else (s.putItem item, .ok)

end Sys2Proof.Machine
end

