-- ==== Sys2Proof/Machine/Labels.lean ====
section
/-! DEFINITION. Machine/Labels.lean: the label directory, the sets labels wait in, and the campaign between the Label
Service and the Price Engine (R5-R7, R10-R22, R76-R102). -/

namespace Sys2Proof.Machine

/-! ### The directory -/

/-- A label record. -/
def State.label (s : State) (id : Nat) : Option Label := s.labels.directory.find id

/-- How many labels are in a state (R78). -/
def phaseCount (t : Table Label) (p : LabelPhase) : Nat := t.countP (fun e => e.2.phase == p)

/-- The five counts of R78, in the order of the status block (R206). -/
def phaseCounts (t : Table Label) : List Nat :=
  [phaseCount t .idle, phaseCount t .queued, phaseCount t .sent, phaseCount t .stale, phaseCount t .unbinding]

/-- The five counts written into the status block (R78, R206). -/
def State.writeLabelCounts (s : State) : State :=
  let t := s.labels.directory
  let s := s.status offLabelCounts (phaseCount t .idle)
  let s := s.status (offLabelCounts + 4) (phaseCount t .queued)
  let s := s.status (offLabelCounts + 8) (phaseCount t .sent)
  let s := s.status (offLabelCounts + 12) (phaseCount t .stale)
  s.status (offLabelCounts + 16) (phaseCount t .unbinding)

/-- The state with the directory replaced; the five counts are written when one of them changes (R78). -/
def State.setDirectory (s : State) (t : Table Label) : State :=
  let after := s.setLabels { s.labels with directory := t }
  if phaseCounts t = phaseCounts s.labels.directory then after else after.writeLabelCounts

/-- The state with a label record stored. -/
def State.putLabel (s : State) (l : Label) : State := s.setDirectory (s.labels.directory.put l.id l)

/-- The state with a label record removed. -/
def State.delLabel (s : State) (id : Nat) : State := s.setDirectory (s.labels.directory.del id)

/-- How many directory records name a template (R80). -/
def LabelService.templateUsers (ls : LabelService) (template : Nat) : Nat :=
  ls.directory.countP (fun e => e.2.template == template)

/-! ### Waiting (R86) -/

/-- A taken entry of the base station table. -/
def State.station (s : State) (id : Nat) : Option BaseStation := s.link.table.find? (fun b => b.id == id)

/-- The state with a base station's entry replaced. -/
def State.putStation (s : State) (b : BaseStation) : State :=
  s.setLink { s.link with table := s.link.table.map (fun x => if x.id = b.id then b else x) }

/-- An arbiter run asked for (R113; log 10). -/
def State.callArbiter (s : State) (station : Nat) : State :=
  s.setLink { s.link with due := s.link.due ++ [.station station] }

/-- A label joins the set it waits in: its home's ready set, which asks for an arbiter run, or the homeless set. A
label already waiting there is not added again (R86, R113). -/
def State.joinSet (s : State) (l : Label) : State :=
  match l.home with
  | none => s.setLabels { s.labels with homeless := setAdd s.labels.homeless l.id }
  | some home =>
    match s.station home with
    | none => s
    | some b =>
      if l.id ∈ b.ready then s
      else (s.putStation { b with ready := setAdd b.ready l.id }).callArbiter home

/-- A label leaves the set it waits in (R86). -/
def State.leaveSet (s : State) (l : Label) : State :=
  match l.home with
  | none => s.setLabels { s.labels with homeless := setDrop s.labels.homeless l.id }
  | some home =>
    match s.station home with
    | none => s
    | some b => s.putStation { b with ready := setDrop b.ready l.id }

/-- A label put into QUEUED with attempts and reason as given, joining its set. -/
def State.queue (s : State) (l : Label) : State :=
  let l := { l with phase := .queued }
  (s.putLabel l).joinSet l

/-! ### Reports and queue requests between the two units -/

/-- A stale or recovery report (R17, R20): the stale count of the item moves, if the label is on its list. -/
def State.staleReport (s : State) (article label : Nat) (up : Bool) : State :=
  match s.item article with
  | none => s
  | some i =>
    if label ∈ i.labels then s.putItem { i with staleCount := if up then i.staleCount + 1 else i.staleCount - 1 }
    else s

/-- The kinds of queue request (R87). -/
inductive QueueKind where
  | newTarget | text
  deriving DecidableEq, Repr

/-- One label of a queue request (R87). -/
def State.queueLabel (kind : QueueKind) (article : Nat) (s : State) (id : Nat) : State :=
  match s.label id with
  | none => s
  | some l =>
    match l.phase with
    | .idle => s.queue l
    | .queued => s
    | .sent => s.putLabel { l with again := true }
    | .stale =>
      match kind with
      | .newTarget => (s.queue { l with attempts := 0, staleReason := .noReason }).staleReport article id false
      | .text => s
    | .unbinding => s

/-- A queue request from the Price Engine: the labels in list order (R12, R23, R87). -/
def State.queueRequest (s : State) (kind : QueueKind) (article : Nat) (labels : List Nat) : State :=
  labels.foldl (State.queueLabel kind article) s

/-- A change placed as a version of a SETTLED item: current at once with no labels bound (R11), else pending with a
campaign started (R12). The item is given with its waiting change and origin already settled (R14). -/
def State.placeVersion (s : State) (i : Item) (base : Nat) (promo : Option Promotion) : State × Disposition × Nat :=
  let n := nextNumber i.lastVersion
  let v : Version := { number := n, base := base, promo := promo }
  if i.labels = [] then
    (s.putItem { i with current := v, waiting := none, lastVersion := n }, .current, n)
  else
    ((s.putItem { i with pending := some v, waiting := none, lastVersion := n, outstanding := i.labels.length }).queueRequest
      .newTarget i.article i.labels, .pending, n)

/-- The switch of an item whose outstanding count has fallen to 0 (R19). -/
def State.switchItem (s : State) (i : Item) : State :=
  match i.pending with
  | none => s
  | some v =>
    let i := { i with current := v, pending := none, outstanding := 0 }
    let s := (s.putItem i).post .campaignDone i.article v.number
    match i.waiting with
    | none => s
    | some w => if w.queried then s else (s.placeVersion i w.base w.promo).1

/-- Outstanding lowered by 1, with the switch when it reaches 0 (R6, R19); the item is stored. -/
def State.lowerOutstanding (s : State) (i : Item) : State :=
  let i := { i with outstanding := i.outstanding - 1 }
  if i.outstanding = 0 then (s.putItem i).switchItem i else s.putItem i

/-- A confirmation report (R17, R18). -/
def State.confirmationReport (s : State) (article label version : Nat) (earlier : Option Nat) : State :=
  match s.item article with
  | none => s
  | some i =>
    if label ∈ i.labels then
      match i.pending with
      | none => s
      | some v => if version = v.number ∧ earlier ≠ some v.number then s.lowerOutstanding i else s
    else s

/-- An unbind report (R17, R22). -/
def State.unbindReport (s : State) (article label : Nat) (confirmed : Option Nat) (wasStale : Bool) : State :=
  match s.item article with
  | none => s
  | some i =>
    if label ∈ i.labels then
      let i := { i with labels := i.labels.filter (fun x => x != label)
                        staleCount := if wasStale then i.staleCount - 1 else i.staleCount }
      match i.pending with
      | none => s.putItem i
      | some v => if confirmed = some v.number then s.putItem i else s.lowerOutstanding i
    else s

/-- Why a bind report is refused, or none (R21). -/
def Item.bindRefusal (i : Item) (label : Nat) : Option Code :=
  if 8 ≤ i.labels.length then some .tableFull else if label ∈ i.labels then some .labelBound else none

/-- A bind report taken (R21). -/
def State.bindReport (s : State) (i : Item) (label : Nat) : State :=
  s.putItem { i with labels := i.labels ++ [label]
                     outstanding := if i.pending.isSome then i.outstanding + 1 else i.outstanding }

/-! ### The change path (1.3) -/

/-- A change taken (R8-R13): the state after it and its outcome. `origin` is 0 for the host, or a batch number. -/
def State.change (s : State) (article base : Nat) (promo : Option Promotion) (confirmed : Bool) (origin : Nat) :
    State × ChangeResult :=
  match s.item article with
  | none => (s, .notFound)
  | some i =>
    if maxBase < base then (s, .badForm)
    else if !promoPasses i.saleKind base promo then (s, .badPromo)
    else if base = i.followed.base ∧ promo = i.followed.promo then (s, .unchanged)
    else if !confirmed && !insideWindow s.price i.current.base base then
      ((s.putItem { i with waiting := some { base := base, promo := promo, queried := true }, origin := origin }).post
        .priceQueried article base, .queried)
    else if i.state = .settled then
      let r := s.placeVersion { i with origin := origin } base promo
      (r.1, .placed r.2.1 r.2.2)
    else
      (s.putItem { i with waiting := some { base := base, promo := promo, queried := false }, origin := origin },
        .placed .waiting 0)

/-! ### The target and the building of an update (R81-R84) -/

/-- What confirmed content must equal to be the target of a bound label (R81). -/
def Item.target (i : Item) (template : Nat) : Confirmed :=
  { version := i.followed.number, template := template, textRevision := i.textRevision }

/-- A window's four bytes (R209, R212). -/
def Window.bytes (w : Window) : List Byte :=
  leBytes 1 w.firstCol ++ leBytes 1 w.firstRow ++ leBytes 1 w.lastCol ++ leBytes 1 w.lastRow

/-- A template with nothing in it, for a label whose template is not loaded, which R80 and R88 rule out. -/
def Template.blank : Template :=
  let w : Window := { firstCol := 1, firstRow := 1, lastCol := 1, lastRow := 1 }
  { columns := 1, rows := 1, text := w, price := w, unitPrice := w, promo := w, colour := false }

/-- The flags byte of an update (R209). -/
def Display.flags (d : Display) (colour : Bool) : Nat := flagByte [d.clamped, d.promo.isSome, colour && d.promo.isSome]

/-- N and T of a display, zero when there is no promotion (R209). -/
def Display.promoBytes (d : Display) : List Byte :=
  match d.promo with
  | none => zeros 5
  | some p => beBytes 1 p.n ++ beBytes 4 p.t

/-- The content of a FULL update (R84, R209). -/
def fullContent (templateId : Nat) (t : Template) (i : Item) (v : Version) : List Byte :=
  let d := displayOf i v
  beBytes 1 templateId ++ beBytes 1 t.columns ++ beBytes 1 t.rows ++ beBytes 1 t.colour.toNat ++ t.text.bytes
    ++ t.price.bytes ++ t.unitPrice.bytes ++ t.promo.bytes ++ beBytes 2 i.textRevision ++ textField i.text
    ++ beBytes 4 v.number ++ beBytes 4 d.price ++ beBytes 4 d.unitPrice ++ beBytes 1 (d.flags t.colour)
    ++ d.promoBytes

/-- The field entries of a PARTIAL update from one display to another (R84, R209; log 15). -/
def partialEntries (t : Template) (old new : Display) : List (List Byte) :=
  (if old.price = new.price then [] else [beBytes 1 1 ++ t.price.bytes ++ beBytes 4 new.price ++ zeros 1])
  ++ (if old.unitPrice = new.unitPrice ∧ old.clamped = new.clamped then []
      else [beBytes 1 2 ++ t.unitPrice.bytes ++ beBytes 4 new.unitPrice ++ beBytes 1 (new.flags t.colour)])
  ++ (if old.promo = new.promo then [] else [beBytes 1 3 ++ t.promo.bytes ++ new.promoBytes])
  ++ (if !t.colour || old.promo.isSome == new.promo.isSome then []
      else [beBytes 1 4 ++ t.promo.bytes ++ beBytes 1 new.promo.isSome.toNat ++ zeros 4])

/-- The content of a PARTIAL update (R84, R209). -/
def partialContent (t : Template) (i : Item) (old new : Version) : List Byte :=
  let es := partialEntries t (displayOf i old) (displayOf i new)
  beBytes 4 new.number ++ beBytes 1 es.length ++ es.flatten

/-- An update the Label Service has built (R82-R84). -/
structure Update where
  kind : UpdateKind
  version : Nat
  template : Nat
  textRevision : Nat
  content : List Byte
  deriving DecidableEq, Repr

/-- The credit cost of an update (R83, R100, R114). -/
def UpdateKind.cost : UpdateKind → Nat
  | .fullUpdate => 4 | .partialUpdate => 1 | .blankUpdate => 1

/-- The confirmed version a PARTIAL update may start from, or none when the update must be FULL (R83). -/
def Label.partialFrom (l : Label) (i : Item) : Option Version :=
  match l.confirmed with
  | none => none
  | some c => if c.template = l.template ∧ c.textRevision = i.textRevision then i.versionOf c.version else none

/-- The update of a bound label that differs from its target (R83, R84). -/
def buildUpdate (l : Label) (t : Template) (i : Item) : Update :=
  let base : Update := { kind := .fullUpdate, version := i.followed.number, template := l.template
                         textRevision := i.textRevision, content := [] }
  match l.partialFrom i with
  | none => { base with content := fullContent l.template t i i.followed }
  | some old => { base with kind := .partialUpdate, content := partialContent t i old i.followed }

/-- The BLANK update (R77, R209). -/
def blankUpdateOf : Update := { kind := .blankUpdate, version := 0, template := 0, textRevision := 0, content := [] }

/-- The answer to a pick: an update, or NOTHING (R82). -/
def State.pick (s : State) (l : Label) : Option Update :=
  match l.phase with
  | .queued =>
    match l.article.bind s.item with
    | none => none
    | some i =>
      if l.confirmed = some (i.target l.template) then none
      else some (buildUpdate l ((s.labels.templates.find l.template).getD .blank) i)
  | .unbinding => if l.blankDue && l.inFlight.isNone then some blankUpdateOf else none
  | .idle => none
  | .sent => none
  | .stale => none

/-- What a NOTHING answer does to the label (R82): a QUEUED label goes IDLE; it leaves the ready set. -/
def State.pickNothing (s : State) (l : Label) : State :=
  let s := s.leaveSet l
  if l.phase = .queued then s.putLabel { l with phase := .idle } else s

/-- The send of an update reported (R85). -/
def State.updateSent (s : State) (l : Label) (u : Update) (tag station : Nat) : State :=
  let f : InFlightUpdate := { tag := tag, kind := u.kind, version := u.version, template := u.template
                              textRevision := u.textRevision, station := station }
  let s := s.leaveSet l
  if l.phase = .queued then s.putLabel { l with inFlight := some f, phase := .sent, again := false }
  else s.putLabel { l with inFlight := some f, blankDue := false }

/-! ### The end of an update (R94-R100) -/

/-- A label becomes STALE with a reason, with its notice and report (R96, R97). -/
def State.toStale (s : State) (l : Label) (r : StaleReason) : State :=
  let s := s.leaveSet l
  let s := s.putLabel { l with phase := .stale, staleReason := r }
  let s := s.post .labelStale l.id (twoParts r.code l.attempts)
  match l.article with
  | none => s
  | some a => s.staleReport a l.id true

/-- SHOWN for a FULL or PARTIAL update of a bound label (R95). -/
def State.shownBound (s : State) (l : Label) (u : InFlightUpdate) : State :=
  let shown : Confirmed := { version := u.version, template := u.template, textRevision := u.textRevision }
  let s := s.putLabel { l with confirmed := some shown, attempts := 0, inFlight := none }
  let s := match l.article with
    | none => s
    | some a => s.confirmationReport a l.id u.version (l.confirmed.map Confirmed.version)
  match s.label l.id with
  | none => s
  | some l =>
    let atTarget := match l.article.bind s.item with
      | none => true
      | some i => decide (l.confirmed = some (i.target l.template))
    if l.again || !atTarget then s.queue { l with again := false }
    else s.putLabel { l with again := false, phase := .idle }

/-- NO_ANSWER for a FULL or PARTIAL update of a bound label (R96). -/
def State.noAnswerBound (s : State) (l : Label) : State :=
  let l := { l with inFlight := none, again := false, attempts := l.attempts + 1 }
  if l.attempts < s.labels.maxAttempts then s.queue l else s.toStale l .noAnswer

/-- An outcome for an update in flight of a label that has become UNBINDING (R99). -/
def State.endedUnbinding (s : State) (l : Label) (u : InFlightUpdate) (o : UpdateOutcome) : State :=
  let l := match o with
    | .shown =>
      { l with confirmed := some { version := u.version, template := u.template, textRevision := u.textRevision } }
    | _ => l
  let l := { l with inFlight := none, attempts := 0, blankDue := true }
  (s.putLabel l).joinSet l

/-- A label record removed as its BLANK failed (R100; log 35). -/
def State.blankFailed (s : State) (l : Label) (o : UpdateOutcome) (attempts : Nat) : State :=
  (s.delLabel l.id).post .labelBlankFailed l.id (twoParts (if o = .rejected then 2 else 3) attempts)

/-- An outcome for a BLANK update (R100). -/
def State.endedBlank (s : State) (l : Label) (o : UpdateOutcome) : State :=
  match o with
  | .shown => s.delLabel l.id
  | .noAnswer =>
    if l.attempts + 1 < s.labels.maxAttempts then
      let l := { l with inFlight := none, attempts := l.attempts + 1, blankDue := true }
      (s.putLabel l).joinSet l
    else s.blankFailed l o (l.attempts + 1)
  | .rejected => s.blankFailed l o l.attempts
  | .returned =>
    let l := { l with inFlight := none, blankDue := true }
    (s.putLabel l).joinSet l

/-- An outcome reported by the Base Station Link (R94): acted on when the tag matches the update in flight. -/
def State.updateEnded (s : State) (tag label : Nat) (o : UpdateOutcome) : State :=
  match s.label label with
  | none => s
  | some l =>
    match l.inFlight with
    | none => s
    | some u =>
      if u.tag ≠ tag then s
      else
        let l := if o = .shown ∨ o = .rejected then { l with lastHeard := s.now } else l
        if u.kind = .blankUpdate then s.endedBlank l o
        else if l.phase = .unbinding then s.endedUnbinding l u o
        else match o with
          | .shown => s.shownBound l u
          | .noAnswer => s.noAnswerBound l
          | .rejected => s.toStale { l with inFlight := none, again := false } .rejected
          | .returned => s.queue { l with inFlight := none, again := false }

/-! ### Sightings (R101) -/

/-- A waiting label sighted at a station moves to that station's ready set unless it waits there already. -/
def State.moveSet (s : State) (old new : Label) : State :=
  if old.home = new.home then s.putLabel new else ((s.leaveSet old).putLabel new).joinSet new

/-- A sighting handed over with its station (R101). -/
def State.sighting (s : State) (station : Nat) (g : Sighting) : State :=
  match s.label g.label with
  | none => s
  | some old =>
    let l := { old with battery := g.battery, signal := g.signal, lastHeard := s.now, home := some station }
    match old.phase with
    | .idle => s.putLabel l
    | .sent => s.putLabel l
    | .queued => s.moveSet old l
    | .stale =>
      let s := s.queue { l with attempts := 0, staleReason := .noReason }
      let s := s.post .labelRecovered l.id station
      match l.article with
      | none => s
      | some a => s.staleReport a l.id false
    | .unbinding => if old.blankDue && old.inFlight.isNone then s.moveSet old l else s.putLabel l

end Sys2Proof.Machine
end

