-- ==== Sys2Proof/Machine/Exchange.lean ====
section
/-! DEFINITION. Machine/Exchange.lean: the Exchange Unit (chapter 7): datagrams, messages, the session, upload,
download, closing. -/

namespace Sys2Proof.Machine

/-! ### Messages of the part (R124, R210) -/

/-- The first bytes of every message (R210). -/
def protocolMark : Nat := 0x1D40

/-- The messages the part sends (R124). -/
inductive PartMessage where
  | hello | jblock | pull | pack | commitAnswer | bye | refuse
  deriving DecidableEq, Repr

/-- The kind code (R210: 1-13 in the order of R124). -/
def PartMessage.code : PartMessage → Nat
  | .hello => 1 | .jblock => 3 | .pull => 5 | .pack => 7 | .commitAnswer => 9 | .bye => 11 | .refuse => 13

/-- A message with a CRC field's value: header, then body (R210). -/
def messageWith (crc : Word) (kind : PartMessage) (branch : Word) (body : List Byte) : List Byte :=
  beBytes 2 protocolMark ++ beBytes 1 kind.code ++ zeros 1 ++ beBytes 4 branch.toNat ++ beBytes 4 crc.toNat ++ body

/-- A message: its CRC is that of the whole message with the CRC field zero (R124). -/
def messageBytes (kind : PartMessage) (branch : Word) (body : List Byte) : List Byte :=
  messageWith (crc32 (messageWith 0 kind branch body)) kind branch body

/-! ### Datagrams (R124; log 16) -/

/-- A UDP datagram: its header, then the message. -/
def udpBytes (x : Exchange) (message : List Byte) : List Byte :=
  beBytes 2 x.udpPort ++ beBytes 2 x.udpPort ++ beBytes 2 (8 + message.length)
    ++ beBytes 2 (Config.udpChecksum x.datagrams).toNat ++ message

/-- The 16-bit words of bytes, summed. -/
def sumWords : List Byte → Nat
  | [] => 0
  | [a] => a.toNat * 256
  | a :: b :: rest => a.toNat * 256 + b.toNat + sumWords rest

/-- The header checksum of IPv4: the ones' complement of the ones' complement sum. -/
def headerChecksum (bs : List Byte) : Nat :=
  let s := sumWords bs
  let s := s % 65536 + s / 65536
  let s := s % 65536 + s / 65536
  65535 - s

/-- An IPv4 header for one fragment: `offset` in bytes, `more` when fragments follow. -/
def ipv4Header (x : Exchange) (offset length : Nat) (more whole : Bool) : List Byte :=
  let flags := (whole && Config.ipv4DontFragment).toNat * 16384 + more.toNat * 8192
  let head := beBytes 1 0x45 ++ [Config.ipv4Tos] ++ beBytes 2 (20 + length)
    ++ beBytes 2 (Config.ipv4Ident x.datagrams).toNat ++ beBytes 2 (flags + offset / 8) ++ [Config.ipv4Ttl] ++ beBytes 1 17
  let addrs := beBytes 4 x.ownIp.toNat ++ beBytes 4 x.serverIp.toNat
  head ++ beBytes 2 (headerChecksum (head ++ addrs)) ++ addrs

/-- The IPv4 packets of a datagram from an offset on: fragments of 1,480 bytes of payload and the rest (R124). -/
def ipv4Packets (x : Exchange) (whole : Bool) : Nat → Nat → List Byte → List (List Byte)
  | 0, offset, bs => [ipv4Header x offset bs.length false whole ++ bs]
  | fuel + 1, offset, bs =>
    if bs.length ≤ 1480 then [ipv4Header x offset bs.length false whole ++ bs]
    else (ipv4Header x offset 1480 true false ++ bs.take 1480) :: ipv4Packets x whole fuel (offset + 1480) (bs.drop 1480)

/-- The packets that carry a message. -/
def messagePackets (x : Exchange) (message : List Byte) : List (List Byte) :=
  let bs := udpBytes x message
  ipv4Packets x (decide (bs.length ≤ 1480)) (bs.length / 1480) 0 bs

/-- The frames that carry a message, to the uplink gateway (R124). -/
def State.messageFrames (s : State) (message : List Byte) : List Frame :=
  (messagePackets s.exchange message).map (fun p => s.makeFrame s.net.gateway 0x0800 p)

/-- Why the frames of one message are all dropped, or none (R124, R152, R155). DESIGN CHOICE: a pool with too few buffers
for the whole message counts as one with no buffer free, and is asked before the queue's room (log 44). -/
def State.messageRefusal (s : State) (n : Nat) : Option DropReason :=
  if !s.targetUp (.cls .exchange) then some .unknown
  else if s.net.freeBuffers < n then some .noBuffer
  else if s.net.classCaps.exchange < s.net.classes.exchange.length + n then some .queueCap
  else none

/-- A message offered to the EXCHANGE queue: all its frames join, or none does and each is counted (R124, R155;
log 27). -/
def State.sendMessage (s : State) (kind : PartMessage) (body : List Byte) : State :=
  let frames := s.messageFrames (messageBytes kind s.exchange.branchId body)
  let s := s.setExchange { s.exchange with datagrams := s.exchange.datagrams + 1 }
  match s.messageRefusal frames.length with
  | none => frames.foldl (fun s f => s.join (.cls .exchange) f) s
  | some r => match s.net.uplink with
    | some p => s.countDrops p r frames.length
    | none => s

/-! ### Sending (R126, R132, R134, R136, R137, R143) -/

/-- The resend time one retransmit timeout ahead, and tries. -/
def State.arm (s : State) (tries : Nat) : State :=
  s.setExchange { s.exchange with tries := tries, resend := some (s.now + s.exchange.retransmit) }

/-- A HELLO with the checkpoint as it stands (R126, R127). -/
def State.sendHello (s : State) : State :=
  s.sendMessage .hello (beBytes 4 s.journal.acked ++ beBytes 1 s.journal.fresh.toNat ++ beBytes 4 s.exchange.lastBatch)

/-- A PULL with the last batch (R132). -/
def State.sendPull (s : State) : State := s.sendMessage .pull (beBytes 4 s.exchange.lastBatch)

/-- A PACK (R134). -/
def State.sendPack (s : State) (batch index : Nat) : State := s.sendMessage .pack (beBytes 4 batch ++ beBytes 2 index)

/-- The three counts as carried in COMMIT_ANSWER and BYE (R210). -/
def BatchCounts.bytes (c : BatchCounts) : List Byte := beBytes 4 c.applied ++ beBytes 4 c.skipped ++ beBytes 4 c.queried

/-- The counts of two batches together. -/
def BatchCounts.add (a b : BatchCounts) : BatchCounts :=
  { applied := a.applied + b.applied, skipped := a.skipped + b.skipped, queried := a.queried + b.queried }

/-- A COMMIT_ANSWER: status OK 0 or ALREADY_APPLIED 1 (R135, R136, R210). -/
def State.sendCommitAnswer (s : State) (batch status : Nat) (c : BatchCounts) : State :=
  s.sendMessage .commitAnswer (beBytes 4 batch ++ beBytes 1 status ++ c.bytes)

/-- The outcomes a BYE carries (R124). -/
inductive ByeOutcome where
  | complete | incomplete | aborted
  deriving DecidableEq, Repr

/-- The code of a BYE's outcome (R210). -/
def ByeOutcome.code : ByeOutcome → Nat
  | .complete => 1 | .incomplete => 2 | .aborted => 3

/-- A BYE with the session totals (R137). -/
def State.sendBye (s : State) (o : ByeOutcome) : State :=
  let t := s.exchange.totals
  s.sendMessage .bye (beBytes 1 o.code ++ beBytes 4 t.acknowledged ++ beBytes 4 t.batches ++ t.counts.bytes)

/-- The reasons of the part's REFUSE (R124). -/
inductive RefuseReason where
  | gap | stageFull | commitMismatch
  deriving DecidableEq, Repr

/-- The code of a reason (R210). -/
def RefuseReason.code : RefuseReason → Nat
  | .gap => 1 | .stageFull => 2 | .commitMismatch => 3

/-- A block sent as a JBLOCK, read afresh from the journal (R129, R131). -/
def State.sendBlock (s : State) (b : Block) : State :=
  let entries := s.journalRead b.first (b.last + 1 - b.first)
  s.sendMessage .jblock (beBytes 4 b.first ++ beBytes 1 entries.length ++ entries.flatten)

/-! ### The session (R123, R126, R139) -/

/-- The session state set in the context, and with it both words of the status block, the session state and the last
outcome, which are written each time either changes (R123). -/
def State.setSession (s : State) (x : SessionState) : State :=
  let s := (s.setExchange { s.exchange with state := x }).status offSession x.code
  s.status offOutcome s.exchange.lastOutcome.code

/-- What both a session's start and its end empty (R123, R139; log 24). -/
def Exchange.emptied (x : Exchange) : Exchange :=
  { x with resend := none, window := [], stage := .empty, applying := false, rest := [], counts := .zero
           mismatch := none, lastAnswer := none, totals := .zero, awaiting := none, inbox := [] }

/-- The end of a session, `reason` being the low 24 bits of the detail (R139). -/
def State.endSession (s : State) (o : SessionOutcome) (reason : Nat) : State :=
  let s := (s.setExchange { s.exchange.emptied with lastOutcome := o }).setSession .idle
  s.post .exchangeEnded 0 (twoParts o.code reason)

/-- The part's own REFUSE, and the session's end (R143). -/
def State.refuse (s : State) (r : RefuseReason) : State :=
  (s.sendMessage .refuse (beBytes 1 r.code)).endSession .failedRefused r.code

/-- A session started with a deadline (R126). -/
def State.startSession (s : State) (deadline : Nat) : State :=
  let s := s.setExchange { s.exchange.emptied with deadline := deadline, tries := 0, nextToCut := 0 }
  let s := s.setSession .opening
  if s.exchange.uplinkUp then s.sendHello.arm 1 else s.endSession .linkDown 0

/-! ### Upload (R129-R132) -/

/-- The units of a stored entry. -/
def storedUnits (entry : List Byte) : Nat := entry.length / 64

/-- How many of the entries read go into a block after `used` units and `taken` entries (R129). -/
def blockTake : Nat → Nat → List (List Byte) → Nat
  | _, taken, [] => taken
  | used, taken, e :: es =>
    if taken = 0 ∨ (taken < 16 ∧ used + storedUnits e ≤ 128) then blockTake (used + storedUnits e) (taken + 1) es
    else taken

/-- Blocks cut while the window has room and entries remain, with fuel for a whole window (R129). -/
def State.cutBlocks : Nat → State → State
  | 0, s => s
  | fuel + 1, s =>
    let x := s.exchange
    if x.window.length < 8 ∧ x.nextToCut < s.journal.next then
      match blockTake 0 0 (s.journalRead x.nextToCut 16) with
      | 0 => s
      | n + 1 =>
        let b : Block := { first := x.nextToCut, last := x.nextToCut + n }
        let s := s.setExchange { x with window := x.window ++ [b], nextToCut := b.last + 1 }
        let s := if x.window = [] then s.arm 1 else s
        State.cutBlocks fuel (s.sendBlock b)
    else s

/-- The end of the upload tested (R132). -/
def State.endOfUpload (s : State) : State :=
  if s.exchange.window = [] ∧ s.journal.acked + 1 = s.journal.next then
    let s := (s.sendPull.setSession .download).arm 1
    s.setExchange { s.exchange with serverHeard := s.now }
  else s

/-- The session enters UPLOAD (R128, R129, R132). -/
def State.enterUpload (s : State) : State :=
  let s := s.setSession .upload
  let s := s.setExchange { s.exchange with nextToCut := s.journal.acked + 1, resend := none, awaiting := none }
  (State.cutBlocks 8 s).endOfUpload

/-- A block after an acknowledgement up to a sequence: gone, trimmed or untouched (R130). -/
def Block.after (upTo : Nat) (b : Block) : Option Block :=
  if b.last ≤ upTo then none else if b.first ≤ upTo then some { b with first := upTo + 1 } else some b

/-- What an advancing JACK does once its release has replied DONE (R130). -/
def State.afterJack (s : State) (upTo released : Nat) : State :=
  let x := s.exchange
  let window := x.window.filterMap (Block.after upTo)
  let s := s.setExchange { x with
    window := window, tries := 1, awaiting := none
    resend := if window = [] then none else some (s.now + x.retransmit)
    totals := { x.totals with acknowledged := x.totals.acknowledged + released } }
  (State.cutBlocks 8 s).endOfUpload

/-- The newest sequence the window covers, or the checkpoint's (R130). -/
def State.newestSent (s : State) : Nat :=
  match s.exchange.window.getLast? with
  | some b => b.last
  | none => s.journal.acked

/-! ### Taking a message (R125) -/

/-- The inbox without its front, the server heard (R125). -/
def State.hearServer (s : State) (rest : List ServerMessage) : State :=
  s.setExchange { s.exchange with inbox := rest, serverHeard := s.now }

/-- A WELCOME acted on in OPENING (R128). -/
def State.onWelcome (s : State) (a : Nat) : State :=
  let j := s.journal
  if j.fresh then s.enterUpload
  else if a < j.acked ∨ j.next ≤ a then
    ((s.sendMessage .refuse (beBytes 1 RefuseReason.gap.code)).post .exchangeGap 0 a).endSession .failedRefused
      RefuseReason.gap.code
  else match s.releaseRequest a false with
    | (s, .done) => s.enterUpload
    | (s, .started) => s.setExchange { s.exchange with awaiting := some .welcome }
    | (s, .beyond) => s

/-- A JACK acted on in UPLOAD (R130). -/
def State.onJack (s : State) (a : Nat) : State :=
  if s.newestSent < a then s
  else match s.releaseRequest a true with
    | (s, .started) => s.setExchange { s.exchange with awaiting := some .jack }
    | (s, .done) => s
    | (s, .beyond) => s

/-- Entries joined to the stage, the running CRC carried on (R134, R61). -/
def Stage.take (g : Stage) (batch : Nat) (entries : List BatchEntry) (bytes : List Byte) : Stage :=
  { batch := some batch, nextIndex := g.nextIndex + 1, entries := g.entries ++ entries, crc := crcRun g.crc bytes }

/-- A block staged and acknowledged, or the session ended when the stage would overflow (R134). -/
def State.stageBlock (s : State) (batch index : Nat) (entries : List BatchEntry) (bytes : List Byte) : State :=
  if 8192 < s.exchange.stage.entries.length + entries.length then s.refuse .stageFull
  else (s.setExchange { s.exchange with stage := s.exchange.stage.take batch entries bytes }).sendPack batch index

/-- A PBLOCK acted on in DOWNLOAD with applying clear (R134). -/
def State.onPblock (s : State) (batch index : Nat) (entries : List BatchEntry) (bytes : List Byte) : State :=
  let x := s.exchange
  if batch ≤ x.lastBatch then s.sendPack batch index
  else match x.stage.batch with
    | none => if index = 0 then s.stageBlock batch index entries bytes else s
    | some b =>
      if b ≠ batch then s
      else if index = x.stage.nextIndex then s.stageBlock batch index entries bytes
      else if index < x.stage.nextIndex then s.sendPack batch index
      else s

/-- A mismatched COMMIT (R135, step 3). -/
def State.commitMismatch (s : State) (batch : Nat) : State :=
  if s.exchange.mismatch = some batch then s.refuse .commitMismatch
  else ((s.setExchange { s.exchange with mismatch := some batch, stage := .empty }).sendPull).arm 1

/-- A COMMIT acted on in DOWNLOAD (R135). -/
def State.onCommit (s : State) (batch count : Nat) (crc : Word) : State :=
  let x := s.exchange
  match x.lastAnswer.filter (fun a => a.batch == batch) with
  | some a => s.sendCommitAnswer a.batch 0 a.counts
  | none =>
    if batch ≤ x.lastBatch then s.sendCommitAnswer batch 1 .zero
    else if x.applying then s
    else if x.stage.batch = some batch ∧ x.stage.entries.length = count ∧ ~~~ x.stage.crc = crc then
      s.setExchange { x with applying := true, rest := x.stage.entries, counts := .zero, mismatch := none }
    else s.commitMismatch batch

/-- The resend time cleared by the first PBLOCK, COMMIT or NO_MORE after a PULL (R133). -/
def State.pullAnswered (s : State) : State := s.setExchange { s.exchange with resend := none }

/-- A NO_MORE acted on in DOWNLOAD with applying clear (R137). -/
def State.onNoMore (s : State) : State :=
  (((s.setExchange { s.exchange with stage := .empty }).sendBye .complete).setSession .closing).arm 1

/-- A REFUSE taken from the server: its reason is marked the server's (R143, R206). -/
def State.onRefuse (s : State) (reason : Nat) : State := s.endSession .failedRefused (256 + reason % 256)

/-! ### Applying a batch (R136, R27) -/

/-- The counts with a change's disposition counted (R136). -/
def BatchCounts.change (c : BatchCounts) : ChangeResult → BatchCounts
  | .queried => { c with queried := c.queried + 1 }
  | .notFound => { c with skipped := c.skipped + 1 }
  | .badForm => { c with skipped := c.skipped + 1 }
  | .badPromo => { c with skipped := c.skipped + 1 }
  | .unchanged => { c with applied := c.applied + 1 }
  | .placed _ _ => { c with applied := c.applied + 1 }

/-- The counts with a new item's entry result counted (R136). -/
def BatchCounts.newItem (c : BatchCounts) (r : Code) : BatchCounts :=
  if r = .ok then { c with applied := c.applied + 1 } else { c with skipped := c.skipped + 1 }

/-- One entry handed to the Price Engine (R27): the state after it and the counts. -/
def State.applyEntry (s : State) (batch : Nat) (c : BatchCounts) : BatchEntry → State × BatchCounts
  | .change article base promo =>
    let r := s.change article base promo false batch
    (r.1, c.change r.2)
  | .newItem e =>
    let r := s.loadEntry e batch
    (r.1, c.newItem r.2)

/-- The batch committed after its last entry (R136). -/
def State.batchCommitted (s : State) (batch : Nat) : State :=
  let c := s.exchange.counts
  let s := (s.setExchange { s.exchange with lastBatch := batch }).post .batchApplied 0 batch
  let s := s.sendCommitAnswer batch 0 c
  let x := s.exchange
  s.setExchange { x with
    lastAnswer := some { batch := batch, counts := c }, stage := .empty, applying := false, counts := .zero
    serverHeard := s.now
    totals := { x.totals with batches := x.totals.batches + 1, counts := x.totals.counts.add c } }

/-- The next entry of the batch being applied taken (R136); nothing when no batch is being applied (log 47). -/
def State.applyNext (s : State) : State :=
  match s.exchange.applying, s.exchange.stage.batch, s.exchange.rest with
  | true, some batch, e :: rest =>
    let r := s.applyEntry batch s.exchange.counts e
    let s := r.1.setExchange { r.1.exchange with rest := rest, counts := r.2 }
    if rest = [] then s.batchCommitted batch else s
  | _, _, _ => s

/-! ### Times (R127, R131, R133, R138, R140) -/

/-- The session is in a state and its resend time is reached (log 11). From the taking of a WELCOME or an advancing JACK
until its release is complete, no resend takes place (R127, R131). -/
def State.resendDue (s : State) (x : SessionState) : Bool :=
  s.exchange.state == x && s.exchange.awaiting.isNone && (match s.exchange.resend with
    | some t => decide (t ≤ s.now)
    | none => false)

/-- What a resend time does: the session ends when tries equals max tries, or the message is sent again. -/
def State.resendOr (s : State) (o : SessionOutcome) (again : State → State) : State :=
  if s.exchange.maxTries ≤ s.exchange.tries then s.endSession o 0
  else (again s).arm (s.exchange.tries + 1)

/-- Every block of the window sent again, oldest first (R131). -/
def State.resendWindow (s : State) : State := s.exchange.window.foldl State.sendBlock s

/-- The idle limit is reached in DOWNLOAD with applying clear (R133). -/
def State.serverIdle (s : State) : Bool :=
  s.exchange.state == .download && !s.exchange.applying
    && decide (s.exchange.serverHeard + 1000 * s.exchange.idleLimit ≤ s.now)

/-- The session's deadline: BYE(INCOMPLETE) once, and the end (R140). -/
def State.deadlineReached (s : State) : State :=
  if s.exchange.state ≠ .idle ∧ s.exchange.deadline ≤ s.now then (s.sendBye .incomplete).endSession .incomplete 0 else s

/-! ### The uplink's link state (R141) -/

/-- The uplink link state reported (R141). -/
def State.reportUplink (s : State) (up : Bool) : State :=
  let was := s.exchange.uplinkUp
  let s := s.setExchange { s.exchange with uplinkUp := up }
  if was && !up && s.exchange.state != .idle then s.endSession .linkDown 0 else s

/-! ### Messages from the server (R124, R125, R204, R210) -/

/-- A promotion as carried: N 0 means none. -/
def promoOf (n t : Nat) : Option Promotion := if n = 0 then none else some { n := n, t := t }

/-- One entry of a PBLOCK, with the bytes it takes (R210). -/
def BatchEntry.parse (bs : List Byte) : Option (BatchEntry × Nat) :=
  match bs with
  | [] => none
  | t :: _ =>
    if t = 1 then
      if bs.length < 18 then none
      else some (.change (beField bs 1 8) (beField bs 9 4) (promoOf (beField bs 13 1) (beField bs 14 4)), 18)
    else if t = 2 then
      if bs.length < 51 then none
      else
        let e : ItemEntry :=
          { article := beField bs 1 8, textLength := beField bs 9 1, text := fieldBytes bs 10 24
            saleKind := beField bs 34 1, measure := beField bs 35 1, packQty := beField bs 36 4, refQty := beField bs 40 2
            base := beField bs 42 4, promo := promoOf (beField bs 46 1) (beField bs 47 4) }
        some (.newItem e, 51)
    else none

/-- The entries of a PBLOCK: exactly `n`, and the number of bytes they take (R125). -/
def BatchEntry.parseMany : Nat → List Byte → Option (List BatchEntry × Nat)
  | 0, _ => some ([], 0)
  | n + 1, bs =>
    match BatchEntry.parse bs with
    | none => none
    | some (e, k) => match BatchEntry.parseMany n (bs.drop k) with
      | none => none
      | some (es, m) => some (e :: es, k + m)

/-- The body of a message of a kind the server sends (R124, R210; log 26). -/
def ServerMessage.parse (kind : Nat) (body : List Byte) : Option ServerMessage :=
  match kind with
  | 2 => if body.length < 4 then none else some (.welcome (beField body 0 4))
  | 4 => if body.length < 4 then none else some (.jack (beField body 0 4))
  | 6 =>
    if body.length < 7 then none
    else
      let n := beField body 6 1
      if n = 0 ∨ 64 < n then none
      else match BatchEntry.parseMany n (body.drop 7) with
        | none => none
        | some (es, k) => some (.pblock (beField body 0 4) (beField body 4 2) es (fieldBytes body 7 k))
  | 8 =>
    if body.length < 12 then none
    else some (.commit (beField body 0 4) (beField body 4 4) (BitVec.ofNat 32 (beField body 8 4)))
  | 10 => some .noMore
  | 12 => some .byeAck
  | 13 => if body.length < 1 then none else some (.refuse (beField body 0 1))
  | _ => none

/-- A message with its CRC field taken as zero (R124). -/
def clearCrc (bs : List Byte) : List Byte := bs.take 8 ++ zeros 4 ++ bs.drop 12

/-- The message a UDP payload from an address holds, if it survives the checks of R125 (the checksums of the carrying
headers are not read: log 16). -/
def Exchange.parse (x : Exchange) (source : Ipv4Addr) (bs : List Byte) : Option ServerMessage :=
  if x.state = .idle ∨ source ≠ x.serverIp ∨ bs.length < 12 then none
  else if beField bs 0 2 ≠ protocolMark ∨ BitVec.ofNat 32 (beField bs 4 4) ≠ x.branchId
      ∨ crc32 (clearCrc bs) ≠ BitVec.ofNat 32 (beField bs 8 4) then none
  else ServerMessage.parse (beField bs 2 1) (bs.drop 12)

end Sys2Proof.Machine
end

