-- ==== Sys2Proof/Machine/Guests.lean ====
section
/-! DEFINITION. Machine/Guests.lean: the Guest Unit (chapter 9): sightings, questions, metering, lapses, removal. -/

namespace Sys2Proof.Machine

/-- The session of a station. -/
def State.session (s : State) (a : MacAddr) : Option GuestSession := s.guests.sessions.find a.toNat

/-- The state with a session's record replaced. -/
def State.putSession (s : State) (a : MacAddr) (g : GuestSession) : State :=
  s.setGuests { s.guests with sessions := s.guests.sessions.put a.toNat g }

/-- The guest session count written into the status block (R164). -/
def State.writeGuestCount (s : State) : State := s.status offGuests s.guests.sessions.length

/-- A session's record removed (R172, R174). -/
def State.removeSession (s : State) (a : MacAddr) : State :=
  (s.setGuests { s.guests with sessions := s.guests.sessions.del a.toNat }).writeGuestCount

/-- A new session, HELD (R164). -/
def GuestSession.new (port : Port) (now : Nat) : GuestSession :=
  { port := port, phase := .held, lapse := .noLapse, budget := 0, used := 0, timeLimit := 0, admittedAt := 0
    lastSeen := now }

/-- The subject of a notice about a station: its address's octets in the low six bytes (R206). -/
def addressSubject (a : MacAddr) : Nat := leNat (beBytes 6 a.toNat)

/-- A session lapsing, without a notice. -/
def GuestSession.lapsed (g : GuestSession) (r : LapseReason) : GuestSession := { g with phase := .lapsed, lapse := r }

/-- A session lapses SPENT or EXPIRED, with its notice (R175). -/
def State.lapse (s : State) (a : MacAddr) (g : GuestSession) (r : LapseReason) : State :=
  (s.putSession a (g.lapsed r)).post .guestLapsed (addressSubject a) (twoParts r.code (g.used / 1048576))

/-- A sighting (R166): the state after it, and whether the frame goes on. -/
def State.sight (s : State) (a : MacAddr) (p : Port) : State × Bool :=
  if isGroup a || a == s.net.controller || a == s.net.appliance then (s, false)
  else match s.session a with
    | some g => (s.putSession a { g with lastSeen := s.now, port := p }, true)
    | none =>
      if s.guests.sessions.length < 512 then ((s.putSession a (.new p s.now)).writeGuestCount, true)
      else (s, false)

/-- The answer to a host question (R167): PASS exactly when there is a session. -/
def State.guestHost (s : State) (a : MacAddr) : Bool := (s.session a).isSome

/-- The answer to an uplink or downlink question about a frame of `len` bytes (R167, R168): the state after it, and
whether it is PASS. -/
def State.guestMeter (s : State) (a : MacAddr) (len : Nat) : State × Bool :=
  match s.session a with
  | none => (s, false)
  | some g =>
    if g.phase = .admitted then
      if g.used + len ≤ g.budget then (s.putSession a { g with used := g.used + len }, true)
      else (s.lapse a g .spent, false)
    else (s, false)

/-- Every session removed (R173). DESIGN CHOICE: the count is written also when there was none (R164; log 61). -/
def State.clearSessions (s : State) : State := (s.setGuests { s.guests with sessions := [] }).writeGuestCount

/-- The sessions last heard on a port that loses the GUEST role removed (R174). DESIGN CHOICE: the count is written also
when there was none (R164, R190; log 61). -/
def State.dropPortSessions (s : State) (p : Port) : State :=
  (s.setGuests { s.guests with sessions := s.guests.sessions.filter (fun e => e.2.port != p) }).writeGuestCount

/-- An ADMITTED session whose time limit is reached lapses EXPIRED (R171); otherwise nothing happens (log 11). -/
def State.guestExpire (s : State) (a : MacAddr) : State :=
  match s.session a with
  | some g =>
    if g.phase = .admitted ∧ g.admittedAt + 1000 * g.timeLimit ≤ s.now then s.lapse a g .expired else s
  | none => s

/-- A HELD or LAPSED session silent for 120 s is removed (R172); otherwise nothing happens (log 11). -/
def State.guestIdle (s : State) (a : MacAddr) : State :=
  match s.session a with
  | some g => if g.phase ≠ .admitted ∧ g.lastSeen + 120000 ≤ s.now then s.removeSession a else s
  | none => s

/-! ### The trading period (R181) -/

/-- The sources of a switch (R181, R206). -/
inductive SwitchSource where
  | request | schedule | clock
  deriving DecidableEq, Repr

/-- The code of a source (R206). -/
def SwitchSource.code : SwitchSource → Nat
  | .request => 1 | .schedule => 2 | .clock => 3

/-- What the Forwarding Unit does on entering CLOSED (R160): the GUEST queue freed and counted on the UPLINK port,
the pause ended. Without an UPLINK port, where the queue is empty in every state a run reaches, nothing is counted. -/
def State.closeGuestQueue (s : State) : State :=
  (match s.net.uplink with
   | some p => s.freeClass .guest p .guest
   | none => s.emptyClass .guest).endPause

/-- A switch of the trading period (R181), with what the Forwarding Unit (R160) and the Guest Unit (R173) do. -/
def State.switchPeriod (s : State) (p : Period) (source : SwitchSource) : State :=
  let s := s.setClock { s.clock with period := p }
  let s := s.status offPeriod p.code
  let s := s.post .periodChanged 0 (twoParts p.code source.code)
  match p with
  | .opened => s
  | .closed => s.closeGuestQueue.clearSessions

/-- The period brought to a value, switching if it differs (R179, R180). -/
def State.toPeriod (s : State) (p : Period) (source : SwitchSource) : State :=
  if s.clock.period = p then s else s.switchPeriod p source

/-- The period a schedule gives for a time of day (R180). -/
def schedulePeriod (openAt closeAt x : Nat) : Period :=
  if openAt < closeAt then (if openAt ≤ x ∧ x < closeAt then .opened else .closed)
  else (if openAt ≤ x ∨ x < closeAt then .opened else .closed)

end Sys2Proof.Machine
end

