-- ==== Sys2Proof/Machine/Link.lean ====
section
/-! DEFINITION. Machine/Link.lean: the Base Station Link (chapter 6): slots, the credit arbiter, tags and deadlines,
hellos, silence, results and sightings. -/

namespace Sys2Proof.Machine

/-! ### Slots (R112) -/

/-- The slot distance of a label at a count, for S slots per cycle (R112). -/
def slotDistance (slots now label : Nat) : Nat := (label % slots + slots - now / 25 % slots) % slots

/-- Whether one label is chosen before another: smaller distance first, then the lower id (R113). -/
def nearer (slots now a b : Nat) : Bool :=
  let da := slotDistance slots now a
  let db := slotDistance slots now b
  decide (da < db) || (decide (da = db) && decide (a < b))

/-- The label an arbiter run chooses (R113, step 2). -/
def nearest (slots now : Nat) : List Nat → Option Nat
  | [] => none
  | x :: xs =>
    match nearest slots now xs with
    | none => some x
    | some y => if nearer slots now y x then some y else some x

/-- The cycle time in milliseconds (R112). -/
def cycleTime (slots : Nat) : Nat := slots * 25

/-! ### The station table -/

/-- The summed cost of the updates in flight at a station (R105). -/
def BaseStation.costInFlight (b : BaseStation) : Nat := (b.inFlight.map InFlightRecord.cost).sum

/-- The state with a station's waiting-for-buffer flag set or cleared (R115). -/
def State.setWaiting (s : State) (b : BaseStation) (flag : Bool) : State :=
  s.putStation { b with waitingForBuffer := flag }

/-- A label link frame from the part to a station (R104, R209). -/
def State.labelFrame (s : State) (b : BaseStation) (kind : Nat) (body : List Byte) : Frame :=
  s.makeFrame b.address s.net.labelType (beBytes 1 kind ++ beBytes 2 b.id ++ body)

/-- A CYCLE_SET sent to a station, if it can be (R111). -/
def State.cycleSet (s : State) (b : BaseStation) : State :=
  s.offerOwn b.port (s.labelFrame b 2 (beBytes 2 s.link.slots ++ beBytes 2 25))

/-- A CYCLE_SET sent to every ACTIVE station in table order (R112). -/
def State.cycleSetAll (s : State) : State :=
  s.link.table.foldl (fun s b => if b.phase = .active then s.cycleSet b else s) s

/-! ### Tags (R116) -/

/-- The tag after a tag: 4,294,967,295 is followed by 1 (R116). -/
def tagAfter (tag : Nat) : Nat := if tag = 4294967295 then 1 else tag + 1

/-- Whether an in-flight record at any station holds a tag. -/
def StationLink.tagInUse (k : StationLink) (tag : Nat) : Bool :=
  k.table.any (fun b => b.inFlight.any (fun r => r.tag == tag))

/-- The first tag not in use from a counter on, passing over those in use (R116). -/
def StationLink.freeTag (k : StationLink) : Nat → Nat → Nat
  | 0, tag => tag
  | fuel + 1, tag => if k.tagInUse tag then k.freeTag fuel (tagAfter tag) else tag

/-- How many updates are in flight over all stations. -/
def StationLink.inFlightCount (k : StationLink) : Nat := (k.table.map (fun b => b.inFlight.length)).sum

/-! ### The credit arbiter (R113-R116) -/

/-- The bytes of an UPDATE_PUT after kind and station id (R209). -/
def updatePutBody (tag label : Nat) (u : Update) : List Byte :=
  beBytes 4 tag ++ beBytes 4 label ++ beBytes 1 u.kind.code ++ beBytes 2 u.content.length ++ u.content

/-- An update sent (R116, R85): tag given, record appended, frame offered, the send reported. -/
def State.sendUpdate (s : State) (b : BaseStation) (l : Label) (u : Update) : State :=
  let tag := s.link.freeTag s.link.inFlightCount s.link.nextTag
  let s := s.setLink { s.link with nextTag := tagAfter tag }
  let r : InFlightRecord := { tag := tag, label := l.id, kind := u.kind, cost := u.kind.cost
                              deadline := s.now + cycleTime s.link.slots + 5000 }
  let s := s.putStation { b with inFlight := b.inFlight ++ [r], ready := setDrop b.ready l.id, waitingForBuffer := false }
  let s := s.offerOwn b.port (s.labelFrame b 4 (updatePutBody tag l.id u))
  s.updateSent l u tag b.id

/-- A run of a station's arbiter (R113), with fuel for one pick of each label of the ready set. -/
def State.arbiterRun (station : Nat) : Nat → State → State
  | 0, s => s
  | fuel + 1, s =>
    match s.station station with
    | none => s
    | some b =>
      if b.phase = .lost then s
      else match nearest s.link.slots s.now b.ready with
        | none => s.setWaiting b false
        | some id =>
          match s.label id with
          | none => State.arbiterRun station fuel (s.putStation { b with ready := setDrop b.ready id })
          | some l =>
            match s.pick l with
            | none =>
              State.arbiterRun station fuel ((s.putStation { b with ready := setDrop b.ready id }).pickNothing l)
            | some u =>
              if b.credit < b.costInFlight + u.kind.cost then s.setWaiting b false
              else if s.net.freeBuffers = 0 ∨ !s.hasRoom (.lan b.port) then
                (s.countDrop b.port ((s.refusal (.lan b.port)).getD .noBuffer)).setWaiting b true
              else State.arbiterRun station fuel (s.sendUpdate b l u)

/-- One arbiter run of a station, its ready set taken whole (R113). -/
def State.runArbiter (s : State) (station : Nat) : State :=
  match s.station station with
  | none => s
  | some b => State.arbiterRun station (b.ready.length + 1) s

/-- The runs that a buffer's return makes: every ACTIVE station that waits for a buffer, in table order (R115). -/
def State.bufferReturned (s : State) : State :=
  s.link.table.foldl (fun s b =>
    match s.station b.id with
    | none => s
    | some x => if x.phase = .active ∧ x.waitingForBuffer then s.runArbiter b.id else s) s

/-- One arbiter call made. -/
def State.makeCall (s : State) : ArbiterCall → State
  | .station id => s.runArbiter id
  | .bufferReturned => s.bufferReturned

/-- The arbiter runs a step has asked for, made in the order they were asked for (R113; log 10). -/
def State.settle (s : State) : State := s.link.due.foldl State.makeCall (s.setLink { s.link with due := [] })

/-! ### Hellos, silence and loss (R106-R110, R121) -/

/-- The updates in flight at a station given back as RETURNED, oldest first (R108, R109). -/
def State.returnUpdates (s : State) (records : List InFlightRecord) : State :=
  records.foldl (fun s r => s.updateEnded r.tag r.label .returned) s

/-- A station becomes LOST (R109, R121). -/
def State.loseStation (s : State) (b : BaseStation) : State :=
  let s := s.putStation { b with phase := .lost, inFlight := [], waitingForBuffer := false }
  (s.returnUpdates b.inFlight).post .baseStationLost b.id b.inFlight.length

/-- The stations that a port's loss of the LABEL role makes LOST, in table order (R121). -/
def State.losePortStations (s : State) (p : Port) : State :=
  s.link.table.foldl (fun s b =>
    match s.station b.id with
    | none => s
    | some x => if x.phase = .active ∧ x.port = p then s.loseStation x else s) s

/-- BASE_STATION_FOUND with its reason: NEW 1, RESTARTED 2, RETURNED 3 (R206). -/
def State.postFound (s : State) (id reason zone : Nat) : State := s.post .baseStationFound id (twoParts reason zone)

/-- A hello of a station no taken entry holds (R106). -/
def State.helloNew (s : State) (f : LabelFrame) (boot credit zone : Nat) : State :=
  if s.link.table.length < 32 then
    let b : BaseStation :=
      { id := f.station, address := f.source, port := f.port, bootCount := boot, credit := credit, zone := zone
        phase := .active, lastHeard := s.now, inFlight := [], ready := [], waitingForBuffer := false }
    let s := s.setLink { s.link with table := s.link.table ++ [b] }
    ((s.postFound f.station 1 zone).cycleSet b).callArbiter f.station
  else s

/-- A restart (R108). -/
def State.helloRestart (s : State) (b : BaseStation) (f : LabelFrame) (boot credit zone : Nat) : State :=
  let s := (s.putStation { b with inFlight := [] }).returnUpdates b.inFlight
  let b := (s.station b.id).getD b
  let b := { b with bootCount := boot, credit := credit, zone := zone, lastHeard := s.now, port := f.port }
  (((s.putStation b).postFound b.id 2 zone).cycleSet b).callArbiter b.id

/-- The return of a LOST station (R110). -/
def State.helloReturn (s : State) (b : BaseStation) (f : LabelFrame) (boot credit zone : Nat) : State :=
  let b := { b with address := f.source, port := f.port, bootCount := boot, credit := credit, zone := zone
                    lastHeard := s.now, phase := .active }
  (((s.putStation b).postFound b.id 3 zone).cycleSet b).callArbiter b.id

/-- A BS_HELLO (R106, R107, R108, R110). -/
def State.hello (s : State) (f : LabelFrame) (boot credit zone : Nat) : State :=
  match s.station f.station with
  | none => s.helloNew f boot credit zone
  | some b =>
    match b.phase with
    | .lost => s.helloReturn b f boot credit zone
    | .active =>
      if b.address ≠ f.source then s
      else if b.bootCount = boot then
        let b := { b with lastHeard := s.now, port := f.port }
        (s.putStation b).cycleSet b
      else s.helloRestart b f boot credit zone

/-- The entry a label link message is matched to, heard (R109): the state after it and the entry. -/
def State.hearStation (s : State) (f : LabelFrame) : Option (State × BaseStation) :=
  match s.station f.station with
  | none => none
  | some b =>
    if b.phase = .active ∧ b.address = f.source then
      let b := { b with lastHeard := s.now, port := f.port }
      some (s.putStation b, b)
    else none

/-! ### Results, deadlines and sightings (R117-R119) -/

/-- An update in flight ended with an outcome: its record removed, the outcome reported, the arbiter called on the
freed credit (R117, R118). -/
def State.endUpdate (s : State) (b : BaseStation) (r : InFlightRecord) (o : UpdateOutcome) : State :=
  let s := s.putStation { b with inFlight := b.inFlight.filter (fun x => x.tag != r.tag) }
  (s.updateEnded r.tag r.label o).callArbiter b.id

/-- An UPDATE_RESULT (R117). DESIGN CHOICE: one that matches no taken ACTIVE entry is counted nowhere (log 42). -/
def State.updateResult (s : State) (f : LabelFrame) (tag label : Nat) (o : UpdateOutcome) : State :=
  match s.hearStation f with
  | none => s
  | some (s, b) =>
    match b.inFlight.find? (fun r => r.tag == tag) with
    | none => s
    | some r => if r.label = label then s.endUpdate b r o else s

/-- A LABEL_SEEN: its sightings one by one, the arbiter runs of each made before the next (R119; log 10). DESIGN CHOICE:
one that matches no taken ACTIVE entry is counted nowhere (log 42). -/
def State.labelSeen (s : State) (f : LabelFrame) (sightings : List Sighting) : State :=
  match s.hearStation f with
  | none => s
  | some (s, _) => sightings.foldl (fun s g => (s.sighting f.station g).settle) s

/-- An ACTIVE station silent for 30 s becomes LOST (R109); otherwise nothing happens (log 11). -/
def State.stationSilence (s : State) (station : Nat) : State :=
  match s.station station with
  | none => s
  | some b => if b.phase = .active ∧ b.lastHeard + 30000 ≤ s.now then s.loseStation b else s

/-- An in-flight record at its deadline ends NO_ANSWER (R118); otherwise nothing happens (log 11). -/
def State.updateDeadline (s : State) (station tag : Nat) : State :=
  match s.station station with
  | none => s
  | some b =>
    match b.inFlight.find? (fun r => r.tag == tag) with
    | none => s
    | some r => if r.deadline ≤ s.now then s.endUpdate b r .noAnswer else s

end Sys2Proof.Machine
end

