-- ==== Sys2Proof/Machine/Tills.lean ====
section
/-! DEFINITION. Machine/Tills.lean: the Till Service (chapter 3): the table, sign-on and sign-off, quotes, and a sale
up to its hand-off and from the end of its append. -/

namespace Sys2Proof.Machine

/-! ### The till table (R44, R45) -/

/-- The entry of a till id, none outside 1-64. -/
def State.till (s : State) (id : Nat) : Option TillEntry :=
  if id = 0 then none else s.tills.entries.toList[id - 1]?

/-- The state with a till id's entry replaced. -/
def State.putTill (s : State) (id : Nat) (e : TillEntry) : State :=
  if id = 0 then s else s.setTills { s.tills with entries := s.tills.entries.setIfInBounds (id - 1) e }

/-- A message's station is the one a SIGNED_ON entry is bound to (R45). -/
def TillEntry.matches (e : TillEntry) (source : MacAddr) : Bool := e.phase == .signedOn && e.station == some source

/-- The match of R45: the state with the entry heard from, and the entry, or none. -/
def State.matchTill (s : State) (f : TillFrame) : Option (State × TillEntry) :=
  match s.till f.till with
  | none => none
  | some e =>
    if e.matches f.source then
      let e := { e with lastHeard := s.now, port := some f.port }
      some (s.putTill f.till e, e)
    else none

/-! ### Answers (R42, R43, R208) -/

/-- The kinds of the messages the part sends (R208). -/
inductive TillAnswer where
  | signOnAnswer | quote | saleAck | signOffAnswer
  deriving DecidableEq, Repr

/-- The kind code (R208: kinds 1-8 in the order of R42). -/
def TillAnswer.code : TillAnswer → Nat
  | .signOnAnswer => 2 | .quote => 4 | .saleAck => 6 | .signOffAnswer => 8

/-- An answer offered to the port it goes out on (R43). -/
def State.tillAnswer (s : State) (port : Port) (dest : MacAddr) (kind : TillAnswer) (till : Nat) (body : List Byte) :
    State :=
  s.offerOwn port (s.makeFrame dest s.net.tillType (beBytes 1 kind.code ++ beBytes 1 till ++ body))

/-- Statuses of SIGN_ON_ANSWER (R42). -/
inductive SignOnStatus where
  | ok | tillClash | badTill
  deriving DecidableEq, Repr

def SignOnStatus.code : SignOnStatus → Nat
  | .ok => 0 | .tillClash => 1 | .badTill => 2

/-- Statuses of SIGN_OFF_ANSWER (R42). -/
inductive SignOffStatus where
  | ok | notSignedOn | tillClash
  deriving DecidableEq, Repr

def SignOffStatus.code : SignOffStatus → Nat
  | .ok => 0 | .notSignedOn => 1 | .tillClash => 2

/-- Outcomes of SALE_ACK (R42). -/
inductive SaleOutcome where
  | accepted | duplicate | outOfOrder | hold | notSignedOn | badForm
  deriving DecidableEq, Repr

def SaleOutcome.code : SaleOutcome → Nat
  | .accepted => 0 | .duplicate => 1 | .outOfOrder => 2 | .hold => 3 | .notSignedOn => 4 | .badForm => 5

/-- A SIGN_ON_ANSWER (R46). -/
def State.answerSignOn (s : State) (f : TillFrame) (status : SignOnStatus) (mark : Nat × Nat) : State :=
  s.tillAnswer f.port f.source .signOnAnswer f.till (beBytes 1 status.code ++ beBytes 4 mark.1 ++ beBytes 4 mark.2)

/-- A SIGN_OFF_ANSWER (R47). -/
def State.answerSignOff (s : State) (f : TillFrame) (status : SignOffStatus) : State :=
  s.tillAnswer f.port f.source .signOffAnswer f.till (beBytes 1 status.code)

/-- The body of a QUOTE (R42, R208). -/
def quoteBody (ref : Nat) (q : Quote) : List Byte :=
  beBytes 2 ref ++ beBytes 1 q.status.code ++ beBytes 1 q.basis.code ++ beBytes 4 q.amount ++ beBytes 4 q.version
    ++ beBytes 4 q.unitPrice ++ beBytes 1 (flagByte [q.clamped]) ++ textField q.text

/-- The body of a SALE_ACK (R42, R208). -/
def saleAckBody (basket : Nat) (o : SaleOutcome) (sequence : Nat) : List Byte :=
  beBytes 4 basket ++ beBytes 1 o.code ++ beBytes 4 sequence

/-- A SALE_ACK to the sender of a message. -/
def State.answerSale (s : State) (f : TillFrame) (basket : Nat) (o : SaleOutcome) (sequence : Nat) : State :=
  s.tillAnswer f.port f.source .saleAck f.till (saleAckBody basket o sequence)

/-! ### Signing on and off (R46-R49) -/

/-- The entry a binding SIGN_ON leaves: the sale in flight stays as it is (R46). -/
def TillEntry.bind (e : TillEntry) (f : TillFrame) (now : Nat) : TillEntry :=
  { e with phase := .signedOn, station := some f.source, port := some f.port, lastHeard := now, quotes := 0 }

/-- A SIGN_ON (R46). -/
def State.takeSignOn (s : State) (f : TillFrame) : State :=
  match s.till f.till with
  | none => s.answerSignOn f .badTill (0, 0)
  | some e =>
    match e.phase with
    | .signedOn =>
      match s.matchTill f with
      | none => s.answerSignOn f .tillClash (0, 0)
      | some (s, _) => s.answerSignOn f .ok (s.mark f.till)
    | .absent | .signedOff =>
      let s := (s.putTill f.till (e.bind f s.now)).post .tillSignedOn f.till (Port.index f.port)
      s.answerSignOn f .ok (s.mark f.till)

/-- A till's session ended: SIGNED_OFF, with its notice (R47, R48, R49). -/
def State.endTill (s : State) (id : Nat) (e : TillEntry) : State :=
  (s.putTill id { e with phase := .signedOff }).post .tillSignedOff id e.quotes.toNat

/-- A SIGN_OFF (R47). -/
def State.takeSignOff (s : State) (f : TillFrame) : State :=
  match s.matchTill f with
  | some (s, e) => (s.endTill f.till e).answerSignOff f .ok
  | none =>
    match s.till f.till with
    | none => s.answerSignOff f .notSignedOn
    | some e => s.answerSignOff f (if e.phase = .signedOn then .tillClash else .notSignedOn)

/-- A SIGNED_ON till silent for 900,000 ms expires (R48); otherwise nothing happens (log 11). -/
def State.tillSilence (s : State) (id : Nat) : State :=
  match s.till id with
  | none => s
  | some e => if e.phase = .signedOn ∧ e.lastHeard + 900000 ≤ s.now then s.endTill id e else s

/-- The tills that a port's loss of the TILL role signs off, in till id order (R49). -/
def State.dropPortTills (s : State) (p : Port) : State :=
  tillIds.foldl (fun s id =>
    match s.till id with
    | none => s
    | some e => if e.phase = .signedOn ∧ e.port = some p then s.endTill id e else s) s

/-! ### Quotes (R50, R51) -/

/-- A QUOTE_ASK (R50, R51). -/
def State.takeQuoteAsk (s : State) (f : TillFrame) (ref article quantity : Nat) : State :=
  match s.matchTill f with
  | none => s.tillAnswer f.port f.source .quote f.till (quoteBody ref (.empty .notSignedOn))
  | some (s, e) =>
    let s := s.putTill f.till { e with quotes := e.quotes + 1 }
    s.tillAnswer f.port f.source .quote f.till (quoteBody ref (s.price.quote article quantity))

/-! ### Sales (R52-R56) -/

/-- A line is in form (R52). -/
def SaleLine.inForm (l : SaleLine) : Bool :=
  decide (1 ≤ l.article) && decide (l.article ≤ maxArticle) && decide (1 ≤ l.quantity) && decide (l.quantity ≤ 99999)
    && decide (l.amount ≤ 99999999) && decide (l.basis ≤ 1)

/-- A SALE_PUT is in form (R52). -/
def saleInForm (basket ms lineCount : Nat) (lines : List SaleLine) : Bool :=
  decide (1 ≤ basket) && decide (1 ≤ lineCount) && decide (lineCount ≤ lines.length) && decide (ms < msPerDay)
    && lines.all SaleLine.inForm

/-- A sale handed to the Journal Unit: it waits to start, or joins the append queue (R55, R64; log 21). -/
def State.handOver (s : State) (sale : Sale) : State :=
  match s.journal.append with
  | none => s.setJournal { s.journal with append := some { sale := sale, started := false, reserved := 0 } }
  | some _ => s.setJournal { s.journal with queue := s.journal.queue ++ [sale] }

/-- A SALE_PUT (R52-R55). -/
def State.takeSale (s : State) (f : TillFrame) (basket day ms total lineCount : Nat) (lines : List SaleLine) : State :=
  if !saleInForm basket ms lineCount lines then s.answerSale f basket .badForm 0
  else match s.matchTill f with
    | none => s.answerSale f basket .notSignedOn 0
    | some (s, e) =>
      match e.inFlight with
      | some ctx => if ctx.basket = basket then s else s.answerSale f basket .hold 0
      | none =>
        let mark := s.mark f.till
        if basket = mark.1 then s.answerSale f basket .duplicate mark.2
        else if basket < mark.1 then s.answerSale f basket .outOfOrder 0
        else
          let ctx : SaleContext := { basket := basket, station := f.source, port := f.port }
          (s.putTill f.till { e with inFlight := some ctx }).handOver
            { till := f.till, basket := basket, day := day, ms := ms, total := total, lines := lines }

/-- The end of an append told to the Till Service (R56). -/
def State.saleEnded (s : State) (sale : Sale) (o : SaleOutcome) (sequence : Nat) : State :=
  match s.till sale.till with
  | none => s
  | some e =>
    match e.inFlight with
    | none => s
    | some ctx =>
      (s.putTill sale.till { e with inFlight := none }).tillAnswer ctx.port ctx.station .saleAck sale.till
        (saleAckBody ctx.basket o sequence)

/-! ### Taking a message from the hand-off queue (R149; log 2) -/

/-- The front of the till inbox taken. -/
def State.dropTillFrame (s : State) (rest : List TillFrame) : State := s.setTills { s.tills with inbox := rest }

end Sys2Proof.Machine
end

