-- ==== Sys2Proof/Machine/Forward.lean ====
section
/-! DEFINITION. Machine/Forward.lean: the Forwarding Unit (chapter 8): what becomes of an arriving frame, the station
table, the host delivery queue, SEND_FRAME, transmission, the uplink scheduler, links and roles. -/

namespace Sys2Proof.Machine

/-! ### The station table (R153) -/

/-- The record of a station. -/
def State.stationRecord (s : State) (a : MacAddr) : Option StationRecord := s.net.stations.find a.toNat

/-- The state with the station table replaced. -/
def State.setStations (s : State) (t : Table StationRecord) : State := s.setNet { s.net with stations := t }

/-- A source address offered for learning from a port (R153). -/
def State.learn (s : State) (a : MacAddr) (p : Port) : State :=
  if isGroup a || s.hasRole p .guest || a == s.net.controller || a == s.net.appliance then s
  else if (s.stationRecord a).isSome ∨ s.net.stations.length < 1024 then
    s.setStations (s.net.stations.put a.toNat { port := p, lastSeen := s.now })
  else s

/-- A record last seen 300,000 ms ago removed (R153); otherwise nothing happens (log 11). -/
def State.ageStation (s : State) (a : MacAddr) : State :=
  match s.stationRecord a with
  | none => s
  | some r => if r.lastSeen + 300000 ≤ s.now then s.setStations (s.net.stations.del a.toNat) else s

/-- The port a station was learned on. -/
def State.learnedPort (s : State) (a : MacAddr) : Option Port := (s.stationRecord a).map StationRecord.port

/-- The frame's destination leads up the uplink (R150). -/
def State.towardsUplink (s : State) (a : MacAddr) : Bool :=
  a == s.net.gateway || (match s.learnedPort a with
    | some p => s.hasRole p .uplink
    | none => false)

/-! ### Host delivery (R151, R156) -/

/-- One frame counted in the delivery-miss count (R156, R190). -/
def State.countMisses (s : State) (n : Nat) : State :=
  let d := s.requests.deliveryMiss + BitVec.ofNat 32 n
  (s.setRequests { s.requests with deliveryMiss := d }).status offDeliveryMiss d.toNat

/-- A frame offered for delivery to the host (R156). -/
def State.offerDelivery (s : State) (f : Frame) (ingress : Port) (reason : DeliveryReason) : State :=
  if s.requests.chains.delivery.phase ≠ .running then s.countMisses 1
  else if s.net.freeBuffers = 0 then s.countDrop ingress .noBuffer
  else if 64 ≤ s.net.delivery.length then s.countDrop ingress .queueCap
  else s.setNet { s.net with
    freeBuffers := s.net.freeBuffers - 1
    delivery := s.net.delivery ++ [{ frame := f, ingress := ingress, reason := reason }] }

/-! ### Step 1: frames for the part (R149, R41, R103, R125) -/

/-- The bytes a SALE_PUT line takes in a frame (R208). -/
def saleLineLength : Nat := 18

/-- The lines a frame holds of the number its line count gives (R41, R208). -/
def parseLines : Nat → List Byte → List SaleLine
  | 0, _ => []
  | n + 1, bs =>
    if bs.length < saleLineLength then []
    else
      { article := beField bs 0 6, quantity := beField bs 6 3, amount := beField bs 9 4, version := beField bs 13 4
        basis := beField bs 17 1 } :: parseLines n (bs.drop saleLineLength)

/-- The message of a till link frame: none when its kind is not a till's or it falls short of its fixed fields (R41). -/
def TillMessage.parse (bs : List Byte) : Option TillMessage :=
  let body := bs.drop 2
  if bs.length < 2 then none
  else match beField bs 0 1 with
    | 1 => some .signOn
    | 3 => if body.length < 12 then none else some (.quoteAsk (beField body 0 2) (beField body 2 6) (beField body 8 4))
    | 5 =>
      if body.length < 15 then none
      else
        let n := beField body 14 1
        some (.salePut (beField body 0 4) (beField body 4 2) (beField body 6 4) (beField body 10 4) n
          (parseLines n (body.drop 15)))
    | 7 => some .signOff
    | _ => none

/-- The sightings of a LABEL_SEEN, none when the frame falls short or a field lies outside its range (R103, R104). -/
def parseSightings : Nat → List Byte → Option (List Sighting)
  | 0, _ => some []
  | n + 1, bs =>
    if bs.length < 6 ∨ beField bs 0 4 = 0 ∨ 100 < beField bs 4 1 then none
    else match parseSightings n (bs.drop 6) with
      | none => none
      | some gs => some ({ label := beField bs 0 4, battery := beField bs 4 1, signal := beField bs 5 1 } :: gs)

/-- The outcome code of an UPDATE_RESULT (R209). -/
def UpdateOutcome.ofCode : Nat → Option UpdateOutcome
  | 1 => some .shown | 2 => some .rejected | 3 => some .noAnswer | _ => none

/-- The station id and message of a label link frame, none for the cases of R103. DESIGN CHOICE: a tag or a label id of 0
in an UPDATE_RESULT lies in its range (log 43). -/
def LabelMessage.parse (bs : List Byte) : Option (Nat × LabelMessage) :=
  let id := beField bs 1 2
  let body := bs.drop 3
  if bs.length < 3 ∨ id = 0 then none
  else match beField bs 0 1 with
    | 1 =>
      let credit := beField body 2 1
      if body.length < 5 ∨ credit = 0 ∨ 64 < credit then none
      else some (id, .hello (beField body 0 2) credit (beField body 3 2))
    | 3 =>
      let k := beField body 0 1
      if body.length < 1 ∨ k = 0 ∨ 32 < k then none
      else (parseSightings k (body.drop 1)).map (fun gs => (id, .seen gs))
    | 5 =>
      if body.length < 9 then none
      else (UpdateOutcome.ofCode (beField body 8 1)).map (fun o => (id, .result (beField body 0 4) (beField body 4 4) o))
    | _ => none

/-- The length of the header of the IPv4 datagram in a payload, none when it carries none. -/
def ipv4HeaderLength (p : List Byte) : Option Nat :=
  let b := beField p 0 1
  let n := b % 16 * 4
  if b / 16 = 4 ∧ 20 ≤ n ∧ n ≤ p.length then some n else none

/-- The datagram is a fragment: more fragments follow, or its offset is not 0. -/
def isFragment (p : List Byte) : Bool := beField p 6 2 % 16384 != 0

/-- The UDP datagram of an IPv4 datagram: its destination port and its payload. DESIGN CHOICE: where its total length or its
UDP length says otherwise than the bytes that are there, the bytes that are there are taken and nothing is dropped for it
(R125, R149; log 57). -/
def udpOf (p : List Byte) (header : Nat) : Option (Nat × List Byte) :=
  let bs := (p.take (beField p 2 2)).drop header
  if beField p 9 1 ≠ 17 ∨ bs.length < 8 then none
  else some (beField bs 2 2, fieldBytes bs 8 (beField bs 4 2 - 8))

/-- What step 1 makes of a frame: the state after it, or none when step 1 does not decide the frame (R149). -/
def State.consumeExchange (s : State) (p : Port) (f : Frame) : Option State :=
  if !s.hasRole p .uplink || f.etherType != 0x0800
      || (f.dest != s.net.controller && f.dest != s.net.appliance) then none
  else match ipv4HeaderLength f.payload with
    | none => none
    | some n =>
      if BitVec.ofNat 32 (beField f.payload 16 4) ≠ s.exchange.ownIp then none
      else if isFragment f.payload then some (s.countDrop p .unknown)
      else match udpOf f.payload n with
        | none => none
        | some (dest, bs) =>
          if dest ≠ s.exchange.udpPort then none
          else match s.exchange.parse (BitVec.ofNat 32 (beField f.payload 12 4)) bs with
            | none => some s
            | some m => some (s.setExchange { s.exchange with inbox := s.exchange.inbox ++ [m] })

/-- Till link and label link frames handed over, or dropped (R149, R41, R103). -/
def State.consumeLink (s : State) (p : Port) (f : Frame) : Option State :=
  if f.dest ≠ s.net.controller then none
  else if f.etherType = s.net.tillType ∧ s.hasRole p .till then
    match TillMessage.parse f.payload with
    | none => some (s.countDrop p .unknown)
    | some m =>
      some (s.setTills { s.tills with
        inbox := s.tills.inbox ++ [{ port := p, source := f.source, till := beField f.payload 1 1, message := m }] })
  else if f.etherType = s.net.labelType ∧ s.hasRole p .label then
    match LabelMessage.parse f.payload with
    | none => some (s.countDrop p .unknown)
    | some (id, m) =>
      some (s.setLink { s.link with
        inbox := s.link.inbox ++ [{ port := p, source := f.source, station := id, message := m }] })
  else none

/-- Step 1, with the drop of any other frame addressed to the controller station address (R149). -/
def State.consume (s : State) (p : Port) (f : Frame) : Option State :=
  match s.consumeLink p f with
  | some s => some s
  | none => match s.consumeExchange p f with
    | some s => some s
    | none => if f.dest = s.net.controller then some (s.countDrop p .unknown) else none

/-! ### Steps 2 to 4 (R147, R150-R152) -/

/-- The role matrix between LAN ports (R147); the uplink and the host are steps of their own. -/
def roleAllows : Role → Option Role → Bool
  | .till, some .office => true
  | .label, some .office => true
  | .label, some .label => true
  | .office, some .till => true
  | .office, some .label => true
  | .office, some .office => true
  | .uplink, some .till => true
  | .uplink, some .label => true
  | .uplink, some .office => true
  | _, _ => false

/-- The class of an uplink-bound frame by its ingress role (R150). -/
def ingressClass : Role → Option UplinkClass
  | .till => some .payment
  | .office => some .store
  | .guest => some .guest
  | .label => none
  | .uplink => none

/-- Step 2 (R150): a GUEST frame is asked about after the tests and before it joins. -/
def State.toUplink (s : State) (p : Port) (role : Role) (f : Frame) : State :=
  match ingressClass role with
  | none => s.countDrop p .policy
  | some c =>
    match s.refusal (.cls c) with
    | some r => s.countDrop p r
    | none =>
      if c = .guest then
        match s.guestMeter f.source f.length with
        | (s, true) => s.join (.cls c) f
        | (s, false) => s.countDrop p .guest
      else s.join (.cls c) f

/-- The copies of a broadcast on the other ports of the same role (R151). -/
def State.copyBroadcast (s : State) (p : Port) (role : Role) (f : Frame) : State :=
  if f.dest ≠ broadcastAddr ∨ (role ≠ .office ∧ role ≠ .label ∧ role ≠ .uplink) then s
  else Port.all.foldl (fun s q => if q ≠ p ∧ s.hasRole q role then s.offer (.lan q) f p else s) s

/-- Step 3 (R151; log 18). -/
def State.toHost (s : State) (p : Port) (role : Role) (f : Frame) : State :=
  if role = .guest then
    if s.guestHost f.source then s.offerDelivery f p .guestPortal else s.countDrop p .guest
  else
    (s.offerDelivery f p (if isGroup f.dest then .broadcast else .toAppliance)).copyBroadcast p role f

/-- The downlink to a guest station (R152). -/
def State.toGuest (s : State) (p : Port) (g : GuestSession) (f : Frame) : State :=
  if !s.hasRole g.port .guest then s.countDrop p .policy
  else match s.refusal (.lan g.port) with
    | some r => s.countDrop p r
    | none =>
      match s.guestMeter f.dest f.length with
      | (s, true) => s.join (.lan g.port) f
      | (s, false) => s.countDrop p .guest

/-- Step 4 by the station table (R152). DESIGN CHOICE: a station with a guest session and no station record counts as
unknown to a frame from any port but the UPLINK port (log 45). -/
def State.byStationTable (s : State) (p : Port) (role : Role) (f : Frame) : State :=
  match s.learnedPort f.dest with
  | none => s.countDrop p .unknown
  | some q =>
    if q = p ∨ !roleAllows role (s.port q).role then s.countDrop p .policy else s.offer (.lan q) f p

/-- Steps 2 to 4 for a frame from the network. -/
def State.forward (s : State) (p : Port) (role : Role) (f : Frame) : State :=
  if s.towardsUplink f.dest then s.toUplink p role f
  else if f.dest = s.net.appliance ∨ isGroup f.dest then s.toHost p role f
  else match (if role = .uplink then s.session f.dest else none) with
    | some g => s.toGuest p g f
    | none => s.byStationTable p role f

/-- Steps 1 to 4. -/
def State.steps (s : State) (p : Port) (role : Role) (f : Frame) : State :=
  match s.consume p f with
  | some s => s
  | none => s.forward p role f

/-- The frame check of step 0 (R148), on the bytes as they were received, the check sequence last: 1,518 bytes are 1,500
after the Ethernet header (R208; log 1). Whether the check sequence is right is an operand (log 49). -/
def goodFrame (checkOk : Bool) (bytes : List Byte) : Bool :=
  checkOk && decide (64 ≤ bytes.length) && decide (bytes.length ≤ 1518)
    && (Frame.ofBytes bytes).etherType != controlType

/-- A guest port's own steps before step 1: the drop while CLOSED and the sighting (R150, R160, R166; log 19). -/
def State.guestIngress (s : State) (p : Port) (f : Frame) : State :=
  if s.clock.period = .closed then s.countDrop p .guest
  else match s.sight f.source p with
    | (s, true) => s.steps p .guest f
    | (s, false) => s.countDrop p .guest

/-- A frame received whole (R145, R148). -/
def State.receive (s : State) (p : Port) (checkOk : Bool) (bytes : List Byte) : State :=
  let s := s.countIn p
  match s.requests.runState, (s.port p).role with
  | .stopped, _ => s.countDrop p .policy
  | .running, none => s.countDrop p .policy
  | .running, some role =>
    if !goodFrame checkOk bytes then s.countDrop p .unknown
    else
      let f := Frame.ofBytes bytes
      let s := s.learn f.source p
      if role = .guest then s.guestIngress p f else s.steps p role f

/-! ### SEND_FRAME (R161) -/

/-- The target of a frame for a port: its LAN egress queue, or the STORE queue on the UPLINK port. -/
def State.egressOf (s : State) (p : Port) : Target := if s.hasRole p .uplink then .cls .store else .lan p

/-- A copy offered to a port: the state after it, and 1 if it joined (R161). -/
def State.sendCopy (s : State) (f : Frame) (p : Port) : State × Nat :=
  match s.refusal (s.egressOf p) with
  | some r => (s.countDrop p r, 0)
  | none => (s.join (s.egressOf p) f, 1)

/-- The copies of a group frame on every assigned port whose link is up (R161). DESIGN CHOICE: the ports take their copies
in the order P0 to P4, so that with fewer free buffers than copies the later ports' copies are dropped (log 18). -/
def State.sendToAll (s : State) (f : Frame) : State × Nat :=
  Port.all.foldl (fun r p =>
    if (r.1.port p).role.isSome ∧ (r.1.port p).linkUp then
      let x := r.1.sendCopy f p
      (x.1, r.2 + x.2)
    else r) (s, 0)

/-- A FORWARD frame decided (R161). -/
def State.sendForward (s : State) (f : Frame) : State × Nat :=
  if isGroup f.dest then s.sendToAll f
  else if f.dest = s.net.appliance ∨ f.dest = s.net.controller then (s, 0)
  else if s.towardsUplink f.dest then
    match s.net.uplink with
    | none => (s, 0)
    | some p => s.sendCopy f p
  else match s.session f.dest with
    | some g => if s.hasRole g.port .guest then s.sendCopy f g.port else (s.countDrop g.port .policy, 0)
    | none => match s.learnedPort f.dest with
      | none => (s, 0)
      | some p => if (s.port p).role.isSome then s.sendCopy f p else (s.countDrop p .policy, 0)

/-! ### Transmission (R155, R157-R159) -/

/-- A port's wire set. -/
def State.setWire (s : State) (p : Port) (w : Option OnWire) : State := s.setPort p { s.port p with wire := w }

/-- A port whose link is up and that is idle starts its next pause or resume frame, else the head of its LAN egress
queue (R155, R157). DESIGN CHOICE: the port's role is not asked, so an answer queued by R49 on a port that has become
unassigned is sent (log 46). -/
def State.startLan (s : State) (p : Port) : State :=
  let x := s.port p
  if x.linkUp ∧ x.wire = none then
    match x.control with
    | k :: rest => s.setPort p { x with control := rest, wire := some (.control k) }
    | [] => match x.lan with
      | f :: rest => s.setPort p { x with lan := rest, wire := some (.buffered f) }
      | [] => s
  else s

/-- A frame out counted (R162). -/
def PortCounters.out (c : PortCounters) : PortCounters := { c with framesOut := c.framesOut + 1 }

/-- A transmission ends (R155, R157, R159). -/
def State.endTransmit (s : State) (p : Port) : State :=
  let x := s.port p
  match x.wire with
  | none => s
  | some (.control _) => s.setPort p { x with wire := none, counters := x.counters.out }
  | some (.buffered _) => (s.setPort p { x with wire := none, counters := x.counters.out }).returnBuffers 1

/-- The fallback order (R159). -/
def fallbackOrder : List UplinkClass := [.payment, .store, .exchange, .guest]

/-- The class the present slot names (R159, R160). -/
def State.slotClass (s : State) : UplinkClass :=
  match s.clock.period with
  | .opened => s.net.day[s.net.pointer]
  | .closed => s.net.night[s.net.pointer]

/-- The class of a pick: the slot's, or the first in fallback order whose queue holds a frame (R159). -/
def State.pickClass (s : State) : Option UplinkClass :=
  (s.slotClass :: fallbackOrder).find? (fun c => !(s.net.classes.get c).isEmpty)

/-- The uplink can start a frame (R159); pause and resume frames waiting on the port go first (R157; log 48). -/
def PortState.idle (x : PortState) : Bool := x.linkUp && x.wire.isNone && x.control.isEmpty

/-- One pick of the scheduler, when the uplink can start a frame (R159). -/
def State.pickUplink (s : State) : State :=
  match s.net.uplink with
  | none => s
  | some p =>
    if (s.port p).idle && decide (0 ≤ s.net.tokens) then
      match s.pickClass with
      | none => s
      | some c => match s.net.classes.get c with
        | [] => s
        | f :: rest =>
          let s := s.setNet { s.net with
            classes := s.net.classes.set c rest, pointer := s.net.pointer + 1
            tokens := s.net.tokens - 8 * (f.length : Int) }
          let s := s.setWire p (some (.buffered f))
          if c = .guest then s.resumeTest else s
    else s

/-- The pacer at a millisecond step (R158). -/
def Forwarding.topUp (n : Forwarding) : Forwarding := { n with tokens := min (n.tokens + n.rate) n.depth }

/-! ### Links (R163) -/

/-- A frame on a port's wire ends, its buffer returned and nothing counted (R163). -/
def State.dropWire (s : State) (p : Port) : State :=
  match (s.port p).wire with
  | none => s
  | some (.control _) => s.setWire p none
  | some (.buffered _) => (s.setWire p none).returnBuffers 1

/-- A port's link reported down (R163; log 29): nothing when it is down already. DESIGN CHOICE: PORT_LINK is posted first,
so that it stands before the EXCHANGE_ENDED of a session that ends LINK_DOWN (log 53). -/
def State.linkDown (s : State) (p : Port) : State :=
  if !(s.port p).linkUp then s
  else
    let s := s.setPort p { s.port p with linkUp := false, control := [] }
    let s := s.post .portLink (Port.index p) (twoParts 0 0)
    let s := (s.freeLan p).dropWire p
    if s.hasRole p .uplink then (s.freeUplink p).reportUplink false else s

/-- A port's link reported up (R163): nothing when it is up already. -/
def State.linkUp (s : State) (p : Port) : State :=
  if (s.port p).linkUp then s
  else
    let s := s.setPort p { s.port p with linkUp := true }
    let s := s.post .portLink (Port.index p) (twoParts 1 0)
    if s.hasRole p .uplink then s.reportUplink true else s

/-! ### Roles (R146) -/

/-- The roles and addresses a SET_PORT_ROLES carries. -/
structure RoleSettings where
  roles : PerPort (Option Role)
  appliance : MacAddr
  controller : MacAddr
  gateway : MacAddr
  tillType : EtherType
  labelType : EtherType
  deriving DecidableEq, Repr

/-- The settings are in form (R146). -/
def RoleSettings.inForm (r : RoleSettings) : Bool :=
  (Port.all.countP (fun p => r.roles.get p == some .uplink)) == 1
    && !isGroup r.appliance && !isGroup r.controller && !isGroup r.gateway
    && r.appliance != r.controller && r.appliance != r.gateway && r.controller != r.gateway
    && decide (0x0600 ≤ r.tillType.toNat) && decide (0x0600 ≤ r.labelType.toNat) && r.tillType != r.labelType

/-- The new values in place (R146). -/
def State.placeRoles (s : State) (r : RoleSettings) : State :=
  let s := s.setNet { s.net with
    appliance := r.appliance, controller := r.controller, gateway := r.gateway, tillType := r.tillType
    labelType := r.labelType }
  Port.all.foldl (fun s p => s.setPort p { s.port p with role := r.roles.get p }) s

/-- The clean-up of a port whose role has changed from `old` (R146, steps 1 to 4). -/
def State.cleanPort (s : State) (p : Port) (old : Option Role) : State :=
  let new := (s.port p).role
  if old = new then s
  else
    let s := s.freeLan p
    let s := s.setStations (s.net.stations.filter (fun e => e.2.port != p))
    let s := if s.net.paused && old == some .guest then s.sendControl p .resume
      else if s.net.paused && new == some .guest then s.sendControl p .pause
      else s
    let s := if old = some .guest then s.dropPortSessions p else s
    let s := if old = some .till then s.dropPortTills p else s
    if old = some .label then s.losePortStations p else s

/-- The uplink's move (R146): its class queues freed and the new port's link state reported. -/
def State.moveUplink (s : State) (old : Option Port) : State :=
  if s.net.uplink = old then s
  else
    let s := match old with
      | some p => s.freeUplink p
      | none => s
    match s.net.uplink with
    | some p => s.reportUplink (s.port p).linkUp
    | none => s

/-- A SET_PORT_ROLES taken (R146). DESIGN CHOICE: the ports are cleaned up in the order P0 to P4, and so the
TILL_SIGNED_OFF notices of R49 come port by port, in till id order within a port (log 39); till messages and label link
messages that wait in their hand-off queues stay there, whatever becomes of their port's role (log 40). -/
def State.setRoles (s : State) (r : RoleSettings) : State :=
  let before := s.net
  let s := s.placeRoles r
  let s := Port.all.foldl (fun s p => s.cleanPort p (before.ports.get p).role) s
  s.moveUplink before.uplink

end Sys2Proof.Machine
end

