-- ==== Sys2Proof/Machine/Chains.lean ====
section
/-! DEFINITION. Machine/Chains.lean: the Request Unit's walkers (11.3, 11.4): taking a record, finishing it, parking,
host writes to watched words, and the DELIVERY chain's own way (11.5). -/

namespace Sys2Proof.Machine

/-! ### The directory (R188, R192, R206) -/

/-- The directory entry of a chain. -/
def dirEntry (c : Chain) : Nat := 0x400 + 64 * Chain.index c

/-- The head word of a chain. -/
def headWord (c : Chain) : Nat := dirEntry c

/-- The command word of a chain. -/
def commandWord (c : Chain) : Nat := dirEntry c + 4

/-- A chain. -/
def State.chain (s : State) (c : Chain) : ChainState := s.requests.chains.get c

/-- A chain's fields as its walker holds them. -/
def State.storeChain (s : State) (c : Chain) (x : ChainState) : State :=
  s.setRequests { s.requests with chains := s.requests.chains.set c x }

/-- A word written when a field has changed (R189). -/
def State.writeChanged (s : State) (off : Nat) (old new : Word) : State := if old = new then s else s.writeWord off new

/-- The part's four fields of a directory entry and the chain's status word brought up to date (R192, R190). DESIGN CHOICE:
bytes 24 to 63 of the entry, which R206 marks zero, are zeroed by the resets alone, and stay as a host write leaves them
(R203; log 60). -/
def State.writeEntry (s : State) (c : Chain) (old new : ChainState) : State :=
  let e := dirEntry c
  let phase (x : ChainState) : Word := BitVec.ofNat 32 x.phase.code
  let fault (x : ChainState) : Word := BitVec.ofNat 32 x.fault.code
  let s := s.writeChanged (e + 8) (phase old) (phase new)
  let s := s.writeChanged (e + 12) old.current new.current
  let s := s.writeChanged (e + 16) old.done new.done
  let s := s.writeChanged (e + 20) (fault old) (fault new)
  s.writeChanged (offChainStates + 4 * Chain.index c) (phase old) (phase new)

/-- The current word of the entry written, whatever the host has put there (R189, R192, R194). -/
def State.writeCurrent (s : State) (c : Chain) : State := s.writeWord (dirEntry c + 12) (s.chain c).current

/-- The fault word of the entry written, whatever the host has put there (R189, R192, R194). -/
def State.writeFault (s : State) (c : Chain) : State :=
  s.writeWord (dirEntry c + 20) (BitVec.ofNat 32 (s.chain c).fault.code)

/-- Every frame of the host delivery queue dropped into the delivery-miss count (R156). DESIGN CHOICE: the count's word is
written also when no frame waited (R190; log 61). -/
def State.dropDelivery (s : State) : State :=
  let n := s.net.delivery.length
  ((s.setNet { s.net with delivery := [] }).countMisses n).returnBuffers n

/-- A chain's fields replaced, with what the directory, the status block and a DELIVERY chain that leaves RUNNING ask
for (R192, R156). -/
def State.setChain (s : State) (c : Chain) (x : ChainState) : State :=
  let old := s.chain c
  let s := (s.storeChain c x).writeEntry c old x
  if c = .delivery ∧ old.phase = .running ∧ x.phase ≠ .running then s.dropDelivery else s

/-! ### Records (R194, R206) -/

/-- The end of record space. -/
def storeEnd : Nat := 0x40000

/-- The start of record space. -/
def recordSpace : Nat := 0x3000

/-- Record states (R206). -/
inductive RecordState where
  | free | new | taken | done | failed
  deriving DecidableEq, Repr

/-- The code of a record state. -/
def RecordState.code : RecordState → Nat
  | .free => 0 | .new => 1 | .taken => 2 | .done => 3 | .failed => 4

/-- A record's state written. -/
def State.writeRecordState (s : State) (x : Nat) (r : RecordState) : State := s.writeStore (x + 4) (leBytes 1 r.code)

/-- A byte of a record. -/
def State.recordByte (s : State) (x off : Nat) : Nat := (s.store.read (x + off)).toNat

/-- The body length of a record. -/
def State.bodyLength (s : State) (x : Nat) : Nat := leNat (s.store.readBytes (x + 10) 2)

/-- An offset at which a record header lies inside record space (R194, R196). -/
def goodOffset (x : Nat) : Bool := x % 64 == 0 && decide (recordSpace ≤ x) && decide (x + 32 ≤ storeEnd)

/-- The four checks of R194, in order. -/
def State.recordFault (s : State) (x : Nat) : FaultCode :=
  if !goodOffset x then .badLink
  else if 4096 < 32 + s.bodyLength x ∨ storeEnd < x + 32 + s.bodyLength x then .badLength
  else if s.recordByte x 4 ≠ RecordState.new.code then .notNew
  else .noFault

/-- The record at an offset, as its walker reads it when it takes it (R194; log 13). -/
def State.readRecord (s : State) (x : Nat) : RecordInHand :=
  { offset := x, kind := s.recordByte x 5, tell := s.recordByte x 6 == 1
    body := s.store.readBytes (x + 32) (s.bodyLength x) }

/-- A chain faulted at an offset (R194, R196). -/
def State.faultChain (s : State) (c : Chain) (x : Word) (f : FaultCode) : State :=
  let s := s.setChain c { s.chain c with phase := .faulted, current := x, fault := f, inHand := none, stopping := false }
  ((s.writeCurrent c).writeFault c).raise .fault

/-- The record at an offset taken, the chain being RUNNING (R194). -/
def State.takeRecord (s : State) (c : Chain) (x : Word) : State :=
  match s.recordFault x.toNat with
  | .noFault =>
    let r := s.readRecord x.toNat
    let s := s.writeRecordState x.toNat .taken
    (s.setChain c { s.chain c with phase := .running, current := x, inHand := some r }).writeCurrent c
  | f => s.faultChain c x f

/-- A chain goes on to the record at a nonzero offset: it takes it, or, on the DELIVERY chain, will take it when a
frame waits (R192, R196, R197). -/
def State.goTo (s : State) (c : Chain) (x : Word) : State :=
  if c = .delivery then (s.setChain c { s.chain c with phase := .running, current := x, inHand := none }).writeCurrent c
  else s.takeRecord c x

/-! ### Finishing a record (R195, R196) -/

/-- The result parts written into the body (R195, step 2). -/
def State.writeParts (s : State) (x : Nat) (parts : List (Nat × List Byte)) : State :=
  parts.foldl (fun s p => s.writeStore (x + 32 + p.1) p.2) s

/-- The result written: parts, code, flags, and the state last (R195, step 2). DESIGN CHOICE: the header bytes that R206 marks
zero, 9 and 12 to 31, are left as the host wrote them (R203; log 60). -/
def State.writeResult (s : State) (x : Nat) (r : Reply) : State :=
  let s := s.writeParts x r.parts
  let s := s.writeStore (x + 7) (leBytes 1 r.code.number)
  let s := s.writeStore (x + 8) [r.flags.byte]
  s.writeRecordState x (if r.done then .done else .failed)

/-- The cause a finished record with tell set raises (R195, R197; log 23). -/
def tellCause (c : Chain) : Cause := if c = .delivery then .delivered else .done

/-- The link of a finished record read: the next record, or parking (R196). -/
def State.readLink (s : State) (c : Chain) (x : Nat) : State :=
  let y := s.storeWord x
  if y = 0 then s.setChain c { s.chain c with phase := .parked, current := BitVec.ofNat 32 x, inHand := none }
  else s.goTo c y

/-- A record finished: steps 2 to 5 of R195, or OFF in place of the link when a STOP waits (R193). -/
def State.finish (s : State) (c : Chain) (x : Nat) (tell : Bool) (r : Reply) : State :=
  let s := s.writeResult x r
  let stop := (s.chain c).stopping
  let s := s.setChain c { s.chain c with done := (s.chain c).done + 1, inHand := none, stopping := false }
  let s := if tell then s.raise (tellCause c) else s
  if stop then s.setChain c { s.chain c with phase := .off } else s.readLink c x

/-! ### Carrying out a request (R195, step 1; log 3) -/

/-- The kinds of a chain (R191, R206). -/
def chainKinds : Chain → List Nat
  | .setup => [0x01, 0x02, 0x03, 0x04, 0x05, 0x06, 0x07, 0x08, 0x09, 0x0A]
  | .price => [0x11, 0x12, 0x13, 0x14, 0x15, 0x16, 0x17]
  | .label => [0x06, 0x21, 0x22, 0x23, 0x24, 0x25]
  | .net => [0x31, 0x32, 0x33, 0x34, 0x35]
  | .exchange => [0x41, 0x42, 0x43]
  | .delivery => [0x51]

/-- A request kind: its code and its fixed fields (R206, R212). -/
structure RequestKind where
  code : Nat
  fixed : Nat
  deriving DecidableEq, Repr

/-- A reply with no result part, for a record that is refused before its block sees it (R195). -/
def refusedReply (code : Code) : Reply := .plain code []

/-- The record in hand of a chain carried out as a request of one kind: `f` is what the owning block does with the
body, `mine` tells this row's records of the kind (R195; log 3). -/
def State.carryOut (s : State) (c : Chain) (k : RequestKind) (mine : List Byte → Bool)
    (f : State → List Byte → State × Reply) : State :=
  match (s.chain c).inHand with
  | none => s
  | some r =>
    if r.kind ∉ chainKinds c then s.finish c r.offset r.tell (refusedReply .badKind)
    else if r.kind ≠ k.code then s
    else if r.body.length < k.fixed then s.finish c r.offset r.tell (refusedReply .badForm)
    else if mine r.body then
      let x := f s r.body
      x.1.finish c r.offset r.tell x.2
    else s

/-- A request every record of whose kind is this row's. -/
def State.request (s : State) (c : Chain) (k : RequestKind) (f : State → List Byte → State × Reply) : State :=
  s.carryOut c k (fun _ => true) f

/-! ### Host writes (R189, R192, R193, R196) -/

/-- A head word read with a value while the part is RUNNING (R192). -/
def State.actOnHead (s : State) (c : Chain) (v : Word) : State :=
  match (s.chain c).phase with
  | .off | .faulted =>
    if v = 0 then s
    else
      let s := s.setChain c { s.chain c with phase := .running, current := v, fault := .noFault, stopping := false }
      (s.writeFault c).goTo c v
  | .running => s
  | .parked => s

/-- A STOP read from a command word while the part is RUNNING (R193). -/
def State.actOnStop (s : State) (c : Chain) : State :=
  let x := s.chain c
  match x.phase with
  | .off => s
  | .running => if x.inHand.isSome then s.setChain c { x with stopping := true } else s.setChain c { x with phase := .off }
  | .parked => s.setChain c { x with phase := .off }
  | .faulted => s.setChain c { x with phase := .off }

/-- A command word read with a value while the part is RUNNING; NONE is written back (R193). -/
def State.actOnCommand (s : State) (c : Chain) (v : Word) : State :=
  (if v = 1 then s.actOnStop c else s).writeWord (commandWord c) 0

/-- The announcement of a link word to a chain (R196): nothing unless the chain is parked on that record. -/
def State.announceLink (s : State) (off : Nat) (v : Word) (c : Chain) : State :=
  let x := s.chain c
  if x.phase = .parked ∧ x.current.toNat = off then
    if v = 0 then s
    else if goodOffset v.toNat then s.goTo c v
    else s.faultChain c v .badLink
  else s

/-- A host write announced, if its word is watched while the part is RUNNING (R189, R186; log 4). -/
def State.announce (s : State) (off : Nat) (v : Word) : State :=
  if s.requests.runState = .stopped then s
  else match Chain.all.find? (fun c => headWord c == off) with
    | some c => s.actOnHead c v
    | none => match Chain.all.find? (fun c => commandWord c == off) with
      | some c => s.actOnCommand c v
      | none => Chain.all.foldl (fun s c => s.announceLink off v c) s

/-- A word with the enabled bytes of another written over it. -/
def mergeBytes (old new : Word) (enables : BitVec 4) : Word :=
  let mask : Word := (if enables.getLsbD 0 then 0xFF else 0) ||| (if enables.getLsbD 1 then 0xFF00 else 0)
    ||| (if enables.getLsbD 2 then 0xFF0000 else 0) ||| (if enables.getLsbD 3 then 0xFF000000 else 0)
  (new &&& mask) ||| (old &&& ~~~ mask)

/-- A host write to a word of the common store with byte enables (R189; log 4). -/
def State.hostWrite (s : State) (off : Nat) (v : Word) (enables : BitVec 4) : State :=
  if enables = 0 then s
  else
    let w := mergeBytes (s.storeWord off) v enables
    (s.writeWord off w).announce off w

/-- What the Request Unit does at the change to RUNNING (R186; log 22). -/
def State.startWalkers (s : State) : State :=
  Chain.all.foldl (fun s c => (s.writeWord (commandWord c) 0).actOnHead c (s.storeWord (headWord c))) s

/-! ### The DELIVERY chain (R197) -/

/-- The delivery descriptor and the frame bytes written into a body (R197, R206). -/
def deliveryParts (d : Delivery) (room : Nat) : List (Nat × List Byte) :=
  let bs := d.frame.toBytes
  let n := min bs.length room
  [(0, leBytes 2 bs.length ++ leBytes 2 n ++ leBytes 1 (Port.index d.ingress) ++ leBytes 1 d.reason.code ++ zeros 2),
   (8, bs.take n)]

/-- The reply of a filled record (R197). -/
def deliveryReply (d : Delivery) (room : Nat) : Reply :=
  { code := .ok, done := true, parts := deliveryParts d room
    flags := { ResultFlags.clear with cut := decide (room < d.frame.toBytes.length) } }

/-- The record at the DELIVERY chain's current, taken (R194) and filled with a waiting frame (R197). -/
def State.fillRecord (s : State) (d : Delivery) (rest : List Delivery) (r : RecordInHand) : State :=
  let s := (s.writeRecordState r.offset .taken).writeCurrent .delivery
  if r.kind ∉ chainKinds .delivery then s.finish .delivery r.offset r.tell (refusedReply .badKind)
  else if r.body.length < 8 then s.finish .delivery r.offset r.tell (refusedReply .shortRecord)
  else
    let s := (s.setNet { s.net with delivery := rest }).returnBuffers 1
    s.finish .delivery r.offset r.tell (deliveryReply d (r.body.length - 8))

/-- The DELIVERY chain's step when a frame waits (R197); nothing when none waits or the chain is not RUNNING
(log 47). -/
def State.fillDelivery (s : State) : State :=
  match s.net.delivery with
  | [] => s
  | d :: rest =>
    let x := s.chain .delivery
    if x.phase ≠ .running then s
    else match s.recordFault x.current.toNat with
      | .noFault => s.fillRecord d rest (s.readRecord x.current.toNat)
      | f => s.faultChain .delivery x.current f

end Sys2Proof.Machine
end

