-- ==== Sys2Proof/Machine/Operands.lean ====
section
/-! DEFINITION. Machine/Operands.lean: the request bodies and the images of R212: every request kind with its fixed
fields, every field of a body, and every result part. -/

namespace Sys2Proof.Machine

/-! ### Kinds and fixed fields (R206, R212) -/

namespace Kind

def setPortRoles : RequestKind := ⟨0x01, 28⟩
def setSlotTables : RequestKind := ⟨0x02, 64⟩
def setPacer : RequestKind := ⟨0x03, 32⟩
def setGuestPolicy : RequestKind := ⟨0x04, 8⟩
def setLabelParams : RequestKind := ⟨0x05, 4⟩
def loadTemplate : RequestKind := ⟨0x06, 22⟩
def setExchangeParams : RequestKind := ⟨0x07, 44⟩
def setClock : RequestKind := ⟨0x08, 8⟩
def setPeriod : RequestKind := ⟨0x09, 16⟩
def setPlausibility : RequestKind := ⟨0x0A, 4⟩
def loadItems : RequestKind := ⟨0x11, 4⟩
def changePrice : RequestKind := ⟨0x12, 28⟩
def confirmChange : RequestKind := ⟨0x13, 16⟩
def rejectChange : RequestKind := ⟨0x14, 8⟩
def setText : RequestKind := ⟨0x15, 36⟩
def removeItem : RequestKind := ⟨0x16, 8⟩
def readItem : RequestKind := ⟨0x17, 8⟩
def bindLabel : RequestKind := ⟨0x21, 16⟩
def unbindLabel : RequestKind := ⟨0x22, 4⟩
def setLabelTemplate : RequestKind := ⟨0x23, 8⟩
def retryLabel : RequestKind := ⟨0x24, 4⟩
def readLabel : RequestKind := ⟨0x25, 4⟩
def sendFrame : RequestKind := ⟨0x31, 8⟩
def admitGuest : RequestKind := ⟨0x32, 28⟩
def revokeGuest : RequestKind := ⟨0x33, 16⟩
def readCounts : RequestKind := ⟨0x34, 4⟩
def flushStations : RequestKind := ⟨0x35, 4⟩
def startExchange : RequestKind := ⟨0x41, 4⟩
def abortExchange : RequestKind := ⟨0x42, 0⟩
def readJournalState : RequestKind := ⟨0x43, 0⟩

end Kind

/-! ### Fields -/

/-- A station address in a store structure, in wire order (R203). -/
def addressAt (b : List Byte) (off : Nat) : MacAddr := BitVec.ofNat 48 (beField b off 6)

/-- A promotion in a request body: T 4, then N 1, N 0 meaning none (R212). -/
def promoAt (b : List Byte) (off : Nat) : Option Promotion := promoOf (leField b (off + 4) 1) (leField b off 4)

/-- A flag code: 0 clear, 1 set, none for any other (R204, R212). -/
def flagCode : Nat → Option Bool
  | 0 => some false | 1 => some true | _ => none

/-- A number brought into a range, and whether it had to be (R195). -/
def clampFlag (lo hi v : Nat) : Nat × Bool := (clampTo lo hi v, clampTo lo hi v != v)

/-! ### SETUP bodies -/

/-- The role codes of P0 to P4, none when one names no role. -/
def rolesAt (b : List Byte) : Option (PerPort (Option Role)) := do
  let r0 ← Role.ofCode (leField b 0 1)
  let r1 ← Role.ofCode (leField b 1 1)
  let r2 ← Role.ofCode (leField b 2 1)
  let r3 ← Role.ofCode (leField b 3 1)
  let r4 ← Role.ofCode (leField b 4 1)
  return ⟨r0, r1, r2, r3, r4⟩

/-- The body of SET_PORT_ROLES. -/
def roleSettingsOf (b : List Byte) : Option RoleSettings :=
  (rolesAt b).map (fun roles =>
    { roles := roles, appliance := addressAt b 6, controller := addressAt b 12, gateway := addressAt b 18
      tillType := BitVec.ofNat 16 (leField b 24 2), labelType := BitVec.ofNat 16 (leField b 26 2) })

/-- A slot table from an offset of the body of SET_SLOT_TABLES, none when a code names no class. -/
def slotsAt (b : List Byte) (off : Nat) : Option (Vector UplinkClass 32) :=
  let codes := (fieldBytes b off 32).map BitVec.toNat
  if codes.length = 32 ∧ codes.all (fun c => (UplinkClass.ofCode c).isSome) then
    some (Vector.ofFn (fun i : Fin 32 => (UplinkClass.ofCode (codes.getD i.val 0)).getD .payment))
  else none

/-- The settings of a SET_PACER. -/
structure PacerSettings where
  lanCaps : PerPort Nat
  classCaps : PerClass Nat
  pauseLevel : Nat
  resumeLevel : Nat
  rate : Nat
  depth : Nat
  deriving DecidableEq, Repr

/-- The body of SET_PACER, before clamping. -/
def pacerOf (b : List Byte) : PacerSettings :=
  { lanCaps := ⟨leField b 0 2, leField b 2 2, leField b 4 2, leField b 6 2, leField b 8 2⟩
    classCaps := ⟨leField b 10 2, leField b 12 2, leField b 14 2, leField b 16 2⟩
    pauseLevel := leField b 18 2, resumeLevel := leField b 20 2, rate := leField b 24 4, depth := leField b 28 4 }

/-- The settings clamped; the pause level against the GUEST cap of the same request, then the resume level against it
(R155, R157, R158). -/
def PacerSettings.clamped (p : PacerSettings) : PacerSettings :=
  let cap := clampTo 1 1024
  let guest := cap p.classCaps.guest
  let pause := clampTo 1 guest p.pauseLevel
  { lanCaps := ⟨cap p.lanCaps.p0, cap p.lanCaps.p1, cap p.lanCaps.p2, cap p.lanCaps.p3, cap p.lanCaps.p4⟩
    classCaps := ⟨cap p.classCaps.payment, cap p.classCaps.store, cap p.classCaps.exchange, guest⟩
    pauseLevel := pause, resumeLevel := clampTo 0 (pause - 1) p.resumeLevel
    rate := clampTo 1000 1000000 p.rate, depth := clampTo 12144 8000000 p.depth }

/-- Slots per cycle brought to an allowed value (R112). -/
def slotsPerCycle (v : Nat) : Nat :=
  if v < 128 then 64 else if v < 256 then 128 else if v < 512 then 256 else if v < 1024 then 512 else 1024

/-- A window of a body, from an offset. -/
def windowAt (b : List Byte) (off : Nat) : Window :=
  { firstCol := leField b off 1, firstRow := leField b (off + 1) 1, lastCol := leField b (off + 2) 1
    lastRow := leField b (off + 3) 1 }

/-- A window brought into a grid (R80, steps 2 and 3). -/
def Window.clamped (w : Window) (columns rows : Nat) : Window :=
  let fc := clampTo 1 columns w.firstCol
  let fr := clampTo 1 rows w.firstRow
  { firstCol := fc, firstRow := fr, lastCol := max fc (clampTo 1 columns w.lastCol)
    lastRow := max fr (clampTo 1 rows w.lastRow) }

/-- The template of a LOAD_TEMPLATE body, before clamping. -/
def templateOf (b : List Byte) (colour : Bool) : Template :=
  { columns := leField b 2 1, rows := leField b 3 1, colour := colour, text := windowAt b 6, price := windowAt b 10
    unitPrice := windowAt b 14, promo := windowAt b 18 }

/-- A template brought into range (R80). -/
def Template.clamped (t : Template) : Template :=
  let c := clampTo 1 64 t.columns
  let r := clampTo 1 32 t.rows
  { columns := c, rows := r, colour := t.colour, text := t.text.clamped c r, price := t.price.clamped c r
    unitPrice := t.unitPrice.clamped c r, promo := t.promo.clamped c r }

/-- The settings of a SET_EXCHANGE_PARAMS (R122). -/
structure ExchangeSettings where
  branchId : Word
  ownIp : Ipv4Addr
  serverIp : Ipv4Addr
  udpPort : Nat
  windowStart : Nat
  windowEnd : Nat
  retransmit : Nat
  maxTries : Nat
  idleLimit : Nat
  baseBatch : Nat
  alertLevel : Nat
  deriving DecidableEq, Repr

/-- The body of SET_EXCHANGE_PARAMS, before clamping. -/
def exchangeSettingsOf (b : List Byte) : ExchangeSettings :=
  { branchId := BitVec.ofNat 32 (leField b 0 4), ownIp := BitVec.ofNat 32 (beField b 4 4)
    serverIp := BitVec.ofNat 32 (beField b 8 4), udpPort := leField b 12 4, windowStart := leField b 16 4
    windowEnd := leField b 20 4, retransmit := leField b 24 4, maxTries := leField b 28 4, idleLimit := leField b 32 4
    baseBatch := leField b 36 4, alertLevel := leField b 40 4 }

/-- The settings clamped (R122, R67). -/
def ExchangeSettings.clamped (e : ExchangeSettings) : ExchangeSettings :=
  { e with
    udpPort := clampTo 1 65535 e.udpPort, windowStart := clampTo 0 (msPerDay - 1) e.windowStart
    windowEnd := clampTo 0 (msPerDay - 1) e.windowEnd, retransmit := clampTo 500 10000 e.retransmit
    maxTries := clampTo 1 10 e.maxTries, idleLimit := clampTo 5 600 e.idleLimit
    alertLevel := clampTo 1 journalUnits e.alertLevel }

/-! ### PRICE bodies -/

/-- The bytes one entry of LOAD_ITEMS takes. -/
def itemEntryLength : Nat := 52

/-- An item entry of LOAD_ITEMS. -/
def itemEntryOf (b : List Byte) : ItemEntry :=
  { article := leField b 0 8, textLength := leField b 8 1, text := fieldBytes b 9 24, saleKind := leField b 33 1
    measure := leField b 34 1, refQty := leField b 36 2, packQty := leField b 38 4, base := leField b 42 4
    promo := promoAt b 46 }

/-- The item entries of a LOAD_ITEMS body. -/
def itemEntriesOf (b : List Byte) (count : Nat) : List ItemEntry :=
  (List.range count).map (fun i => itemEntryOf (b.drop (4 + itemEntryLength * i)))

/-- A disposition and a version number as a result part (R212). -/
def dispositionBytes (d : Disposition) (version : Nat) : List Byte := leBytes 1 d.code ++ zeros 3 ++ leBytes 4 version

/-- T and N of an optional promotion, as zeros when absent (R212). -/
def promoStored : Option Promotion → List Byte
  | none => zeros 5
  | some p => leBytes 4 p.t ++ leBytes 1 p.n

/-- A version in an item image, as zeros when absent (R212). -/
def versionStored : Option Version → List Byte
  | none => zeros 16
  | some v => leBytes 4 v.number ++ leBytes 4 v.base ++ promoStored v.promo ++ zeros 3

/-- The waiting change in an item image, as zeros when absent (R212). -/
def waitingStored : Option WaitingChange → List Byte
  | none => zeros 12
  | some w => leBytes 4 w.base ++ promoStored w.promo ++ zeros 3

/-- The presence byte of an item image (R212). -/
def Item.presence (i : Item) : Nat :=
  flagByte [i.pending.isSome, i.waiting.isSome, (i.waiting.map WaitingChange.queried).getD false]

/-- The item image, 124 bytes (R26, R212). -/
def Item.image (i : Item) : List Byte :=
  textField i.text ++ leBytes 1 i.saleKind.code ++ leBytes 1 i.measure.code ++ leBytes 1 i.state.code
    ++ leBytes 2 i.textRevision ++ leBytes 2 i.refQty ++ leBytes 4 i.packQty ++ leBytes 4 i.lastVersion
    ++ leBytes 4 i.origin ++ leBytes 1 i.outstanding ++ leBytes 1 i.staleCount ++ leBytes 1 i.labels.length
    ++ leBytes 1 i.presence ++ versionStored (some i.current) ++ versionStored i.pending ++ waitingStored i.waiting
    ++ (List.range 8).flatMap (fun k => leBytes 4 (i.labels.getD k 0))

/-! ### LABEL images -/

/-- Where a label waits (R92, R212): neither 0, a ready set 1, the homeless set 2. -/
def State.waitingPlace (s : State) (l : Label) : Nat :=
  if l.id ∈ s.labels.homeless then 2 else if s.link.table.any (fun b => decide (l.id ∈ b.ready)) then 1 else 0

/-- The target version number of a label, 0 while UNBINDING (R92). -/
def State.targetNumber (s : State) (l : Label) : Nat :=
  match l.article.bind s.item with
  | none => 0
  | some i => if l.phase = .unbinding then 0 else i.followed.number

/-- The presence byte of a label image (R212). -/
def Label.presence (l : Label) : Nat :=
  flagByte [l.article.isSome, l.home.isSome, l.confirmed.isSome, l.inFlight.isSome, l.again, l.blankDue]

/-- A field of an optional part of an image, zero when the part is absent (R212). -/
def optField {α : Type} (o : Option α) (f : α → Nat) : Nat := (o.map f).getD 0

/-- The label image, 52 bytes (R92, R212). -/
def State.labelImage (s : State) (l : Label) : List Byte :=
  leBytes 1 l.phase.code ++ leBytes 1 l.presence ++ leBytes 1 l.staleReason.code ++ leBytes 1 l.attempts
    ++ leBytes 8 (l.article.getD 0) ++ leBytes 1 l.template ++ leBytes 1 l.battery ++ leBytes 1 l.signal
    ++ leBytes 1 (s.waitingPlace l) ++ leBytes 2 (l.home.getD 0) ++ leBytes 2 (optField l.confirmed Confirmed.textRevision)
    ++ leBytes 8 l.lastHeard ++ leBytes 4 (optField l.confirmed Confirmed.version)
    ++ leBytes 1 (optField l.confirmed Confirmed.template) ++ leBytes 1 (optField l.inFlight (fun u => u.kind.code))
    ++ leBytes 1 (optField l.inFlight InFlightUpdate.template) ++ zeros 1
    ++ leBytes 4 (optField l.inFlight InFlightUpdate.tag) ++ leBytes 4 (optField l.inFlight InFlightUpdate.version)
    ++ leBytes 2 (optField l.inFlight InFlightUpdate.textRevision)
    ++ leBytes 2 (optField l.inFlight InFlightUpdate.station) ++ leBytes 4 (s.targetNumber l)

/-! ### NET and EXCHANGE results -/

/-- The seven counters of a port (R162, R212). -/
def PortCounters.bytes (c : PortCounters) : List Byte :=
  leBytes 4 c.framesIn.toNat ++ leBytes 4 c.framesOut.toNat ++ leBytes 4 c.noBuffer.toNat ++ leBytes 4 c.queueCap.toNat
    ++ leBytes 4 c.policy.toNat ++ leBytes 4 c.guest.toNat ++ leBytes 4 c.unknown.toNat

/-- The counts of READ_COUNTS, 140 bytes (R162, R212). -/
def State.countsImage (s : State) : List Byte := Port.all.flatMap (fun p => (s.port p).counters.bytes)

/-- State, lapse reason, budget and used of a session as a result part (R169, R212). -/
def GuestSession.result (g : GuestSession) : List Byte :=
  leBytes 1 g.phase.code ++ leBytes 1 g.lapse.code ++ zeros 2 ++ leBytes 4 g.budget ++ leBytes 4 g.used

/-- The journal state, 36 bytes (R75, R212). -/
def Journal.image (j : Journal) : List Byte :=
  leBytes 1 j.backedState.code ++ leBytes 1 j.fresh.toNat ++ leBytes 1 j.side.code ++ leBytes 1 j.append.isSome.toNat
    ++ leBytes 4 j.acked ++ leBytes 4 (j.acked + 1) ++ leBytes 4 j.next ++ leBytes 4 j.entries ++ leBytes 4 j.used
    ++ leBytes 4 j.freeUnits ++ leBytes 4 j.alertLevel ++ leBytes 4 j.queue.length

end Sys2Proof.Machine
end

