-- ==== Sys2Proof/Machine/SetupRequests.lean ====
section
/-! DEFINITION. Machine/SetupRequests.lean: the requests of the SETUP chain, and LOAD_TEMPLATE, which the LABEL chain
takes too (R191). -/

namespace Sys2Proof.Machine

/-! ### Forwarding Unit -/

/-- SET_PORT_ROLES (R146, R204). DESIGN CHOICE: a session is BUSY before the form of the body, its role codes included, is
looked at (log 51). -/
def setPortRolesBody (s : State) (b : List Byte) : State × Reply :=
  if s.exchange.state ≠ .idle then (s, .plain .busy [])
  else match roleSettingsOf b with
    | none => (s, .plain .badForm [])
    | some r => if r.inForm then (s.setRoles r, .plain .ok []) else (s, .plain .badForm [])

/-- SET_PORT_ROLES. -/
def execSetPortRoles (s : State) : Host.Outcome State Fault Refusal :=
  .next (if s.powered then (s.request .setup Kind.setPortRoles setPortRolesBody).settle else s)

/-- SET_SLOT_TABLES (R160, R204). -/
def setSlotTablesBody (s : State) (b : List Byte) : State × Reply :=
  match slotsAt b 0, slotsAt b 32 with
  | some day, some night => (s.setNet { s.net with day := day, night := night }, .plain .ok [])
  | _, _ => (s, .plain .badForm [])

/-- SET_SLOT_TABLES. -/
def execSetSlotTables (s : State) : Host.Outcome State Fault Refusal :=
  .next (if s.powered then (s.request .setup Kind.setSlotTables setSlotTablesBody).settle else s)

/-- The caps of the five LAN egress queues set (R155). -/
def State.setLanCaps (s : State) (caps : PerPort Nat) : State :=
  Port.all.foldl (fun s p => s.setPort p { s.port p with lanCap := caps.get p }) s

/-- SET_PACER (R155, R157, R158). -/
def setPacerBody (s : State) (b : List Byte) : State × Reply :=
  let p := pacerOf b
  let q := p.clamped
  let s := s.setLanCaps q.lanCaps
  (s.setNet { s.net with
    classCaps := q.classCaps, pauseLevel := q.pauseLevel, resumeLevel := q.resumeLevel, rate := q.rate, depth := q.depth
    tokens := min s.net.tokens q.depth }, .adjusted (decide (p ≠ q)) [])

/-- SET_PACER. -/
def execSetPacer (s : State) : Host.Outcome State Fault Refusal :=
  .next (if s.powered then (s.request .setup Kind.setPacer setPacerBody).settle else s)

/-! ### Guest Unit -/

/-- The least and the greatest guest budget (R164). -/
def minBudget : Nat := 1048576
def maxBudget : Nat := 4294967295

/-- SET_GUEST_POLICY (R165). -/
def setGuestPolicyBody (s : State) (b : List Byte) : State × Reply :=
  let x := clampFlag minBudget maxBudget (leField b 0 4)
  let y := clampFlag 60 86400 (leField b 4 4)
  (s.setGuests { s.guests with defaultBudget := x.1, defaultLimit := y.1 }, .adjusted (x.2 || y.2) [])

/-- SET_GUEST_POLICY. -/
def execSetGuestPolicy (s : State) : Host.Outcome State Fault Refusal :=
  .next (if s.powered then (s.request .setup Kind.setGuestPolicy setGuestPolicyBody).settle else s)

/-! ### Label Service and Base Station Link -/

/-- SET_LABEL_PARAMS (R93, R112). -/
def setLabelParamsBody (s : State) (b : List Byte) : State × Reply :=
  let x := clampFlag 1 8 (leField b 0 1)
  let v := leField b 2 2
  let slots := slotsPerCycle v
  let changed := slots != s.link.slots
  let s := s.setLabels { s.labels with maxAttempts := x.1 }
  let s := s.setLink { s.link with slots := slots }
  (if changed then s.cycleSetAll else s, .adjusted (x.2 || slots != v) [])

/-- SET_LABEL_PARAMS. -/
def execSetLabelParams (s : State) : Host.Outcome State Fault Refusal :=
  .next (if s.powered then (s.request .setup Kind.setLabelParams setLabelParamsBody).settle else s)

/-- LOAD_TEMPLATE (R80, R204). DESIGN CHOICE: an unknown colour code is BAD_FORM before the template's users are looked
for (log 41). -/
def loadTemplateBody (s : State) (b : List Byte) : State × Reply :=
  let id := leField b 0 2
  match flagCode (leField b 4 1) with
  | none => (s, .plain .badForm [])
  | some colour =>
    if 255 < id then (s, .plain .badForm [])
    else if s.labels.templateUsers id ≠ 0 then (s, .plain .busy [])
    else
      let t := templateOf b colour
      (s.setLabels { s.labels with templates := s.labels.templates.put id t.clamped },
        .adjusted (decide (t ≠ t.clamped)) [])

/-- LOAD_TEMPLATE. -/
def execLoadTemplate (c : Chain) (s : State) : Host.Outcome State Fault Refusal :=
  .next (if s.powered then (s.request c Kind.loadTemplate loadTemplateBody).settle else s)

/-! ### Exchange Unit -/

/-- SET_EXCHANGE_PARAMS (R122, R67, R182). -/
def setExchangeParamsBody (s : State) (b : List Byte) : State × Reply :=
  if s.exchange.state ≠ .idle then (s, .plain .busy [])
  else
    let e := exchangeSettingsOf b
    let q := e.clamped
    let s := s.setExchange { s.exchange with
      branchId := q.branchId, ownIp := q.ownIp, serverIp := q.serverIp, udpPort := q.udpPort, retransmit := q.retransmit
      maxTries := q.maxTries, idleLimit := q.idleLimit, lastBatch := q.baseBatch, paramsSet := true }
    let s := s.setClock { s.clock with windowStart := q.windowStart, windowEnd := q.windowEnd }
    ((s.setJournal { s.journal with alertLevel := q.alertLevel }).testAlert, .adjusted (decide (e ≠ q)) [])

/-- SET_EXCHANGE_PARAMS. -/
def execSetExchangeParams (s : State) : Host.Outcome State Fault Refusal :=
  .next (if s.powered then (s.request .setup Kind.setExchangeParams setExchangeParamsBody).settle else s)

/-! ### Branch Clock -/

/-- The time fields of the status block written, at each millisecond step of a set clock and at SET_CLOCK (R183). DESIGN
CHOICE: the clock set flag is written with them at each of these moments (log 61). -/
def State.writeTime (s : State) : State :=
  match s.clock.base with
  | none => s
  | some b =>
    let t := b.timeAt s.now
    ((s.status offDay t.1).status offMsOfDay t.2).status offClockSet 1

/-- The count at which the time of day next reaches the window end (R126). -/
def State.windowDeadline (s : State) : Nat :=
  let ms := match s.clock.base with
    | none => 0
    | some b => (b.timeAt s.now).2
  let ahead := (s.clock.windowEnd + msPerDay - ms) % msPerDay
  s.now + (if s.clock.windowEnd = s.clock.windowStart then msPerDay else ahead)

/-- The report of the window start taken by the Exchange Unit (R126, R182). -/
def State.windowStartReport (s : State) : State :=
  if s.exchange.paramsSet && s.exchange.state == .idle then s.startSession s.windowDeadline else s

/-- The open time acted on, if it has been reached (R180; log 12). -/
def State.actOnOpen (s : State) : State :=
  if s.clock.openDue then (s.setClock { s.clock with openDue := false }).toPeriod .opened .schedule else s

/-- The close time acted on, if it has been reached (R180; log 12). -/
def State.actOnClose (s : State) : State :=
  if s.clock.closeDue then (s.setClock { s.clock with closeDue := false }).toPeriod .closed .schedule else s

/-- The window start acted on, if it has been reached (R182; log 12). -/
def State.actOnWindow (s : State) : State :=
  if s.clock.windowDue then (s.setClock { s.clock with windowDue := false }).windowStartReport else s

/-- The period made to agree with a schedule at a time of day, no set time any longer waiting to be acted on (R180;
log 12). -/
def State.alignPeriod (s : State) (ms : Nat) (source : SwitchSource) : State :=
  match s.clock.mode with
  | .manual => s
  | .scheduled o c =>
    (s.setClock { s.clock with openDue := false, closeDue := false }).toPeriod (schedulePeriod o c ms) source

/-- SET_CLOCK (R177, R178, R180): a set time that a step taken before it has reached is acted on first (log 12). -/
def setClockBody (s : State) (b : List Byte) : State × Reply :=
  let day := clampFlag 0 65535 (leField b 0 4)
  let ms := clampFlag 0 (msPerDay - 1) (leField b 4 4)
  let s := s.actOnOpen.actOnClose.actOnWindow
  let s := (s.setClock { s.clock with base := some { day := day.1, ms := ms.1, count := s.now } }).writeTime
  (s.alignPeriod ms.1 .clock, .adjusted (day.2 || ms.2) [])

/-- SET_CLOCK. -/
def execSetClock (s : State) : Host.Outcome State Fault Refusal :=
  .next (if s.powered then (s.request .setup Kind.setClock setClockBody).settle else s)

/-- The period and the mode after a SET_PERIOD, as a result part (R179, R212). -/
def periodPart (s : State) : List (Nat × List Byte) :=
  [(12, leBytes 1 s.clock.period.code ++ leBytes 1 s.clock.mode.code ++ zeros 2)]

/-- A period code (R212). -/
def Period.ofCode : Nat → Option Period
  | 0 => some .closed | 1 => some .opened | _ => none

/-- SET_PERIOD with mode MANUAL, or with a mode or period code that names none (R179, R204). -/
def setPeriodManualBody (s : State) (b : List Byte) : State × Reply :=
  match leField b 0 1, Period.ofCode (leField b 1 1) with
  | 0, some p =>
    let s := (s.setClock { s.clock with mode := .manual, openDue := false, closeDue := false }).toPeriod p .request
    (s, .plain .ok (periodPart s))
  | _, _ => (s, .plain .badForm (periodPart s))

/-- The record of a SET_PERIOD is a SCHEDULED one (log 31). -/
def isScheduled (b : List Byte) : Bool := leField b 0 1 == 1

/-- SET_PERIOD, mode MANUAL. -/
def execSetPeriodManual (s : State) : Host.Outcome State Fault Refusal :=
  .next (if s.powered then
    (s.carryOut .setup Kind.setPeriod (fun b => !isScheduled b) setPeriodManualBody).settle else s)

/-- SET_PERIOD with mode SCHEDULED (R180). DESIGN CHOICE: a request that fails because its clamped times are equal does not
carry the adjusted flag (log 54), and the period byte, which only MANUAL carries, is not read: an unknown code there is
taken (R179, R204; log 59). -/
def setPeriodScheduledBody (s : State) (b : List Byte) : State × Reply :=
  match s.clock.base with
  | none => (s, .plain .refusedPeriod (periodPart s))
  | some base =>
    let o := clampFlag 0 (msPerDay - 1) (leField b 4 4)
    let c := clampFlag 0 (msPerDay - 1) (leField b 8 4)
    if o.1 = c.1 then (s, .plain .badForm (periodPart s))
    else
      let ms := (base.timeAt s.now).2
      let s := (s.setClock { s.clock with mode := .scheduled o.1 c.1 }).alignPeriod ms .request
      (s, .adjusted (o.2 || c.2) (periodPart s))

/-- SET_PERIOD, mode SCHEDULED. -/
def execSetPeriodScheduled (s : State) : Host.Outcome State Fault Refusal :=
  .next (if s.powered then
    (s.carryOut .setup Kind.setPeriod isScheduled setPeriodScheduledBody).settle else s)

/-! ### Price Engine -/

/-- SET_PLAUSIBILITY (R40). -/
def setPlausibilityBody (s : State) (b : List Byte) : State × Reply :=
  let d := clampFlag 0 100 (leField b 0 2)
  let u := clampFlag 0 1000 (leField b 2 2)
  (s.setPrice { s.price with down := d.1, up := u.1 }, .adjusted (d.2 || u.2) [])

/-- SET_PLAUSIBILITY. -/
def execSetPlausibility (s : State) : Host.Outcome State Fault Refusal :=
  .next (if s.powered then (s.request .setup Kind.setPlausibility setPlausibilityBody).settle else s)

end Sys2Proof.Machine
end

