-- ==== Sys2Proof/Machine/Events.lean ====
section
/-! DEFINITION. Machine/Events.lean: transmission, links, the millisecond step and the remaining expiries and set
times. -/

namespace Sys2Proof.Machine

/-! ### Transmission and links -/

/-- LAN_EGRESS_START (R155, R157). -/
def execLanEgressStart (p : Port) (s : State) : Host.Outcome State Fault Refusal :=
  .next (if s.powered then s.startLan p else s)

/-- UPLINK_PICK (R159). -/
def execUplinkPick (s : State) : Host.Outcome State Fault Refusal :=
  .next (if s.powered then s.pickUplink else s)

/-- TRANSMIT_END (R155, R159). -/
def execTransmitEnd (p : Port) (s : State) : Host.Outcome State Fault Refusal :=
  .next (if s.powered then (s.endTransmit p).settle else s)

/-- PHY_LINK_DOWN (R163). -/
def execPhyLinkDown (p : Port) (s : State) : Host.Outcome State Fault Refusal :=
  .next (if s.powered then (s.linkDown p).settle else s)

/-- PHY_LINK_UP (R163). -/
def execPhyLinkUp (p : Port) (s : State) : Host.Outcome State Fault Refusal :=
  .next (if s.powered then (s.linkUp p).settle else s)

/-! ### The millisecond step (R176, R178, R158, R183) -/

/-- The set times the running time of day has just reached (R178; log 12). -/
def Clock.reach (c : Clock) : Clock :=
  match c.base with
  | none => c
  | some b =>
    let ms := (b.timeAt c.count).2
    let c := { c with windowDue := c.windowDue || ms == c.windowStart }
    match c.mode with
    | .manual => c
    | .scheduled o k => { c with openDue := c.openDue || ms == o, closeDue := c.closeDue || ms == k }

/-- The count raised by 1 and the set times reached (R176, R178). -/
def Clock.tick (c : Clock) : Clock := Clock.reach { c with count := c.count + 1 }

/-- A millisecond step (R176). -/
def State.tick (s : State) : State := ((s.setClock s.clock.tick).setNet s.net.topUp).writeTime

/-- MILLISECOND_STEP (R176). -/
def execMillisecondStep (s : State) : Host.Outcome State Fault Refusal :=
  .next (if s.powered then s.tick else s)

/-! ### Set times (R180, R182) -/

/-- OPEN_TIME_REACHED (R180; log 12). -/
def execOpenTimeReached (s : State) : Host.Outcome State Fault Refusal :=
  .next (if s.powered && s.clock.openDue then s.actOnOpen.settle else s)

/-- CLOSE_TIME_REACHED (R180; log 12). -/
def execCloseTimeReached (s : State) : Host.Outcome State Fault Refusal :=
  .next (if s.powered && s.clock.closeDue then s.actOnClose.settle else s)

/-- WINDOW_START_REACHED (R182; log 12). -/
def execWindowStartReached (s : State) : Host.Outcome State Fault Refusal :=
  .next (if s.powered && s.clock.windowDue then s.actOnWindow.settle else s)

/-! ### Expiries (R153, R171, R172) -/

/-- STATION_AGING (R153). -/
def execStationAging (a : MacAddr) (s : State) : Host.Outcome State Fault Refusal :=
  .next (if s.powered then s.ageStation a else s)

/-- GUEST_TIME_LIMIT (R171). -/
def execGuestTimeLimit (a : MacAddr) (s : State) : Host.Outcome State Fault Refusal :=
  .next (if s.powered then s.guestExpire a else s)

/-- GUEST_IDLE_REMOVAL (R172). -/
def execGuestIdleRemoval (a : MacAddr) (s : State) : Host.Outcome State Fault Refusal :=
  .next (if s.powered then s.guestIdle a else s)

end Sys2Proof.Machine
end

