-- ==== Sys2Proof/Machine/ExchangeMessages.lean ====
section
/-! DEFINITION. Machine/ExchangeMessages.lean: the messages of the server, the times of the session, and the
application of a batch (chapter 7). -/

namespace Sys2Proof.Machine

/-- A message of the server taken in a session: heard, and acted on when the state acts on it; discarded in IDLE, where
the inbox is empty in every state a run reaches (R125; log 2, log 24). -/
def State.takeServer (s : State) (rest : List ServerMessage) (acts : Bool) (f : State → State) : State :=
  if s.exchange.state = .idle then s.setExchange { s.exchange with inbox := rest }
  else if acts then f (s.hearServer rest) else s.hearServer rest

/-- WELCOME (R128): the front of the exchange inbox, when it is one; it waits while a release is in progress (log 20). -/
def execWelcome (s : State) : Host.Outcome State Fault Refusal :=
  .next (if s.powered then
    match s.exchange.inbox with
    | .welcome a :: rest =>
      if s.exchange.state = .opening ∧ s.journal.release.isSome then s
      else (s.takeServer rest (s.exchange.state == .opening) (fun s => s.onWelcome a)).settle
    | _ => s
  else s)

/-- JACK (R130): the front of the exchange inbox, when it is one; it waits while a release is in progress (log 20). -/
def execJack (s : State) : Host.Outcome State Fault Refusal :=
  .next (if s.powered then
    match s.exchange.inbox with
    | .jack a :: rest =>
      if s.exchange.state = .upload ∧ s.journal.release.isSome then s
      else (s.takeServer rest (s.exchange.state == .upload) (fun s => s.onJack a)).settle
    | _ => s
  else s)

/-- PBLOCK (R134): the front of the exchange inbox, when it is one (log 2). -/
def execPblock (s : State) : Host.Outcome State Fault Refusal :=
  .next (if s.powered then
    match s.exchange.inbox with
    | .pblock batch index entries bytes :: rest =>
      (s.takeServer rest (s.exchange.state == .download) (fun s =>
        if s.exchange.applying then s.pullAnswered else s.pullAnswered.onPblock batch index entries bytes)).settle
    | _ => s
  else s)

/-- COMMIT (R135): the front of the exchange inbox, when it is one (log 2). -/
def execCommit (s : State) : Host.Outcome State Fault Refusal :=
  .next (if s.powered then
    match s.exchange.inbox with
    | .commit batch count crc :: rest =>
      (s.takeServer rest (s.exchange.state == .download) (fun s => s.pullAnswered.onCommit batch count crc)).settle
    | _ => s
  else s)

/-- NO_MORE (R137): the front of the exchange inbox, when it is one (log 2). -/
def execNoMore (s : State) : Host.Outcome State Fault Refusal :=
  .next (if s.powered then
    match s.exchange.inbox with
    | .noMore :: rest =>
      (s.takeServer rest (s.exchange.state == .download) (fun s =>
        if s.exchange.applying then s.pullAnswered else s.pullAnswered.onNoMore)).settle
    | _ => s
  else s)

/-- BYE_ACK (R138): the front of the exchange inbox, when it is one (log 2). -/
def execByeAck (s : State) : Host.Outcome State Fault Refusal :=
  .next (if s.powered then
    match s.exchange.inbox with
    | .byeAck :: rest =>
      (s.takeServer rest (s.exchange.state == .closing) (fun s => s.endSession .complete 0)).settle
    | _ => s
  else s)

/-- REFUSE (R143): the front of the exchange inbox, when it is one (log 2). -/
def execRefuse (s : State) : Host.Outcome State Fault Refusal :=
  .next (if s.powered then
    match s.exchange.inbox with
    | .refuse reason :: rest => (s.takeServer rest true (fun s => s.onRefuse reason)).settle
    | _ => s
  else s)

/-- BATCH_ENTRY_APPLY (R136). -/
def execBatchEntryApply (s : State) : Host.Outcome State Fault Refusal :=
  .next (if s.powered then s.applyNext.settle else s)

/-- HELLO_RESEND (R127). -/
def execHelloResend (s : State) : Host.Outcome State Fault Refusal :=
  .next (if s.powered && s.resendDue .opening then s.resendOr .failedNoAnswer State.sendHello else s)

/-- JBLOCK_RESEND (R131). -/
def execJblockResend (s : State) : Host.Outcome State Fault Refusal :=
  .next (if s.powered && s.resendDue .upload then s.resendOr .failedNoAnswer State.resendWindow else s)

/-- PULL_RESEND (R133). -/
def execPullResend (s : State) : Host.Outcome State Fault Refusal :=
  .next (if s.powered && s.resendDue .download then s.resendOr .failedNoAnswer State.sendPull else s)

/-- BYE_RESEND (R138). -/
def execByeResend (s : State) : Host.Outcome State Fault Refusal :=
  .next (if s.powered && s.resendDue .closing then
    s.resendOr .completeUnconfirmed (fun s => s.sendBye .complete) else s)

/-- SERVER_IDLE_EXPIRY (R133). -/
def execServerIdleExpiry (s : State) : Host.Outcome State Fault Refusal :=
  .next (if s.powered && s.serverIdle then s.endSession .failedNoAnswer 0 else s)

/-- SESSION_DEADLINE (R140). -/
def execSessionDeadline (s : State) : Host.Outcome State Fault Refusal :=
  .next (if s.powered then s.deadlineReached else s)

end Sys2Proof.Machine
end

