-- ==== Sys2Proof/Machine/ExchangeRequests.lean ====
section
/-! DEFINITION. Machine/ExchangeRequests.lean: the requests of the EXCHANGE chain, and the DELIVERY chain's fill
(R126, R142, R75, R197). -/

namespace Sys2Proof.Machine

/-- START_EXCHANGE (R126). DESIGN CHOICE: R126 does not order its failures; they are tested as it names them (log 55). -/
def startExchangeBody (s : State) (b : List Byte) : State × Reply :=
  let duration := leField b 0 4
  if duration < 60 ∨ 14400 < duration then (s, .plain .badForm [])
  else if !s.exchange.paramsSet then (s, .plain .notFound [])
  else if s.exchange.state ≠ .idle then (s, .plain .busy [])
  else (s.startSession (s.now + 1000 * duration), .plain .ok [])

/-- START_EXCHANGE. -/
def execStartExchange (s : State) : Host.Outcome State Fault Refusal :=
  .next (if s.powered then (s.request .exchange Kind.startExchange startExchangeBody).settle else s)

/-- ABORT_EXCHANGE (R142). -/
def abortExchangeBody (s : State) (_ : List Byte) : State × Reply :=
  if s.exchange.state = .idle then (s, .noEffect [])
  else ((s.sendBye .aborted).endSession .aborted 0, .plain .ok [])

/-- ABORT_EXCHANGE. -/
def execAbortExchange (s : State) : Host.Outcome State Fault Refusal :=
  .next (if s.powered then (s.request .exchange Kind.abortExchange abortExchangeBody).settle else s)

/-- READ_JOURNAL_STATE (R75). -/
def readJournalStateBody (s : State) (b : List Byte) : State × Reply :=
  if b.length < 36 then (s, .plain .shortRecord []) else (s, .plain .ok [(0, s.journal.image)])

/-- READ_JOURNAL_STATE. -/
def execReadJournalState (s : State) : Host.Outcome State Fault Refusal :=
  .next (if s.powered then (s.request .exchange Kind.readJournalState readJournalStateBody).settle else s)

/-- DELIVERY_FILL (R197). -/
def execDeliveryFill (s : State) : Host.Outcome State Fault Refusal :=
  .next (if s.powered then s.fillDelivery.settle else s)

end Sys2Proof.Machine
end

