-- ==== Sys2Proof/Machine/LabelMessages.lean ====
section
/-! DEFINITION. Machine/LabelMessages.lean: the three messages of the label link and the two expiries of the Base
Station Link. -/

namespace Sys2Proof.Machine

/-- The front of the label inbox taken (log 2). -/
def State.dropLabelFrame (s : State) (rest : List LabelFrame) : State := s.setLink { s.link with inbox := rest }

/-- BS_HELLO (R106-R110): the front of the label inbox, when it is one (log 2). DESIGN CHOICE: one that waited while its
port lost the LABEL role is acted on all the same, and may make its station ACTIVE there (log 40). -/
def execBsHello (s : State) : Host.Outcome State Fault Refusal :=
  .next (if s.powered then
    match s.link.inbox with
    | [] => s
    | f :: rest => match f.message with
      | .hello boot credit zone => ((s.dropLabelFrame rest).hello f boot credit zone).settle
      | .seen _ => s
      | .result _ _ _ => s
  else s)

/-- LABEL_SEEN (R119): the front of the label inbox, when it is one, whatever its port's role by then (log 2, log 40). -/
def execLabelSeen (s : State) : Host.Outcome State Fault Refusal :=
  .next (if s.powered then
    match s.link.inbox with
    | [] => s
    | f :: rest => match f.message with
      | .seen sightings => ((s.dropLabelFrame rest).labelSeen f sightings).settle
      | .hello _ _ _ => s
      | .result _ _ _ => s
  else s)

/-- UPDATE_RESULT (R117): the front of the label inbox, when it is one, whatever its port's role by then (log 2,
log 40). -/
def execUpdateResult (s : State) : Host.Outcome State Fault Refusal :=
  .next (if s.powered then
    match s.link.inbox with
    | [] => s
    | f :: rest => match f.message with
      | .result tag label outcome => ((s.dropLabelFrame rest).updateResult f tag label outcome).settle
      | .hello _ _ _ => s
      | .seen _ => s
  else s)

/-- BASE_STATION_SILENCE (R109). -/
def execBaseStationSilence (station : Nat) (s : State) : Host.Outcome State Fault Refusal :=
  .next (if s.powered then (s.stationSilence station).settle else s)

/-- UPDATE_DEADLINE (R118). -/
def execUpdateDeadline (station tag : Nat) (s : State) : Host.Outcome State Fault Refusal :=
  .next (if s.powered then (s.updateDeadline station tag).settle else s)

end Sys2Proof.Machine
end

