-- ==== Sys2Proof/Machine/LabelRequests.lean ====
section
/-! DEFINITION. Machine/LabelRequests.lean: the requests of the LABEL chain (5.4). -/

namespace Sys2Proof.Machine

/-- The largest number of directory records (R76). -/
def maxLabels : Nat := 32768

/-- A label record as a bind creates it (R77). -/
def Label.bound (id article template : Nat) : Label :=
  { id := id, article := some article, template := template, home := none, lastHeard := 0, battery := 0, signal := 0
    confirmed := none, inFlight := none, attempts := 0, again := false, blankDue := false, staleReason := .noReason
    phase := .queued }

/-- The record created once every check has passed (R88, R21). -/
def State.bind (s : State) (i : Item) (id template : Nat) : State :=
  (s.bindReport i id).queue (Label.bound id i.article template)

/-- BIND_LABEL (R88). -/
def bindLabelBody (s : State) (b : List Byte) : State × Reply :=
  let id := leField b 0 4
  let template := leField b 4 2
  if id = 0 then (s, .plain .badForm [])
  else match s.label id with
    | some l => (s, .plain (if l.phase = .unbinding then .busy else .labelBound) [])
    | none => match s.item (leField b 8 8) with
      | none => (s, .plain .notFound [])
      | some i =>
        if (s.labels.templates.find template).isNone then (s, .plain .notFound [])
        else if maxLabels ≤ s.labels.directory.length then (s, .plain .tableFull [])
        else match i.bindRefusal id with
          | some c => (s, .plain c [])
          | none => (s.bind i id template, .plain .ok [])

/-- BIND_LABEL. -/
def execBindLabel (s : State) : Host.Outcome State Fault Refusal :=
  .next (if s.powered then (s.request .label Kind.bindLabel bindLabelBody).settle else s)

/-- What becomes of a bound label once its unbind report is taken (R89). -/
def State.unbind (s : State) (l : Label) : State :=
  let s : State := match l.article with
    | none => s
    | some a => s.unbindReport a l.id (l.confirmed.map Confirmed.version) (l.phase == LabelPhase.stale)
  match s.label l.id with
  | none => s
  | some l =>
    let u := { l with article := none, phase := .unbinding, staleReason := .noReason, again := false }
    if l.phase = LabelPhase.sent then s.putLabel { u with blankDue := true }
    else if l.home.isNone then (s.leaveSet l).delLabel l.id
    else
      let u := { u with attempts := 0, blankDue := true }
      (s.putLabel u).joinSet u

/-- UNBIND_LABEL (R89). -/
def unbindLabelBody (s : State) (b : List Byte) : State × Reply :=
  match s.label (leField b 0 4) with
  | none => (s, .plain .notFound [])
  | some l => if l.phase = .unbinding then (s, .noEffect []) else (s.unbind l, .plain .ok [])

/-- UNBIND_LABEL. -/
def execUnbindLabel (s : State) : Host.Outcome State Fault Refusal :=
  .next (if s.powered then (s.request .label Kind.unbindLabel unbindLabelBody).settle else s)

/-- A label's template replaced (R90). -/
def State.changeTemplate (s : State) (l : Label) (template : Nat) : State :=
  let l := { l with template := template }
  match l.phase with
  | .idle => s.queue l
  | .sent => s.putLabel { l with again := true }
  | .queued => s.putLabel l
  | .stale => s.putLabel l
  | .unbinding => s

/-- SET_LABEL_TEMPLATE (R90). DESIGN CHOICE: R90 does not order its failures; a template that is not loaded is found before
an UNBINDING label (log 55). -/
def setLabelTemplateBody (s : State) (b : List Byte) : State × Reply :=
  let template := leField b 4 2
  match s.label (leField b 0 4) with
  | none => (s, .plain .notFound [])
  | some l =>
    if (s.labels.templates.find template).isNone then (s, .plain .notFound [])
    else if l.phase = .unbinding then (s, .plain .busy [])
    else if l.template = template then (s, .noEffect [])
    else (s.changeTemplate l template, .plain .ok [])

/-- SET_LABEL_TEMPLATE. -/
def execSetLabelTemplate (s : State) : Host.Outcome State Fault Refusal :=
  .next (if s.powered then (s.request .label Kind.setLabelTemplate setLabelTemplateBody).settle else s)

/-- A STALE label queued again (R91, R20). -/
def State.retry (s : State) (l : Label) : State :=
  let s := s.queue { l with attempts := 0, staleReason := .noReason }
  match l.article with
  | none => s
  | some a => s.staleReport a l.id false

/-- RETRY_LABEL (R91). -/
def retryLabelBody (s : State) (b : List Byte) : State × Reply :=
  match s.label (leField b 0 4) with
  | none => (s, .plain .notFound [])
  | some l => if l.phase = .stale then (s.retry l, .plain .ok []) else (s, .noEffect [])

/-- RETRY_LABEL. -/
def execRetryLabel (s : State) : Host.Outcome State Fault Refusal :=
  .next (if s.powered then (s.request .label Kind.retryLabel retryLabelBody).settle else s)

/-- READ_LABEL (R92). DESIGN CHOICE: R92 does not order its failures; an absent label is found before a body without room
(log 56). -/
def readLabelBody (s : State) (b : List Byte) : State × Reply :=
  match s.label (leField b 0 4) with
  | none => (s, .plain .notFound [])
  | some l => if b.length < 4 + 52 then (s, .plain .shortRecord []) else (s, .plain .ok [(4, s.labelImage l)])

/-- READ_LABEL. -/
def execReadLabel (s : State) : Host.Outcome State Fault Refusal :=
  .next (if s.powered then (s.request .label Kind.readLabel readLabelBody).settle else s)

end Sys2Proof.Machine
end

