-- ==== Sys2Proof/Machine/NetRequests.lean ====
section
/-! DEFINITION. Machine/NetRequests.lean: the requests of the NET chain (8.6, 9.5). -/

namespace Sys2Proof.Machine

/-! ### SEND_FRAME (R161) -/

/-- Copies queued as a result part (R212). -/
def copiesPart (n : Nat) : List (Nat × List Byte) := [(4, leBytes 2 n ++ zeros 2)]

/-- Where a SEND_FRAME sends: a port, or as the decision finds (R161). -/
inductive SendTarget where
  | port (p : Port)
  | forward
  deriving DecidableEq, Repr

/-- The egress of a body: none when its code names none, or its port is above 4 or unassigned (R161, R204). -/
def State.sendTarget (s : State) (b : List Byte) : Option SendTarget :=
  match leField b 0 1 with
  | 0 => match Port.ofIndex (leField b 1 1) with
    | none => none
    | some p => if (s.port p).role.isSome then some (.port p) else none
  | 1 => some .forward
  | _ => none

/-- A frame sent by its target: the state after it and the copies queued (R161). -/
def State.sendTo (s : State) (f : Frame) : SendTarget → State × Nat
  | .port p => s.sendCopy f p
  | .forward => s.sendForward f

/-- SEND_FRAME (R161): the frame is given with its check sequence (log 1, log 49). DESIGN CHOICE: an unknown egress code is
BAD_FORM before the pool is looked at (log 52), and so is a length or a port out of form (log 55). -/
def sendFrameBody (s : State) (b : List Byte) : State × Reply :=
  let n := leField b 2 2
  match s.sendTarget b with
  | none => (s, .plain .badForm (copiesPart 0))
  | some t =>
    if n < 64 ∨ 1518 < n ∨ b.length < 8 + n then (s, .plain .badForm (copiesPart 0))
    else if s.net.freeBuffers = 0 then (s, .plain .noBuffer (copiesPart 0))
    else
      let r := s.sendTo (Frame.ofBytes (fieldBytes b 8 n)) t
      (r.1, .plain .ok (copiesPart r.2))

/-- SEND_FRAME. -/
def execSendFrame (s : State) : Host.Outcome State Fault Refusal :=
  .next (if s.powered then (s.request .net Kind.sendFrame sendFrameBody).settle else s)

/-! ### Guests (R169, R170) -/

/-- The result parts of a failed guest request: zeros (log 14). -/
def noGuestPart (off n : Nat) : List (Nat × List Byte) := [(off, zeros n)]

/-- A field given, or its default; none when it is given outside its range (R169). -/
def givenOr (given : Bool) (lo hi v default : Nat) : Option Nat :=
  if given then (if lo ≤ v ∧ v ≤ hi then some v else none) else some default

/-- A session admitted afresh (R169). -/
def GuestSession.admission (g : GuestSession) (budget limit now : Nat) : GuestSession :=
  { g with phase := .admitted, budget := budget, timeLimit := limit, used := 0, admittedAt := now, lapse := .noLapse }

/-- A session's admission renewed (R169). -/
def GuestSession.renew (g : GuestSession) (budget limit now : Nat) : GuestSession :=
  { g with budget := budget, timeLimit := limit, admittedAt := now }

/-- A session admitted or renewed, lapsing at once when its budget is below what it used (R169). -/
def State.admission (s : State) (a : MacAddr) (g : GuestSession) (budget limit : Nat) : State :=
  if g.phase = .admitted then
    let g := g.renew budget limit s.now
    if budget < g.used then s.lapse a g .spent else s.putSession a g
  else s.putSession a (g.admission budget limit s.now)

/-- The session after an admission, as the result reports it (R169). -/
def State.admitPart (s : State) (a : MacAddr) : List (Nat × List Byte) :=
  match s.session a with
  | none => noGuestPart 16 12
  | some g => [(16, g.result)]

/-- ADMIT_GUEST (R169, R204): the given byte names the budget by bit 0 and the limit by bit 1, and nothing else
(R212). DESIGN CHOICE: an unknown given code is BAD_FORM before the period and the session are looked at (log 52). -/
def admitGuestBody (s : State) (b : List Byte) : State × Reply :=
  let a := addressAt b 0
  let given := leField b 6 1
  let budget := givenOr (given % 2 == 1) minBudget maxBudget (leField b 8 4) s.guests.defaultBudget
  let limit := givenOr (given / 2 % 2 == 1) 60 86400 (leField b 12 4) s.guests.defaultLimit
  match isGroup a || decide (3 < given), budget, limit with
  | false, some budget, some limit =>
    if s.clock.period = .closed then (s, .plain .refusedPeriod (noGuestPart 16 12))
    else match s.session a with
      | none => (s, .plain .notFound (noGuestPart 16 12))
      | some g =>
        let s := s.admission a g budget limit
        (s, .plain .ok (s.admitPart a))
  | _, _, _ => (s, .plain .badForm (noGuestPart 16 12))

/-- ADMIT_GUEST. -/
def execAdmitGuest (s : State) : Host.Outcome State Fault Refusal :=
  .next (if s.powered then (s.request .net Kind.admitGuest admitGuestBody).settle else s)

/-- Lapse reason and used as a result part (R170, R212). -/
def revokePart (g : GuestSession) : List (Nat × List Byte) := [(8, leBytes 1 g.lapse.code ++ zeros 3 ++ leBytes 4 g.used)]

/-- REVOKE_GUEST (R170). DESIGN CHOICE: R170 does not order its failures; a group address is BAD_FORM (log 55). -/
def revokeGuestBody (s : State) (b : List Byte) : State × Reply :=
  let a := addressAt b 0
  if isGroup a then (s, .plain .badForm (noGuestPart 8 8))
  else match s.session a with
    | none => (s, .plain .notFound (noGuestPart 8 8))
    | some g =>
      if g.phase = .admitted then
        let g := g.lapsed .revoked
        (s.putSession a g, .plain .ok (revokePart g))
      else (s, .noEffect (revokePart g))

/-- REVOKE_GUEST. -/
def execRevokeGuest (s : State) : Host.Outcome State Fault Refusal :=
  .next (if s.powered then (s.request .net Kind.revokeGuest revokeGuestBody).settle else s)

/-! ### Counts and stations (R162, R153) -/

/-- Every counter of every port cleared (R162). -/
def State.clearCounts (s : State) : State :=
  Port.all.foldl (fun s p => s.setPort p { s.port p with counters := .zero }) s

/-- READ_COUNTS (R162, R204). DESIGN CHOICE: an unknown code in the clear flag is BAD_FORM before the body is found too
short for the counts (log 52). -/
def readCountsBody (s : State) (b : List Byte) : State × Reply :=
  match flagCode (leField b 0 1) with
  | none => (s, .plain .badForm [])
  | some clear =>
    if b.length < 4 + 140 then (s, .plain .shortRecord [])
    else (if clear then s.clearCounts else s, .plain .ok [(4, s.countsImage)])

/-- READ_COUNTS. -/
def execReadCounts (s : State) : Host.Outcome State Fault Refusal :=
  .next (if s.powered then (s.request .net Kind.readCounts readCountsBody).settle else s)

/-- FLUSH_STATIONS (R153). -/
def flushStationsBody (s : State) (_ : List Byte) : State × Reply :=
  (s.setStations [], .plain .ok [(0, leBytes 4 s.net.stations.length)])

/-- FLUSH_STATIONS. -/
def execFlushStations (s : State) : Host.Outcome State Fault Refusal :=
  .next (if s.powered then (s.request .net Kind.flushStations flushStationsBody).settle else s)

end Sys2Proof.Machine
end

