-- ==== Sys2Proof/Machine/Appends.lean ====
section
/-! DEFINITION. Machine/Appends.lean: the start and the end of an append (R64, R65), the end of a release (R68), and
what is cut short when a reset or a power loss falls (R58, R66). -/

namespace Sys2Proof.Machine

/-! ### Appends (R64, R65) -/

/-- The append that follows the one that has ended: the front of the append queue, about to start (R64). -/
def Journal.nextAppend (j : Journal) : Journal :=
  match j.queue with
  | [] => { j with append := none }
  | sale :: rest => { j with append := some { sale := sale, started := false, reserved := 0 }, queue := rest }

/-- The space check at the start of an append (R65). -/
def Journal.holds (j : Journal) (sale : Sale) : Bool :=
  decide (j.freeUnits < unitsFor sale.lines.length) || decide (j.next = 4294967295)

/-- An append waiting to start starts: HOLD, or its units reserved and its writes begun (R65). -/
def State.startAppend (s : State) : State :=
  match s.journal.append with
  | none => s
  | some a =>
    if a.started then s
    else if s.journal.holds a.sale then
      (s.setJournal s.journal.nextAppend).saleEnded a.sale .hold 0
    else
      s.setJournal { s.journal with
        append := some { a with started := true, reserved := unitsFor a.sale.lines.length } }

/-- The writes of the append's first two steps: its entry, first unit last, then its till's mark (R65). -/
def Journal.appendWrites (j : Journal) (sale : Sale) : List BackedWrite :=
  entryWrites j.tail j.next sale ++ [markWrite sale.till sale.basket j.next]

/-- The backed SRAM once every step of an append is whole: entry, mark and header (R65, steps 1 to 3). -/
def Journal.appended (j : Journal) (m : Memory) (sale : Sale) : Memory :=
  let m := applyWrites m (j.appendWrites sale)
  (headerWrite m j.head j.acked (j.next + 1) j.fresh).apply m

/-- Blocks cut at the end of an accepted append while the session is in UPLOAD (R129). -/
def State.cutAfterAppend (s : State) : State :=
  if s.exchange.state = .upload then State.cutBlocks 8 s else s

/-- A started append completed: steps 3 and 4 of R65. -/
def State.endAppend (s : State) : State :=
  match s.journal.append with
  | none => s
  | some a =>
    if !a.started then s
    else
      let j := s.journal
      let sequence := j.next
      let s := s.setBacked (j.appended s.backed a.sale)
      let s := s.setJournal { j with used := j.used + a.reserved, next := sequence + 1, append := none }
      let s := s.saleEnded a.sale .accepted sequence
      let s := s.writeJournalCounts.testAlert.cutAfterAppend
      s.setJournal s.journal.nextAppend

/-! ### The end of a release (R68, R128, R130) -/

/-- The session's step that awaited a release (R128, R130). -/
def State.afterRelease (s : State) (upTo released : Nat) : State :=
  match s.exchange.awaiting with
  | none => s
  | some .welcome => s.enterUpload
  | some .jack => s.afterJack upTo released

/-- The release in progress completed (R68), and the session that awaited it goes on. -/
def State.endRelease (s : State) : State :=
  match s.journal.release with
  | none => s
  | some r =>
    let before := s.journal.acked
    (s.completeRelease r).afterRelease r.upTo (r.upTo - before)

/-! ### Interruption (R58, R66; log 9) -/

/-- The backed writes of an append that has started, its header write last. -/
def Journal.runningWrites (j : Journal) (m : Memory) : List BackedWrite :=
  match j.append with
  | none => []
  | some a =>
    if a.started then
      let ws := j.appendWrites a.sale
      ws ++ [headerWrite m j.head j.acked (j.next + 1) j.fresh]
    else []

/-- The backed SRAM as a reset or a power loss leaves it. -/
def State.backedAfter (s : State) (powerLoss : Bool) : Memory :=
  s.interrupted (s.journal.runningWrites s.backed) powerLoss

end Sys2Proof.Machine
end

