-- ==== Sys2Proof/Machine/Power.lean ====
section
/-! DEFINITION. Machine/Power.lean: power, the two resets, the start-up scan, the register window, and the host's
writes to the watched words (11.1, 11.2, R58, R70). -/

namespace Sys2Proof.Machine

/-! ### The register window (R184, R185, R205) -/

/-- The value of IDENT: vendor 0x5A0D, part 0x340, revision 1 (R205). -/
def identValue : Word := 0x5A0D3401

/-- The value of CONTROL: RUN while RUNNING; RESET reads 0 (R186, R205). -/
def State.controlValue (s : State) : Word := if s.requests.runState = .running then 1 else 0

/-- The code CAUSE shows (R201, R205). -/
def State.causeValue (s : State) : Word := BitVec.ofNat 32 ((s.requests.highest.map Cause.code).getD 0)

/-- The value a read of an offset of the window returns (R184, R185); a read of CAUSE also clears, by CAUSE_READ. -/
def State.registerValue (s : State) (offset : Nat) : Word :=
  if offset = 0x0 then identValue
  else if offset = 0x4 then s.controlValue
  else if offset = 0x8 then s.causeValue
  else if offset = 0xC then s.requests.enables.setWidth 32
  else 0

/-- A read of CAUSE (R201): the code returned, that one cause removed. -/
def State.readCause (s : State) : State :=
  let v := s.registerValue 0x8
  let s := s.setHost { s.host with readData := v }
  match s.requests.highest with
  | none => s
  | some c => s.setCauses (s.requests.causes &&& ~~~ c.bit) s.requests.enables

/-- A write to CAUSE_ENABLE (R185, R202). -/
def State.writeEnables (s : State) (v : Word) : State := s.setCauses s.requests.causes (v.setWidth 5)

/-! ### Resets (R187, R186) -/

/-- The state after power-on (R187, R58): all but what the backup cell holds, the host's own record and the waiting
commands at its after-reset value. -/
def State.powerUp (s : State) (backed : Memory) : State :=
  { State.reset with backed := backed, host := s.host, freeIndex := s.freeIndex + 1, pending := s.pending }

/-- POWER_ON (R187); on a part that has power it stands for a power loss and the return of power (log 6). -/
def State.applyPower (s : State) : State := s.powerUp (if s.powered then s.backedAfter true else s.backed)

/-- The common store after a controller reset (R187). -/
def resetStore (m : Memory) : Memory := m.clear 0 0x584

/-- The state after a controller reset (R187). -/
def State.controllerReset (s : State) : State :=
  { State.reset with
    store := resetStore s.store, backed := s.backedAfter false, host := s.host, freeIndex := s.freeIndex + 1
    pending := s.pending }

/-- The state after a power loss (R58): the part is stopped at once, and no field but the backed SRAM is read before
power returns. -/
def State.losePower (s : State) : State :=
  ((s.setBacked (s.backedAfter true)).setPowered false).setFreeIndex (s.freeIndex + 1)

/-! ### Running (R186) -/

/-- The run state set, in the Request Unit and in the status block (R186). -/
def State.setRunning (s : State) : State :=
  (s.setRequests { s.requests with runState := .running, rememberedRun := false }).status offRunState 1

/-- The change to RUNNING (R186). -/
def State.goRunning (s : State) : State := s.setRunning.startWalkers

/-- A CONTROL write with RESET clear and RUN = 1 (R186). -/
def State.writeRun (s : State) : State :=
  match s.requests.startState, s.requests.runState with
  | .checking, _ => s.setRequests { s.requests with rememberedRun := true }
  | .ready, .stopped => s.goRunning
  | .ready, .running => s

/-- A CONTROL write by its bits (R186, R205). -/
def State.writeControl (s : State) (v : Word) : State :=
  if v.getLsbD 1 then s.controllerReset else if v.getLsbD 0 then s.writeRun else s

/-- The end of the start-up scan (R70, R186). -/
def State.setReady (s : State) : State :=
  let s := (s.setRequests { s.requests with startState := .ready }).status offStartState 1
  if s.requests.rememberedRun then s.goRunning else s

/-! ### The commands -/

/-- POWER_ON (R187). -/
def execPowerOn (s : State) : Host.Outcome State Fault Refusal := .next s.applyPower

/-- RESET (R186, R187). -/
def execReset (s : State) : Host.Outcome State Fault Refusal := .next (if s.powered then s.controllerReset else s)

/-- RUN (R186). -/
def execRun (s : State) : Host.Outcome State Fault Refusal := .next (if s.powered then s.writeRun else s)

/-- CAUSE_READ (R201). -/
def execCauseRead (s : State) : Host.Outcome State Fault Refusal := .next (if s.powered then s.readCause else s)

/-- CAUSE_ENABLE_WRITE (R185, R202). -/
def execCauseEnableWrite (v : Word) (s : State) : Host.Outcome State Fault Refusal :=
  .next (if s.powered then s.writeEnables v else s)

/-- REGISTER_WRITE_IGNORED (R185): a write to IDENT, to CAUSE or outside the four registers changes nothing. The
offsets of CONTROL and CAUSE_ENABLE are no operands of this row; there the write acts by its offset (log 32). -/
def execRegisterWriteIgnored (offset : Nat) (v : Word) (s : State) : Host.Outcome State Fault Refusal :=
  .next (if s.powered then
    if offset = 0x4 then s.writeControl v else if offset = 0xC then s.writeEnables v else s
  else s)

/-- START_UP_SCAN (R70-R75): once after each reset. -/
def execStartUpScan (s : State) : Host.Outcome State Fault Refusal :=
  .next (if s.powered ∧ s.requests.startState = .checking then s.runScan.setReady else s)

/-- HEAD_WRITE (R189, R192). -/
def execHeadWrite (c : Chain) (v : Word) (s : State) : Host.Outcome State Fault Refusal :=
  .next (if s.powered then (s.hostWrite (headWord c) v 0xF).settle else s)

/-- STOP (R189, R193). -/
def execStop (c : Chain) (s : State) : Host.Outcome State Fault Refusal :=
  .next (if s.powered then (s.hostWrite (commandWord c) 1 0xF).settle else s)

/-- COMMAND_OTHER_VALUE (R189, R193). -/
def execCommandOtherValue (c : Chain) (v : Word) (s : State) : Host.Outcome State Fault Refusal :=
  .next (if s.powered then (s.hostWrite (commandWord c) v 0xF).settle else s)

/-- LINK_WORD_WRITE (R189, R196): a host write to a word of the store (log 4); the two low offset bits name no word
(log 32). -/
def execLinkWordWrite (offset : BitVec 18) (v : Word) (enables : BitVec 4) (s : State) :
    Host.Outcome State Fault Refusal :=
  .next (if s.powered then (s.hostWrite (offset.toNat / 4 * 4) v enables).settle else s)

/-- POWER_LOSS (R58). -/
def execPowerLoss (s : State) : Host.Outcome State Fault Refusal := .next (if s.powered then s.losePower else s)

end Sys2Proof.Machine
end

