-- ==== Sys2Proof/Machine/PriceRequests.lean ====
section
/-! DEFINITION. Machine/PriceRequests.lean: the requests of the PRICE chain (chapter 1). -/

namespace Sys2Proof.Machine

/-! ### LOAD_ITEMS (R24) -/

/-- The entries of a LOAD_ITEMS taken one by one: the state after them and their results (R24). DESIGN CHOICE: all of
them are taken in the request's one step, so that no quote is answered between two of them (log 38). -/
def loadAll (s : State) : List ItemEntry → State × List Code
  | [] => (s, [])
  | e :: es =>
    let r := s.loadEntry e 0
    let rest := loadAll r.1 es
    (rest.1, r.2 :: rest.2)

/-- The entry results, each in the last byte of its entry (R212). -/
def entryResultParts (codes : List Code) : List (Nat × List Byte) :=
  codes.zipIdx.map (fun c => (4 + itemEntryLength * c.2 + 51, leBytes 1 c.1.number))

/-- The reply of a LOAD_ITEMS: OK or the first entry not loaded; DONE when one was loaded (R24). -/
def loadReply (codes : List Code) : Reply :=
  { code := (codes.find? (fun c => c != .ok)).getD .ok, done := codes.any (fun c => c == .ok), flags := .clear
    parts := entryResultParts codes }

/-- LOAD_ITEMS (R24). -/
def loadItemsBody (s : State) (b : List Byte) : State × Reply :=
  let n := leField b 0 1
  if n = 0 ∨ 32 < n ∨ b.length < 4 + itemEntryLength * n then (s, .plain .badForm [])
  else
    let r := loadAll s (itemEntriesOf b n)
    (r.1, loadReply r.2)

/-- LOAD_ITEMS. -/
def execLoadItems (s : State) : Host.Outcome State Fault Refusal :=
  .next (if s.powered then (s.request .price Kind.loadItems loadItemsBody).settle else s)

/-! ### Changes (R8-R16) -/

/-- The reply of a change: code, disposition and version number at an offset (R8-R13; log 14). -/
def changeReply (off : Nat) : ChangeResult → Reply
  | .notFound => .plain .notFound [(off, dispositionBytes .none_ 0)]
  | .badForm => .plain .badForm [(off, dispositionBytes .none_ 0)]
  | .badPromo => .plain .badPromo [(off, dispositionBytes .none_ 0)]
  | .unchanged => .unchanged [(off, dispositionBytes .none_ 0)]
  | .queried => .plain .queried [(off, dispositionBytes .waiting 0)]
  | .placed d v => .plain .ok [(off, dispositionBytes d v)]

/-- CHANGE_PRICE (R8-R13, R204). DESIGN CHOICE: an unknown code in the confirmed field is BAD_FORM before the article is
looked up (log 37). -/
def changePriceBody (s : State) (b : List Byte) : State × Reply :=
  match flagCode (leField b 17 1) with
  | none => (s, changeReply 20 .badForm)
  | some confirmed =>
    let r := s.change (leField b 0 8) (leField b 8 4) (promoAt b 12) confirmed 0
    (r.1, changeReply 20 r.2)

/-- CHANGE_PRICE. -/
def execChangePrice (s : State) : Host.Outcome State Fault Refusal :=
  .next (if s.powered then (s.request .price Kind.changePrice changePriceBody).settle else s)

/-- The queried waiting change of an article, with its item (R15, R16). -/
def State.queriedChange (s : State) (article : Nat) : Option (Item × WaitingChange) :=
  match s.item article with
  | none => none
  | some i => match i.waiting with
    | none => none
    | some w => if w.queried then some (i, w) else none

/-- CONFIRM_CHANGE (R15). -/
def confirmChangeBody (s : State) (b : List Byte) : State × Reply :=
  match s.queriedChange (leField b 0 8) with
  | none => (s, changeReply 8 .notFound)
  | some (i, w) =>
    if i.state = .settled then
      let r := s.placeVersion i w.base w.promo
      (r.1, changeReply 8 (.placed r.2.1 r.2.2))
    else (s.putItem { i with waiting := some { w with queried := false } }, changeReply 8 (.placed .waiting 0))

/-- CONFIRM_CHANGE. -/
def execConfirmChange (s : State) : Host.Outcome State Fault Refusal :=
  .next (if s.powered then (s.request .price Kind.confirmChange confirmChangeBody).settle else s)

/-- REJECT_CHANGE (R16). -/
def rejectChangeBody (s : State) (b : List Byte) : State × Reply :=
  match s.queriedChange (leField b 0 8) with
  | none => (s, .plain .notFound [])
  | some (i, _) => (s.putItem { i with waiting := none }, .plain .ok [])

/-- REJECT_CHANGE. -/
def execRejectChange (s : State) : Host.Outcome State Fault Refusal :=
  .next (if s.powered then (s.request .price Kind.rejectChange rejectChangeBody).settle else s)

/-! ### Text, removal, reading (R23, R25, R26) -/

/-- The text revision as a result part (R212). -/
def revisionPart (v : Nat) : List (Nat × List Byte) := [(34, leBytes 2 v)]

/-- SET_TEXT (R23). DESIGN CHOICE: R23 does not order its failures; an absent article is found before a text out of form
(log 55). -/
def setTextBody (s : State) (b : List Byte) : State × Reply :=
  let n := leField b 8 1
  let text := (fieldBytes b 9 24).take n
  match s.item (leField b 0 8) with
  | none => (s, .plain .notFound (revisionPart 0))
  | some i =>
    if n = 0 ∨ 24 < n then (s, .plain .badForm (revisionPart 0))
    else if text = i.text then (s, .unchanged (revisionPart i.textRevision))
    else
      let i := { i with text := text, textRevision := (i.textRevision + 1) % 65536 }
      ((s.putItem i).queueRequest .text i.article i.labels, .plain .ok (revisionPart i.textRevision))

/-- SET_TEXT. -/
def execSetText (s : State) : Host.Outcome State Fault Refusal :=
  .next (if s.powered then (s.request .price Kind.setText setTextBody).settle else s)

/-- REMOVE_ITEM (R25). -/
def removeItemBody (s : State) (b : List Byte) : State × Reply :=
  let a := leField b 0 8
  match s.item a with
  | none => (s, .plain .notFound [])
  | some i =>
    if i.labels = [] then (s.setPrice { s.price with items := s.price.items.del a }, .plain .ok [])
    else (s, .plain .busy [])

/-- REMOVE_ITEM. -/
def execRemoveItem (s : State) : Host.Outcome State Fault Refusal :=
  .next (if s.powered then (s.request .price Kind.removeItem removeItemBody).settle else s)

/-- READ_ITEM (R26). DESIGN CHOICE: R26 does not order its failures; an absent article is found before a body without room
(log 56). -/
def readItemBody (s : State) (b : List Byte) : State × Reply :=
  match s.item (leField b 0 8) with
  | none => (s, .plain .notFound [])
  | some i => if b.length < 8 + 124 then (s, .plain .shortRecord []) else (s, .plain .ok [(8, i.image)])

/-- READ_ITEM. -/
def execReadItem (s : State) : Host.Outcome State Fault Refusal :=
  .next (if s.powered then (s.request .price Kind.readItem readItemBody).settle else s)

end Sys2Proof.Machine
end

