-- ==== Sys2Proof/Machine/TillMessages.lean ====
section
/-! DEFINITION. Machine/TillMessages.lean: FRAME_RECEIVE, the four messages of the till link, and the append and
release steps of the Journal Unit. -/

namespace Sys2Proof.Machine

/-- FRAME_RECEIVE (R145, R148-R152). -/
def execFrameReceive (p : Port) (checkOk : Bool) (bytes : List Byte) (s : State) : Host.Outcome State Fault Refusal :=
  .next (if s.powered then (s.receive p checkOk bytes).settle else s)

/-- SIGN_ON (R46): the front of the till inbox, when it is one (log 2). -/
def execSignOn (s : State) : Host.Outcome State Fault Refusal :=
  .next (if s.powered then
    match s.tills.inbox with
    | [] => s
    | f :: rest => match f.message with
      | .signOn => (s.dropTillFrame rest).takeSignOn f
      | .quoteAsk _ _ _ => s
      | .salePut _ _ _ _ _ _ => s
      | .signOff => s
  else s)

/-- QUOTE_ASK (R50, R51): the front of the till inbox, when it is one (log 2). -/
def execQuoteAsk (s : State) : Host.Outcome State Fault Refusal :=
  .next (if s.powered then
    match s.tills.inbox with
    | [] => s
    | f :: rest => match f.message with
      | .quoteAsk ref article quantity => (s.dropTillFrame rest).takeQuoteAsk f ref article quantity
      | .signOn => s
      | .salePut _ _ _ _ _ _ => s
      | .signOff => s
  else s)

/-- SALE_PUT (R52-R55): the front of the till inbox, when it is one (log 2). -/
def execSalePut (s : State) : Host.Outcome State Fault Refusal :=
  .next (if s.powered then
    match s.tills.inbox with
    | [] => s
    | f :: rest => match f.message with
      | .salePut basket day ms total n lines => (s.dropTillFrame rest).takeSale f basket day ms total n lines
      | .signOn => s
      | .quoteAsk _ _ _ => s
      | .signOff => s
  else s)

/-- SIGN_OFF (R47): the front of the till inbox, when it is one (log 2). -/
def execSignOff (s : State) : Host.Outcome State Fault Refusal :=
  .next (if s.powered then
    match s.tills.inbox with
    | [] => s
    | f :: rest => match f.message with
      | .signOff => (s.dropTillFrame rest).takeSignOff f
      | .signOn => s
      | .quoteAsk _ _ _ => s
      | .salePut _ _ _ _ _ _ => s
  else s)

/-- APPEND_START (R65). -/
def execAppendStart (s : State) : Host.Outcome State Fault Refusal :=
  .next (if s.powered then s.startAppend.settle else s)

/-- APPEND_END (R65, R56). -/
def execAppendEnd (s : State) : Host.Outcome State Fault Refusal :=
  .next (if s.powered then s.endAppend.settle else s)

/-- RELEASE_COMPLETE (R68, R128, R130). -/
def execReleaseComplete (s : State) : Host.Outcome State Fault Refusal :=
  .next (if s.powered then s.endRelease.settle else s)

/-- TILL_SILENCE_EXPIRY (R48). -/
def execTillSilenceExpiry (till : Nat) (s : State) : Host.Outcome State Fault Refusal :=
  .next (if s.powered then s.tillSilence till else s)

end Sys2Proof.Machine
end

