-- ==== Sys2Proof/Machine/Dispatch.lean ====
section
/-! DEFINITION. Machine/Dispatch.lean: one arm per command. -/

namespace Sys2Proof.Machine

/-- What a command does to everything but the queue of waiting commands. -/
def exec (i : Instr) (s : State) : Host.Outcome State Fault Refusal :=
  match i with
  | .powerOn => Sys2Proof.Machine.execPowerOn s
  | .reset => Sys2Proof.Machine.execReset s
  | .run => Sys2Proof.Machine.execRun s
  | .causeRead => Sys2Proof.Machine.execCauseRead s
  | .causeEnableWrite value => Sys2Proof.Machine.execCauseEnableWrite value s
  | .registerWriteIgnored offset value => Sys2Proof.Machine.execRegisterWriteIgnored offset value s
  | .startUpScan => Sys2Proof.Machine.execStartUpScan s
  | .headWrite chain value => Sys2Proof.Machine.execHeadWrite chain value s
  | .stop chain => Sys2Proof.Machine.execStop chain s
  | .commandOtherValue chain value => Sys2Proof.Machine.execCommandOtherValue chain value s
  | .linkWordWrite offset value enables => Sys2Proof.Machine.execLinkWordWrite offset value enables s
  | .setPortRoles => Sys2Proof.Machine.execSetPortRoles s
  | .setSlotTables => Sys2Proof.Machine.execSetSlotTables s
  | .setPacer => Sys2Proof.Machine.execSetPacer s
  | .setGuestPolicy => Sys2Proof.Machine.execSetGuestPolicy s
  | .setLabelParams => Sys2Proof.Machine.execSetLabelParams s
  | .loadTemplate chain => Sys2Proof.Machine.execLoadTemplate chain s
  | .setExchangeParams => Sys2Proof.Machine.execSetExchangeParams s
  | .setClock => Sys2Proof.Machine.execSetClock s
  | .setPeriodManual => Sys2Proof.Machine.execSetPeriodManual s
  | .setPeriodScheduled => Sys2Proof.Machine.execSetPeriodScheduled s
  | .setPlausibility => Sys2Proof.Machine.execSetPlausibility s
  | .loadItems => Sys2Proof.Machine.execLoadItems s
  | .changePrice => Sys2Proof.Machine.execChangePrice s
  | .confirmChange => Sys2Proof.Machine.execConfirmChange s
  | .rejectChange => Sys2Proof.Machine.execRejectChange s
  | .setText => Sys2Proof.Machine.execSetText s
  | .removeItem => Sys2Proof.Machine.execRemoveItem s
  | .readItem => Sys2Proof.Machine.execReadItem s
  | .bindLabel => Sys2Proof.Machine.execBindLabel s
  | .unbindLabel => Sys2Proof.Machine.execUnbindLabel s
  | .setLabelTemplate => Sys2Proof.Machine.execSetLabelTemplate s
  | .retryLabel => Sys2Proof.Machine.execRetryLabel s
  | .readLabel => Sys2Proof.Machine.execReadLabel s
  | .sendFrame => Sys2Proof.Machine.execSendFrame s
  | .admitGuest => Sys2Proof.Machine.execAdmitGuest s
  | .revokeGuest => Sys2Proof.Machine.execRevokeGuest s
  | .readCounts => Sys2Proof.Machine.execReadCounts s
  | .flushStations => Sys2Proof.Machine.execFlushStations s
  | .startExchange => Sys2Proof.Machine.execStartExchange s
  | .abortExchange => Sys2Proof.Machine.execAbortExchange s
  | .readJournalState => Sys2Proof.Machine.execReadJournalState s
  | .deliveryFill => Sys2Proof.Machine.execDeliveryFill s
  | .frameReceive port checkOk bytes => Sys2Proof.Machine.execFrameReceive port checkOk bytes s
  | .signOn => Sys2Proof.Machine.execSignOn s
  | .quoteAsk => Sys2Proof.Machine.execQuoteAsk s
  | .salePut => Sys2Proof.Machine.execSalePut s
  | .signOff => Sys2Proof.Machine.execSignOff s
  | .bsHello => Sys2Proof.Machine.execBsHello s
  | .labelSeen => Sys2Proof.Machine.execLabelSeen s
  | .updateResult => Sys2Proof.Machine.execUpdateResult s
  | .welcome => Sys2Proof.Machine.execWelcome s
  | .jack => Sys2Proof.Machine.execJack s
  | .pblock => Sys2Proof.Machine.execPblock s
  | .commit => Sys2Proof.Machine.execCommit s
  | .noMore => Sys2Proof.Machine.execNoMore s
  | .byeAck => Sys2Proof.Machine.execByeAck s
  | .refuse => Sys2Proof.Machine.execRefuse s
  | .batchEntryApply => Sys2Proof.Machine.execBatchEntryApply s
  | .appendStart => Sys2Proof.Machine.execAppendStart s
  | .appendEnd => Sys2Proof.Machine.execAppendEnd s
  | .releaseComplete => Sys2Proof.Machine.execReleaseComplete s
  | .lanEgressStart port => Sys2Proof.Machine.execLanEgressStart port s
  | .uplinkPick => Sys2Proof.Machine.execUplinkPick s
  | .transmitEnd port => Sys2Proof.Machine.execTransmitEnd port s
  | .phyLinkDown port => Sys2Proof.Machine.execPhyLinkDown port s
  | .phyLinkUp port => Sys2Proof.Machine.execPhyLinkUp port s
  | .millisecondStep => Sys2Proof.Machine.execMillisecondStep s
  | .tillSilenceExpiry till => Sys2Proof.Machine.execTillSilenceExpiry till s
  | .baseStationSilence station => Sys2Proof.Machine.execBaseStationSilence station s
  | .updateDeadline station tag => Sys2Proof.Machine.execUpdateDeadline station tag s
  | .stationAging address => Sys2Proof.Machine.execStationAging address s
  | .helloResend => Sys2Proof.Machine.execHelloResend s
  | .jblockResend => Sys2Proof.Machine.execJblockResend s
  | .pullResend => Sys2Proof.Machine.execPullResend s
  | .byeResend => Sys2Proof.Machine.execByeResend s
  | .serverIdleExpiry => Sys2Proof.Machine.execServerIdleExpiry s
  | .sessionDeadline => Sys2Proof.Machine.execSessionDeadline s
  | .guestTimeLimit address => Sys2Proof.Machine.execGuestTimeLimit address s
  | .guestIdleRemoval address => Sys2Proof.Machine.execGuestIdleRemoval address s
  | .openTimeReached => Sys2Proof.Machine.execOpenTimeReached s
  | .closeTimeReached => Sys2Proof.Machine.execCloseTimeReached s
  | .windowStartReached => Sys2Proof.Machine.execWindowStartReached s
  | .powerLoss => Sys2Proof.Machine.execPowerLoss s

end Sys2Proof.Machine
end

