-- ==== Sys2Proof/Safety.lean ====
section
/-! DEFINITION. Safety.lean: the words the statements use: what a finished record and a posted notice look like, what
is left alone, and the invariants a run keeps. -/

namespace Sys2Proof.Machine

/-! ### What is left alone -/

/-- `t` with the common store, the Request Unit and the host's own record of `s`: equal to `s` exactly when nothing else
has changed. -/
def State.withLogOf (t s : State) : State := ((t.setStore s.store).setRequests s.requests).setHost s.host

/-- No arbiter run is owed: true between commands (log 10). -/
abbrev State.Settled (s : State) : Prop := s.link.due = []

/-- Both memories are in their canonical form. -/
abbrev State.MemoryWf (s : State) : Prop := s.store.wf ∧ s.backed.wf

/-- Power, canonical memories and no arbiter run owed. -/
abbrev State.Sound (s : State) : Prop := s.powered = true ∧ s.MemoryWf ∧ s.Settled

/-- A cause is pending. -/
abbrev State.Pending (s : State) (c : Cause) : Prop := s.requests.causes &&& c.bit ≠ 0

/-- The bytes a post may write: W and the dropped count in the status block, and the notice log (R199). -/
def logBytes (a : Nat) : Bool := (decide (0x28 ≤ a) && decide (a < 0x30)) || (decide (0x1000 ≤ a) && decide (a < 0x3000))

/-- The read count a post accepts (R200). -/
def State.offeredRead (s : State) : Word :=
  acceptedRead s.requests.written s.requests.accepted (s.storeWord offReadCount)

/-- The log has room at the next post (R199). -/
abbrev State.LogRoom (s : State) : Prop := s.requests.written - s.offeredRead < 256

/-- A notice has been written between two states: the entry at index W mod 256, W one higher in the Request Unit and in
the status block, NOTICE pending (R199). -/
def NoticeWritten (s t : State) (kind : NoticeKind) (subject detail : Nat) : Prop :=
  t.requests.written = s.requests.written + 1 ∧ t.requests.accepted = s.offeredRead
    ∧ t.requests.dropped = s.requests.dropped
    ∧ t.store.readBytes (offLog + 32 * (s.requests.written.toNat % 256)) 32
        = noticeBytes kind subject detail s.clock.stamp
    ∧ t.storeWord offWritten = s.requests.written + 1 ∧ t.Pending .notice

/-- A notice has been dropped between two states (R199). -/
def NoticeDropped (s t : State) : Prop :=
  t.requests.written = s.requests.written ∧ t.requests.accepted = s.offeredRead
    ∧ t.requests.dropped = s.requests.dropped + 1 ∧ t.storeWord offDropped = s.requests.dropped + 1

/-- One post has been made between two states: written, or dropped when the log is full (R199). -/
def Posted (s t : State) (kind : NoticeKind) (subject detail : Nat) : Prop :=
  if s.LogRoom then NoticeWritten s t kind subject detail else NoticeDropped s t

/-- Between two states nothing has been posted (R199). -/
def NothingPosted (s t : State) : Prop :=
  t.requests.written = s.requests.written ∧ t.requests.accepted = s.requests.accepted
    ∧ t.requests.dropped = s.requests.dropped ∧ t.storeWord offWritten = s.storeWord offWritten
    ∧ t.storeWord offDropped = s.storeWord offDropped ∧ (s.Pending .notice → t.Pending .notice)

/-- The posts of a list of notices have been made between two states, one after the other, each finding the log as the one
before it left it; what was written stays (R199). -/
def PostedAll : State → State → List (NoticeKind × Nat × Nat) → Prop
  | s, t, [] => NothingPosted s t
  | s, t, n :: ns => ∃ u, Posted s u n.1 n.2.1 n.2.2 ∧ u.clock = s.clock
      ∧ (∀ a, logBytes a = false → u.store.read a = s.store.read a)
      ∧ (s.LogRoom → ns.length < 255 → let slot := offLog + 32 * (s.requests.written.toNat % 256)
          t.store.readBytes slot 32 = u.store.readBytes slot 32)
      ∧ PostedAll u t ns

/-- The test of the alert level has been made between two states: nothing is posted while the side is kept, and
JOURNAL_LEVEL, UP or DOWN with the units used, when it changes (R67). -/
def LevelTold (s t : State) : Prop :=
  if t.journal.side = s.journal.side then NothingPosted s t
  else Posted s t .journalLevel 0 (twoParts (if t.journal.side = .above then 1 else 2) t.journal.used)

/-- Of the Request Unit, only the three counts of the log and the cause set have changed. -/
def OnlyLog (s t : State) : Prop :=
  { t.requests with written := s.requests.written, accepted := s.requests.accepted, dropped := s.requests.dropped
                    causes := s.requests.causes } = s.requests

/-! ### A record carried out -/

/-- A chain has a record of a kind in hand, long enough, lying whole in record space; the state is sound (R194, R195). -/
abbrev InHand (s : State) (c : Chain) (k : RequestKind) (r : RecordInHand) : Prop :=
  s.Sound ∧ (s.chain c).phase = .running ∧ (s.chain c).inHand = some r ∧ r.kind = k.code ∧ k.fixed ≤ r.body.length
    ∧ goodOffset r.offset = true ∧ 32 + r.body.length ≤ 4096 ∧ r.offset + 32 + r.body.length ≤ storeEnd

/-- The bytes of a finished record and of what its chain writes when it goes on: the record, the directory entry behind its
head and command words, the chain's status word, and the state byte of the record its link names (R192, R194, R195). The
entry's bytes 24 to 63, which R206 marks zero, are among them, so that no statement rests on log 60. -/
def finishBytes (s : State) (c : Chain) (r : RecordInHand) (a : Nat) : Bool :=
  (decide (r.offset + 4 ≤ a) && decide (a < r.offset + 32 + r.body.length))
    || (decide (dirEntry c + 8 ≤ a) && decide (a < dirEntry c + 64))
    || (decide (offChainStates + 4 * Chain.index c ≤ a) && decide (a < offChainStates + 4 * Chain.index c + 4))
    || a == (s.storeWord r.offset).toNat + 4

/-- A chain has gone on to the record at a nonzero offset, from the fields it had (R194, R196, R197): DELIVERY has only
named it; any other chain is RUNNING with the record in hand as it stands, whole in record space, its state byte TAKEN, or
FAULTED with the code of the check it fails, and FAULT pending. -/
def WentTo (t : State) (c : Chain) (x : ChainState) (y : Word) : Prop :=
  if c = .delivery then t.chain c = { x with phase := .running, current := y, inHand := none }
  else if (t.chain c).phase = .running then
    t.chain c = { x with phase := .running, current := y, inHand := some (t.readRecord y.toNat) }
      ∧ t.store.read (y.toNat + 4) = 2 ∧ goodOffset y.toNat = true ∧ 32 + t.bodyLength y.toNat ≤ 4096
      ∧ y.toNat + 32 + t.bodyLength y.toNat ≤ storeEnd
  else t.chain c = { x with
      phase := .faulted, current := y, fault := t.recordFault y.toNat, inHand := none, stopping := false }
    ∧ t.recordFault y.toNat ≠ .noFault ∧ t.Pending .fault

/-- Where a chain stands once its record is finished (R193, R194, R196): OFF after a STOP, PARKED on a link of END, else on
the record the link names; that is taken exactly when it passed its checks before, unless the finished record lies over
its header, and a record that links to itself is not NEW any more. -/
def GoneOn (s t : State) (c : Chain) (r : RecordInHand) : Prop :=
  let x := { s.chain c with done := (s.chain c).done + 1, inHand := none, stopping := false }
  let y := s.storeWord r.offset
  if (s.chain c).stopping then t.chain c = { x with phase := .off }
  else if y = 0 then t.chain c = { x with phase := .parked, current := BitVec.ofNat 32 r.offset }
  else WentTo t c x y ∧ (c ≠ .delivery →
    (y.toNat + 32 ≤ r.offset ∨ r.offset + 32 + r.body.length ≤ y.toNat →
      ((t.chain c).phase = .running ↔ s.recordFault y.toNat = .noFault))
    ∧ (y.toNat = r.offset → (t.chain c).phase = .faulted
      ∧ (s.bodyLength r.offset = r.body.length → (t.chain c).fault = .notNew)))

/-- A record has been finished with a reply between two states (R195): state, code and flags in its header, the result
parts in its body while no next record is taken, the done count one higher, the told cause pending, the chain gone on,
the other chains as they were, and every byte as it was but those of `finishBytes` and of the request's own effect. Of the
bytes of the header and of the directory entry that R206 marks zero it says nothing (log 60). -/
structure Answered (s t : State) (c : Chain) (r : RecordInHand) (rep : Reply) (own : Nat → Bool) : Prop where
  state : t.store.read (r.offset + 4) = if rep.done then 3 else 4
  code : (t.store.read (r.offset + 7)).toNat = rep.code.number
  flags : t.store.read (r.offset + 8) = rep.flags.byte
  parts : ((s.chain c).stopping = true ∨ s.storeWord r.offset = 0) →
    ∀ p ∈ rep.parts, t.store.readBytes (r.offset + 32 + p.1) p.2.length = p.2
  done : (t.chain c).done = (s.chain c).done + 1
  told : r.tell = true → t.Pending (tellCause c)
  goneOn : GoneOn s t c r
  others : ∀ d, d ≠ c → t.chain d = s.chain d
  bytes : ∀ a, finishBytes s c r a = false → own a = false → t.store.read a = s.store.read a

/-- No byte of the store beside the record's and its chain's is written. -/
def noBytes (_ : Nat) : Bool := false

/-- The chain a request row works on, and the kind of its records (R191, R206). -/
def requestRow : Instr → Option (Chain × RequestKind)
  | .setPortRoles => some (.setup, Kind.setPortRoles)
  | .setSlotTables => some (.setup, Kind.setSlotTables)
  | .setPacer => some (.setup, Kind.setPacer)
  | .setGuestPolicy => some (.setup, Kind.setGuestPolicy)
  | .setLabelParams => some (.setup, Kind.setLabelParams)
  | .loadTemplate c => if c = .setup ∨ c = .label then some (c, Kind.loadTemplate) else none
  | .setExchangeParams => some (.setup, Kind.setExchangeParams)
  | .setClock => some (.setup, Kind.setClock)
  | .setPeriodManual => some (.setup, Kind.setPeriod)
  | .setPeriodScheduled => some (.setup, Kind.setPeriod)
  | .setPlausibility => some (.setup, Kind.setPlausibility)
  | .loadItems => some (.price, Kind.loadItems)
  | .changePrice => some (.price, Kind.changePrice)
  | .confirmChange => some (.price, Kind.confirmChange)
  | .rejectChange => some (.price, Kind.rejectChange)
  | .setText => some (.price, Kind.setText)
  | .removeItem => some (.price, Kind.removeItem)
  | .readItem => some (.price, Kind.readItem)
  | .bindLabel => some (.label, Kind.bindLabel)
  | .unbindLabel => some (.label, Kind.unbindLabel)
  | .setLabelTemplate => some (.label, Kind.setLabelTemplate)
  | .retryLabel => some (.label, Kind.retryLabel)
  | .readLabel => some (.label, Kind.readLabel)
  | .sendFrame => some (.net, Kind.sendFrame)
  | .admitGuest => some (.net, Kind.admitGuest)
  | .revokeGuest => some (.net, Kind.revokeGuest)
  | .readCounts => some (.net, Kind.readCounts)
  | .flushStations => some (.net, Kind.flushStations)
  | .startExchange => some (.exchange, Kind.startExchange)
  | .abortExchange => some (.exchange, Kind.abortExchange)
  | .readJournalState => some (.exchange, Kind.readJournalState)
  | .powerOn | .reset | .run | .causeRead | .causeEnableWrite _ | .registerWriteIgnored _ _ | .startUpScan
  | .headWrite _ _ | .stop _ | .commandOtherValue _ _ | .linkWordWrite _ _ _ | .deliveryFill | .frameReceive _ _ _
  | .signOn | .quoteAsk | .salePut | .signOff | .bsHello | .labelSeen | .updateResult | .welcome | .jack | .pblock
  | .commit | .noMore | .byeAck | .refuse | .batchEntryApply | .appendStart | .appendEnd | .releaseComplete
  | .lanEgressStart _ | .uplinkPick | .transmitEnd _ | .phyLinkDown _ | .phyLinkUp _ | .millisecondStep
  | .tillSilenceExpiry _ | .baseStationSilence _ | .updateDeadline _ _ | .stationAging _ | .helloResend
  | .jblockResend | .pullResend | .byeResend | .serverIdleExpiry | .sessionDeadline | .guestTimeLimit _
  | .guestIdleRemoval _ | .openTimeReached | .closeTimeReached | .windowStartReached | .powerLoss => none

/-! ### Queues and buffers -/

/-- A frame offered to a port's LAN egress queue joins it: the link is up, a buffer is free, the queue is below its cap
(R155, R163). -/
abbrev State.JoinsLan (s : State) (p : Port) : Prop :=
  (s.port p).linkUp = true ∧ 0 < s.net.freeBuffers ∧ (s.port p).lan.length < (s.port p).lanCap

/-- The reason a frame offered to a port's LAN egress queue is dropped for, when it does not join (R155, R163; the
order of the tests is log 58). -/
def State.lanDropReason (s : State) (p : Port) : DropReason :=
  if (s.port p).linkUp = false then .unknown else if s.net.freeBuffers = 0 then .noBuffer else .queueCap

/-- Between two states one of the part's own frames has been offered to a port: it stands at the end of the queue with a
buffer taken, or its drop is counted on that port; the other ports and the class queues are as they were (R155). -/
structure LanOffered (s t : State) (p : Port) (f : Frame) : Prop where
  queue : (t.port p).lan = if s.JoinsLan p then (s.port p).lan ++ [f] else (s.port p).lan
  buffers : t.net.freeBuffers = if s.JoinsLan p then s.net.freeBuffers - 1 else s.net.freeBuffers
  counters : (t.port p).counters =
    if s.JoinsLan p then (s.port p).counters else (s.port p).counters.drop (s.lanDropReason p)
  others : ∀ q, q ≠ p → t.port q = s.port q
  classes : t.net.classes = s.net.classes

/-- A frame of the till link from the part: the answer's kind, the till id, the body, padded (R43, R203, R208). -/
def State.tillFrameOut (s : State) (dest : MacAddr) (kind till : Nat) (body : List Byte) : Frame :=
  s.makeFrame dest s.net.tillType (beBytes 1 kind ++ beBytes 1 till ++ body)

/-- The state once a number of buffers have come back to the pool one after the other, each reported to the stations that
wait for one (R115, R154; log 10). -/
def State.afterReturns : Nat → State → State
  | 0, s => s
  | n + 1, s => State.afterReturns n s.bufferReturned

/-- The buffers a port holds: its LAN egress queue, and its wire (R154). -/
def PortState.held (x : PortState) : Nat :=
  x.lan.length + (match x.wire with
    | some (.buffered _) => 1
    | _ => 0)

/-- Buffers in use: queued, on a wire, or awaiting delivery (R154). -/
def Forwarding.held (n : Forwarding) : Nat :=
  n.ports.p0.held + n.ports.p1.held + n.ports.p2.held + n.ports.p3.held + n.ports.p4.held
    + n.classes.payment.length + n.classes.store.length + n.classes.exchange.length + n.classes.guest.length
    + n.delivery.length

/-! ### The start-up scan -/

/-- An entry the walk accepts at a unit, expecting a sequence, `used` units accepted before it (R73; places by R207). -/
def EntryAccepted (m : Memory) (unit sequence used : Nat) (e : WalkedEntry) : Prop :=
  let a := unitAddr unit
  let n := leNat (m.readBytes (a + 19) 1)
  1 ≤ n ∧ e.till = leNat (m.readBytes (a + 18) 1) ∧ 1 ≤ e.till ∧ e.till ≤ 64
    ∧ e.sequence = leNat (m.readBytes a 4) ∧ e.sequence = sequence ∧ e.basket = leNat (m.readBytes (a + 4) 4)
    ∧ e.units = 1 + (n + 1) / 2 ∧ used + e.units ≤ 114688
    ∧ crc32 (m.readBytes a 60 ++ unitBytes m (unit + 1) (e.units - 1))
        = BitVec.ofNat 32 (leNat (m.readBytes (a + 60) 4))

/-- The walk from a unit accepts exactly these entries, in order (R73): each where the one before it ends, and none
where the last of them ends. -/
def WalkFinds (m : Memory) : Nat → Nat → Nat → List WalkedEntry → Prop
  | unit, sequence, used, [] => ∀ e, ¬ EntryAccepted m unit sequence used e
  | unit, sequence, used, e :: es =>
    EntryAccepted m unit sequence used e ∧ WalkFinds m (unit + e.units) (sequence + 1) (used + e.units) es

/-- A till mark after the scan, from the mark as it stood and the till's own accepted entries (R74): a torn mark, and
one that an entry of the till reaches, take the last entry; a torn one with no entry takes 0 and 0. -/
def MarkAfterScan (s t : State) (till : Nat) (own : List WalkedEntry) : Prop :=
  let bs := s.backed.readBytes (markAddr till) 16
  if crc32 (bs.take 12) ≠ BitVec.ofNat 32 (leNat (bs.drop 12)) then
    t.mark till = ((own.getLast?.map WalkedEntry.basket).getD 0, (own.getLast?.map WalkedEntry.sequence).getD 0)
  else if ∃ e ∈ own, (s.mark till).1 ≤ e.basket then
    ∃ e, own.getLast? = some e ∧ t.mark till = (e.basket, e.sequence)
  else t.mark till = s.mark till

/-! ### What a reset or a power loss cuts short -/

/-- The pieces of a write to the backed SRAM in order, each with its address: one copy, mark or unit (R58, R72). -/
def BackedWrite.pieces : BackedWrite → List (Nat × List Byte)
  | .piece a bs => [(a, bs)]
  | .zeroUnits n => (List.range n).map (fun u => (unitAddr u, zeros 64))

/-- Pieces written whole, in order. -/
def piecesWritten (m : Memory) (ps : List (Nat × List Byte)) : Memory := ps.foldl (fun m p => m.writeBytes p.1 p.2) m

/-- A memory after the writing of pieces has been cut short: the first `k` whole, those after the next one not begun, and of
the next one some bytes only at a power loss, each of them old or new (R58; log 9). -/
def CutAfter (powerLoss : Bool) (m m' : Memory) (ps : List (Nat × List Byte)) (k : Nat) : Prop :=
  let whole := piecesWritten m (ps.take k)
  ∀ x, m'.read x = whole.read x
    ∨ (powerLoss = true ∧ ∃ p, ps[k]? = some p ∧ p.1 ≤ x ∧ x < p.1 + p.2.length ∧ m'.read x = p.2.getD (x - p.1) 0)

/-- The pieces of the append that has started: the line units and the first unit of its entry, its till's mark, the header
with the next sequence one higher (R65). -/
def State.appendPieces (s : State) : List (Nat × List Byte) :=
  match s.journal.append with
  | none => []
  | some a =>
    if a.started then
      (entryWrites s.journal.tail s.journal.next a.sale ++ [markWrite a.sale.till a.sale.basket s.journal.next,
        headerWrite s.backed s.journal.head s.journal.acked (s.journal.next + 1) s.journal.fresh]).flatMap BackedWrite.pieces
    else []

/-- What a controller reset or a power loss leaves in the backed SRAM of what was being written (R58, R66, R70): the scan's
writes cut short while CHECKING; else the append's, and after them the header write of a release in progress, of the next
sequence as it then stands (R59, R68). How far each had come is free, and their order is the model's choice (log 9). -/
def Interrupted (powerLoss : Bool) (s t : State) : Prop :=
  if s.requests.startState = .checking then
    ∃ k, CutAfter powerLoss s.backed t.backed ((scan s.backed).writes.flatMap BackedWrite.pieces) k
  else ∃ k m, CutAfter powerLoss s.backed m s.appendPieces k
    ∧ (s.journal.release = none → t.backed = m)
    ∧ ∀ r, s.journal.release = some r →
        let next := if s.appendPieces ≠ [] ∧ s.appendPieces.length ≤ k then s.journal.next + 1 else s.journal.next
        ∃ k', CutAfter powerLoss m t.backed
          (headerWrite m r.newHead r.upTo next (s.journal.fresh && !r.clear)).pieces k'

/-! ### Images -/

/-- Fields of a byte structure, each at its offset with its width in bytes, hold these values, cut to their widths (R203,
R212). -/
def FieldsAre (bs : List Byte) (fs : List (Nat × Nat × Nat)) : Prop :=
  ∀ f ∈ fs, leField bs f.1 f.2.1 = f.2.2 % 256 ^ f.2.1

/-! ### Messages of the tills and the base stations -/

/-- The bytes after the Ethernet header spell a till's message, the till id in byte 1 (R41, R42, R208); lines that the frame
does not hold whole are not among them. -/
def TillSpelled (bs : List Byte) : TillMessage → Prop
  | .signOn => 2 ≤ bs.length ∧ beField bs 0 1 = 1
  | .quoteAsk ref article quantity => 14 ≤ bs.length ∧ beField bs 0 1 = 3 ∧ ref = beField bs 2 2
      ∧ article = beField bs 4 6 ∧ quantity = beField bs 10 4
  | .salePut basket day ms total n lines => 17 ≤ bs.length ∧ beField bs 0 1 = 5 ∧ basket = beField bs 2 4
      ∧ day = beField bs 6 2 ∧ ms = beField bs 8 4 ∧ total = beField bs 12 4 ∧ n = beField bs 16 1
      ∧ lines.length = min n ((bs.length - 17) / 18)
      ∧ ∀ (k : Nat) (l : SaleLine), lines[k]? = some l → l =
          { article := beField bs (17 + 18 * k) 6, quantity := beField bs (23 + 18 * k) 3
            amount := beField bs (26 + 18 * k) 4, version := beField bs (30 + 18 * k) 4, basis := beField bs (34 + 18 * k) 1 }
  | .signOff => 2 ≤ bs.length ∧ beField bs 0 1 = 7

/-- The bytes after the Ethernet header spell a base station's message, its nonzero id in bytes 1 and 2, every field within
its range (R103, R104, R209; log 43). -/
def LabelSpelled (bs : List Byte) (id : Nat) (m : LabelMessage) : Prop :=
  id = beField bs 1 2 ∧ id ≠ 0 ∧ match m with
  | .hello boot credit zone => 8 ≤ bs.length ∧ beField bs 0 1 = 1 ∧ boot = beField bs 3 2 ∧ credit = beField bs 5 1
      ∧ zone = beField bs 6 2 ∧ 1 ≤ credit ∧ credit ≤ 64
  | .seen gs => beField bs 0 1 = 3 ∧ gs.length = beField bs 3 1 ∧ 1 ≤ gs.length ∧ gs.length ≤ 32
      ∧ 4 + 6 * gs.length ≤ bs.length
      ∧ ∀ (k : Nat) (g : Sighting), gs[k]? = some g → g.label = beField bs (4 + 6 * k) 4
          ∧ g.battery = beField bs (8 + 6 * k) 1 ∧ g.signal = beField bs (9 + 6 * k) 1 ∧ g.label ≠ 0 ∧ g.battery ≤ 100
  | .result tag label o => 12 ≤ bs.length ∧ beField bs 0 1 = 5 ∧ tag = beField bs 3 4 ∧ label = beField bs 7 4
      ∧ ((beField bs 11 1 = 1 ∧ o = .shown) ∨ (beField bs 11 1 = 2 ∧ o = .rejected)
        ∨ (beField bs 11 1 = 3 ∧ o = .noAnswer))

/-! ### Messages of the server -/

/-- The bytes of one entry of a PBLOCK spell an entry (R210). -/
def EntrySpelled (bs : List Byte) : BatchEntry → Prop
  | .change article base promo => bs.length = 18 ∧ beField bs 0 1 = 1 ∧ article = beField bs 1 8 ∧ base = beField bs 9 4
      ∧ promo = if beField bs 13 1 = 0 then none else some { n := beField bs 13 1, t := beField bs 14 4 }
  | .newItem e => bs.length = 51 ∧ beField bs 0 1 = 2 ∧ e =
      { article := beField bs 1 8, textLength := beField bs 9 1, text := (bs.drop 10).take 24
        saleKind := beField bs 34 1, measure := beField bs 35 1, packQty := beField bs 36 4, refQty := beField bs 40 2
        base := beField bs 42 4
        promo := if beField bs 46 1 = 0 then none else some { n := beField bs 46 1, t := beField bs 47 4 } }

/-- Bytes spell entries one after the other, and nothing else (R210). -/
def EntriesSpelled : List BatchEntry → List Byte → Prop
  | [], bs => bs = []
  | e :: es, bs => ∃ a b, bs = a ++ b ∧ EntrySpelled a e ∧ EntriesSpelled es b

/-- The kind and the body of a message spell a message the server sends (R124, R125, R210; bytes after the counted
entries of a PBLOCK are not read: log 26). -/
def MessageSpelled (kind : Nat) (body : List Byte) : ServerMessage → Prop
  | .welcome a => kind = 2 ∧ 4 ≤ body.length ∧ a = beField body 0 4
  | .jack a => kind = 4 ∧ 4 ≤ body.length ∧ a = beField body 0 4
  | .pblock batch index es bytes => kind = 6 ∧ 7 ≤ body.length ∧ batch = beField body 0 4 ∧ index = beField body 4 2
      ∧ beField body 6 1 = es.length ∧ 1 ≤ es.length ∧ es.length ≤ 64
      ∧ bytes = (body.drop 7).take bytes.length ∧ EntriesSpelled es bytes
  | .commit batch count crc => kind = 8 ∧ 12 ≤ body.length ∧ batch = beField body 0 4 ∧ count = beField body 4 4
      ∧ crc = BitVec.ofNat 32 (beField body 8 4)
  | .noMore => kind = 10
  | .byeAck => kind = 12
  | .refuse reason => kind = 13 ∧ 1 ≤ body.length ∧ reason = beField body 0 1

/-- A frame received on a port of a role is one that the UPLINK port looks into for the exchange: IPv4, addressed to the
controller or the appliance station, with a whole IPv4 header whose destination is the part's own address (R125, R149). -/
abbrev State.OwnDatagram (s : State) (role : Role) (f : Frame) : Prop :=
  role = .uplink ∧ f.etherType = 0x0800 ∧ (f.dest = s.net.controller ∨ f.dest = s.net.appliance)
    ∧ beField f.payload 0 1 / 16 = 4 ∧ 5 ≤ beField f.payload 0 1 % 16 ∧ 4 * (beField f.payload 0 1 % 16) ≤ f.payload.length
    ∧ BitVec.ofNat 32 (beField f.payload 16 4) = s.exchange.ownIp

/-- The frame's datagram is the exchange's to take or to drop: a fragment, or a UDP datagram to the exchange's port (R125,
R149; log 57). -/
abbrev State.ExchangeDatagram (s : State) (role : Role) (f : Frame) : Prop :=
  s.OwnDatagram role f
    ∧ (beField f.payload 6 2 % 16384 ≠ 0
      ∨ (let udp := (f.payload.take (beField f.payload 2 2)).drop (4 * (beField f.payload 0 1 % 16))
         beField f.payload 9 1 = 17 ∧ 8 ≤ udp.length ∧ beField udp 2 2 = s.exchange.udpPort))

/-- The header of a message is as R124, R125 and R210 have it: the mark, the branch id, the CRC over the message with its
own field zero. -/
def MessageHeaderGood (x : Exchange) (bs : List Byte) : Prop :=
  12 ≤ bs.length ∧ beField bs 0 2 = 0x1D40 ∧ BitVec.ofNat 32 (beField bs 4 4) = x.branchId
    ∧ crc32 (bs.take 8 ++ zeros 4 ++ bs.drop 12) = BitVec.ofNat 32 (beField bs 8 4)

/-! ### Items and labels -/

/-- The bytes of the five label counts in the status block (R206). -/
def labelCountBytes (a : Nat) : Bool := decide (0x58 ≤ a) && decide (a < 0x6C)

/-- The bytes a switch may write beside a record's own: label counts and the log (R78, R199). -/
def labelAndLogBytes (a : Nat) : Bool := labelCountBytes a || logBytes a

/-- Every label on an item's list is QUEUED or SENT: a queue request finds none to move (R87). -/
abbrev State.LabelsBusy (s : State) (i : Item) : Prop :=
  ∀ id ∈ i.labels, ∃ l, s.label id = some l ∧ (l.phase = .queued ∨ l.phase = .sent)

/-- A campaign has been started between two states for an item whose labels are all QUEUED or SENT: the version is pending
under the next number, no waiting change is left, outstanding is the length of the list, SENT labels carry the again
flag, and nothing else moves (R12, R87). -/
structure CampaignStarted (s t : State) (i : Item) (base : Nat) (promo : Option Promotion) : Prop where
  item : t.item i.article = some { i with
    pending := some { number := nextNumber i.lastVersion, base := base, promo := promo }, waiting := none
    lastVersion := nextNumber i.lastVersion, outstanding := i.labels.length }
  others : ∀ a, a ≠ i.article → t.item a = s.item a
  labels : ∀ id ∈ i.labels, ∀ l, s.label id = some l → t.label id = some { l with again := l.again || l.phase == .sent }
  rest : ∀ id, id ∉ i.labels → t.label id = s.label id
  sets : t.labels.homeless = s.labels.homeless ∧ t.labels.templates = s.labels.templates
  window : t.price.down = s.price.down ∧ t.price.up = s.price.up
  frame : ((t.withLogOf s).setPrice s.price).setLabels s.labels = s

/-- The results of the entries of a LOAD_ITEMS, in order, with the articles its earlier entries have inserted: what the
form gives, EXISTS, TABLE_FULL, or OK (R24). -/
def State.loadResults (s : State) : List Nat → List ItemEntry → List Code
  | _, [] => []
  | taken, e :: es =>
    let c : Code := match e.check 0 with
      | .error x => x
      | .ok i => if s.item i.article ≠ none ∨ i.article ∈ taken then .exists_
          else if 65536 ≤ s.price.items.length + taken.length then .tableFull else .ok
    c :: s.loadResults (if c = .ok then e.article :: taken else taken) es

/-- An update on its way to a base station, between two states (R85, R113, R116): the station holds it with its tag, cost
and deadline, the label is SENT with it, and the UPDATE_PUT has been offered to the station's port. -/
structure UpdateOnWay (s t : State) (b : BaseStation) (l : Label) (u : Update) : Prop where
  station : let tag := s.link.freeTag s.link.inFlightCount s.link.nextTag
    t.station b.id = some { b with
      ready := [], waitingForBuffer := false
      inFlight := b.inFlight ++ [{ tag := tag, label := l.id, kind := u.kind, cost := u.kind.cost
                                   deadline := s.now + 25 * s.link.slots + 5000 }] }
  label : let tag := s.link.freeTag s.link.inFlightCount s.link.nextTag
    t.label l.id = some { l with
      phase := .sent, again := false
      inFlight := some { tag := tag, kind := u.kind, version := u.version, template := u.template
                         textRevision := u.textRevision, station := b.id } }
  offered : let tag := s.link.freeTag s.link.inFlightCount s.link.nextTag
    LanOffered s t b.port (s.makeFrame b.address s.net.labelType (beBytes 1 4 ++ beBytes 2 b.id ++ beBytes 4 tag
      ++ beBytes 4 l.id ++ beBytes 1 u.kind.code ++ beBytes 2 u.content.length ++ u.content))

/-- No base station can be sent an update: each is LOST, or has no credit left and nothing ready (R113, R114). -/
abbrev State.NoSends (s : State) : Prop :=
  ∀ b ∈ s.link.table, b.phase = .lost ∨ (b.credit ≤ b.costInFlight ∧ b.ready = [])

/-- What a queue request for a new target makes of a label (R87). -/
def Label.retargeted (l : Label) : Label :=
  match l.phase with
  | .idle => { l with phase := .queued }
  | .sent => { l with again := true }
  | .stale => { l with phase := .queued, attempts := 0, staleReason := .noReason }
  | .queued => l
  | .unbinding => l

/-- What a queue request for a new text makes of a label (R87). -/
def Label.retexted (l : Label) : Label :=
  match l.phase with
  | .idle => { l with phase := .queued }
  | .sent => { l with again := true }
  | .queued => l
  | .stale => l
  | .unbinding => l

/-- Between two states a queue request has been made for labels, no station being able to send: each label is as the
request makes it and waits in its home's ready set, or in the homeless set, if it has just become QUEUED; nothing else of
the directory, the sets and the stations moves, but the flag of a station whose arbiter has run (R86, R87, R113, R115). -/
structure LabelsQueued (s t : State) (ids : List Nat) (f : Label → Label) : Prop where
  labels : ∀ id ∈ ids, ∀ l, s.label id = some l → t.label id = some (f l)
  rest : ∀ id, id ∉ ids → t.label id = s.label id
  homeless : ∀ id, id ∈ t.labels.homeless ↔ id ∈ s.labels.homeless
    ∨ (id ∈ ids ∧ ∃ l, s.label id = some l ∧ l.home = none ∧ l.phase ≠ .queued ∧ (f l).phase = .queued)
  stations : ∀ n b, s.station n = some b → ∃ x, t.station n = some x
    ∧ x = { b with ready := x.ready, waitingForBuffer := x.waitingForBuffer }
    ∧ ∀ id, id ∈ x.ready ↔ id ∈ b.ready
      ∨ (id ∈ ids ∧ ∃ l, s.label id = some l ∧ l.home = some n ∧ l.phase ≠ .queued ∧ (f l).phase = .queued)
  templates : t.labels.templates = s.labels.templates ∧ t.labels.maxAttempts = s.labels.maxAttempts
  link : { t.link with table := s.link.table } = s.link

/-- A campaign has been started between two states for an item, no station being able to send: the version is pending
under the next number, no waiting change is left, outstanding is the length of the list, the labels that were STALE have
left the stale count, and each label is queued again as R87 has it (R12, R20, R87). -/
structure CampaignQueued (s t : State) (i : Item) (base : Nat) (promo : Option Promotion) : Prop where
  item : t.item i.article = some { i with
    pending := some { number := nextNumber i.lastVersion, base := base, promo := promo }, waiting := none
    lastVersion := nextNumber i.lastVersion, outstanding := i.labels.length
    staleCount := i.staleCount - i.labels.countP (fun id => (s.label id).map Label.phase == some .stale) }
  others : ∀ a, a ≠ i.article → t.item a = s.item a
  labels : LabelsQueued s t i.labels Label.retargeted
  window : t.price.down = s.price.down ∧ t.price.up = s.price.up
  frame : (((t.withLogOf s).setPrice s.price).setLabels s.labels).setLink s.link = s

/-- Between two states one item record has been replaced and nothing else but the log moved. -/
structure ItemPut (s t : State) (i : Item) : Prop where
  item : t.item i.article = some i
  others : ∀ a, a ≠ i.article → t.item a = s.item a
  window : t.price.down = s.price.down ∧ t.price.up = s.price.up
  frame : (t.withLogOf s).setPrice s.price = s

/-! ### Answers of the part -/

/-- Between two states an answer of the till link has been offered to a port and nothing but that port, the till
table and the log moved (R43). -/
structure TillAnswered (s t : State) (p : Port) (dest : MacAddr) (kind till : Nat) (body : List Byte) : Prop where
  offered : LanOffered s t p (s.tillFrameOut dest kind till body)
  frame : ((t.withLogOf s).setTills s.tills).setNet s.net = s

/-- Between two states only one till entry has changed, and the front of the inbox is gone. -/
def TillEntryIs (s t : State) (rest : List TillFrame) (id : Nat) (e : TillEntry) : Prop :=
  t.tills.inbox = rest ∧ t.till id = some e ∧ ∀ n, n ≠ id → t.till n = s.till n

/-- Between two states a message of the exchange has been offered to the EXCHANGE queue: all its frames join, or none
does, and a port counts each that does not (R124, R155). -/
structure MessageSent (s t : State) (kind : PartMessage) (body : List Byte) : Prop where
  joined : let fs := s.messageFrames (messageBytes kind s.exchange.branchId body)
    s.messageRefusal fs.length = none → t.net = { s.net with
      classes := s.net.classes.set .exchange (s.net.classes.exchange ++ fs), freeBuffers := s.net.freeBuffers - fs.length }
  lost : let fs := s.messageFrames (messageBytes kind s.exchange.branchId body)
    ∀ r, s.messageRefusal fs.length = some r → ({ t.net with ports := s.net.ports } = s.net
      ∧ (∀ p, s.net.uplink = some p → (t.port p).counters = (s.port p).counters.drops r fs.length)
      ∧ (∀ p, s.net.uplink ≠ some p → t.port p = s.port p))
  counted : t.exchange.datagrams = s.exchange.datagrams + 1

/-- The bytes of a BYE's body (R210). -/
def byeBody (outcome : Nat) (x : Totals) : List Byte :=
  beBytes 1 outcome ++ beBytes 4 x.acknowledged ++ beBytes 4 x.batches ++ beBytes 4 x.counts.applied
    ++ beBytes 4 x.counts.skipped ++ beBytes 4 x.counts.queried

/-- An exchange context with nothing of a session in it, the datagram number aside (R123, R139). -/
def EmptiedTo (x y : Exchange) (state : SessionState) : Prop :=
  y = { x with
    state := state, resend := none, window := [], stage := Stage.empty, applying := false, rest := []
    counts := BatchCounts.zero, mismatch := none, lastAnswer := none, totals := Totals.zero, awaiting := none
    inbox := [], datagrams := y.datagrams }

/-- A session has ended between two states: its context emptied, IDLE and the outcome recorded and in the status block,
EXCHANGE_ENDED posted (R139). -/
structure SessionEnded (s t : State) (o : SessionOutcome) (reason : Nat) : Prop where
  context : EmptiedTo { s.exchange with lastOutcome := o } t.exchange .idle
  session : t.storeWord offSession = 0
  outcome : t.storeWord offOutcome = BitVec.ofNat 32 o.code
  posted : Posted s t .exchangeEnded 0 (twoParts o.code reason)

/-- Nothing but the exchange context, the network side and the log has moved: the journal and its checkpoint, the items
and the labels are as they were (R139). -/
def OnlyExchange (s t : State) : Prop := ((t.withLogOf s).setExchange s.exchange).setNet s.net = s

/-- Between two states messages of the exchange have been offered to the EXCHANGE queue one after the other, and nothing
but the network side and the datagram number has moved (R124, R131). -/
def MessagesSent : State → State → List (PartMessage × List Byte) → Prop
  | s, t, [] => t = s
  | s, t, m :: ms => ∃ u, MessageSent s u m.1 m.2
      ∧ u.exchange = { s.exchange with datagrams := s.exchange.datagrams + 1 } ∧ OnlyExchange s u ∧ u.store = s.store
      ∧ MessagesSent u t ms

/-- A block as a JBLOCK, read from the journal as it stands (R129, R131, R210). -/
def State.blockMessage (s : State) (b : Block) : PartMessage × List Byte :=
  let es := s.journalRead b.first (b.last + 1 - b.first)
  (.jblock, beBytes 4 b.first ++ beBytes 1 es.length ++ es.flatten)

/-- Between two states the batch being applied has been committed with its counts: announced, answered, added to the
totals, the stage empty (R136). -/
structure BatchCommitted (s t : State) (batch : Nat) (c : BatchCounts) : Prop where
  exchange : t.exchange = { s.exchange with
    lastBatch := batch, lastAnswer := some { batch := batch, counts := c }, stage := Stage.empty, applying := false
    counts := .zero, serverHeard := s.now, datagrams := s.exchange.datagrams + 1
    totals := { s.exchange.totals with
      batches := s.exchange.totals.batches + 1, counts := s.exchange.totals.counts.add c } }
  answered : MessageSent s t .commitAnswer (beBytes 4 batch ++ beBytes 1 0 ++ beBytes 4 c.applied ++ beBytes 4 c.skipped
    ++ beBytes 4 c.queried)
  posted : Posted s t .batchApplied 0 batch
  frame : OnlyExchange s t

/-- Between two states one entry of the batch has had an effect and been counted, others still waiting; after the last one
the batch is committed (R136). -/
def EntryTaken (s t : State) (batch : Nat) (waiting : List BatchEntry) (c : BatchCounts) (effect : State → Prop) : Prop :=
  ∃ u, u.exchange = { s.exchange with rest := waiting, counts := c } ∧ effect (u.setExchange s.exchange)
    ∧ if waiting = [] then BatchCommitted u t batch c else t = u

/-! ### The upload -/

/-- The units of a number of entries from a sequence on, as the journal holds them (R60, R69). -/
def State.unitsOf (s : State) (first count : Nat) : Nat :=
  ((s.journalRead first count).map (fun e => e.length / 64)).sum

/-- A release frees the units of the entries after the acknowledged one up to its own, and moves the head behind them
(R68). -/
def State.Frees (s : State) (r : Release) : Prop :=
  r.units = s.unitsOf (s.journal.acked + 1) (r.upTo - s.journal.acked)
    ∧ r.newHead = (s.journal.head + r.units) % 114688

/-- A block that is cut from a sequence on: the first entry always, further ones up to 16 entries and 128 units, and as
many as that and the journal allow (R129). -/
def State.BlockFits (s : State) (first : Nat) (b : Block) : Prop :=
  b.first = first ∧ first ≤ b.last ∧ b.last < s.journal.next
    ∧ (b.last = first ∨ (b.last < first + 16 ∧ s.unitsOf first (b.last + 1 - first) ≤ 128))
    ∧ (b.last + 1 = s.journal.next ∨ b.last + 1 = first + 16 ∨ 128 < s.unitsOf first (b.last + 2 - first))

/-- Blocks that are cut from a sequence on, each where the one before it ends (R129). -/
def State.BlocksFit (s : State) : Nat → List Block → Prop
  | _, [] => True
  | first, b :: bs => s.BlockFits first b ∧ s.BlocksFit (b.last + 1) bs

/-- The first sequence after blocks cut from a sequence on. -/
def afterBlocks (first : Nat) (bs : List Block) : Nat := (bs.getLast?.map (fun b => b.last + 1)).getD first

/-- Between two states blocks have been cut and sent, each a JBLOCK, as many as the window of 8 and the journal allow (a
read at or below the acknowledged sequence returns nothing, R69); the first block of an empty window arms the resend time
(R129). -/
structure BlocksCut (s t : State) (bs : List Block) : Prop where
  cut : s.BlocksFit s.exchange.nextToCut bs
  room : bs = [] ∨ s.exchange.window.length + bs.length ≤ 8
  all : 8 ≤ s.exchange.window.length + bs.length ∨ s.journal.next ≤ afterBlocks s.exchange.nextToCut bs
    ∨ afterBlocks s.exchange.nextToCut bs ≤ s.journal.acked
  exchange : t.exchange = { s.exchange with
    window := s.exchange.window ++ bs, nextToCut := afterBlocks s.exchange.nextToCut bs
    tries := if s.exchange.window = [] ∧ bs ≠ [] then 1 else s.exchange.tries
    resend := if s.exchange.window = [] ∧ bs ≠ [] then some (s.now + s.exchange.retransmit) else s.exchange.resend
    datagrams := s.exchange.datagrams + bs.length }
  sent : MessagesSent s (t.setExchange { s.exchange with datagrams := s.exchange.datagrams + bs.length })
    (bs.map s.blockMessage)

/-- Between two states the two words of the session have been written, its state and the last outcome, and nothing else of
the common store nor of the Request Unit has changed (R123). -/
def SessionWritten (s t : State) : Prop :=
  t.storeWord offSession = BitVec.ofNat 32 t.exchange.state.code
    ∧ t.storeWord offOutcome = BitVec.ofNat 32 t.exchange.lastOutcome.code
    ∧ t.requests = s.requests ∧ ∀ a, a < 0x40 ∨ 0x48 ≤ a → t.store.read a = s.store.read a

/-- Between two states the session has entered UPLOAD, nothing cut yet (R128). -/
def EnteredUpload (s t : State) : Prop :=
  t.exchange = { s.exchange with
    state := .upload, nextToCut := s.journal.acked + 1, resend := none, awaiting := none }
    ∧ SessionWritten s t ∧ t.net = s.net ∧ OnlyExchange s t

/-- Between two states blocks have been cut and the end of the upload tested: with an empty window and every entry
acknowledged the PULL is sent and the session stands in DOWNLOAD (R129, R132). -/
def UploadGoesOn (s t : State) : Prop :=
  ∃ u bs, BlocksCut s u bs
    ∧ if s.exchange.window = [] ∧ bs = [] ∧ s.journal.acked + 1 = s.journal.next then
        MessageSent u t .pull (beBytes 4 s.exchange.lastBatch) ∧ SessionWritten u t ∧ OnlyExchange u t
        ∧ t.exchange = { u.exchange with
            state := .download, tries := 1, resend := some (s.now + s.exchange.retransmit), serverHeard := s.now
            datagrams := u.exchange.datagrams + 1 }
      else t = u

/-- The newest header copy holds these fields, whatever its generation (R59). -/
def HeaderHolds (m : Memory) (head acked next : Nat) (fresh : Bool) : Prop :=
  ∃ g copy, newestHeader m = some ({ generation := g, head := head, acked := acked, next := next, fresh := fresh }, copy)

/-- Between two states a release has been completed: the checkpoint and the head moved and recorded by a header write, its
units free, the status block's fields written, the alert side tested, JOURNAL_LEVEL posted if it changes (R67, R68, R75). -/
structure Released (s t : State) (r : Release) : Prop where
  journal : { t.journal with side := s.journal.side } = { s.journal with
    head := r.newHead, acked := r.upTo, fresh := s.journal.fresh && !r.clear, used := s.journal.used - r.units
    release := none }
  side : t.journal.side = t.journal.sideNow
  told : LevelTold s t
  backed : t.storeWord offBackedState = BitVec.ofNat 32 s.journal.backedState.code
  counts : t.storeWord offUnitsUsed = BitVec.ofNat 32 t.journal.used
    ∧ t.storeWord offUnitsFree = BitVec.ofNat 32 t.journal.freeUnits
    ∧ t.storeWord offOldest = BitVec.ofNat 32 (r.upTo + 1) ∧ t.storeWord offNext = BitVec.ofNat 32 s.journal.next
  header : HeaderHolds t.backed r.newHead r.upTo s.journal.next (s.journal.fresh && !r.clear)
  rest : ∀ a, 128 ≤ a → t.backed.read a = s.backed.read a
  frame : ((t.withLogOf s).setJournal s.journal).setBacked s.backed = s

/-- A message of the server at the front of the inbox, a session open, the state sound (R125). -/
abbrev InInbox (s : State) (m : ServerMessage) (rest : List ServerMessage) : Prop :=
  s.Sound ∧ s.exchange.inbox = m :: rest ∧ s.exchange.state ≠ .idle

/-- The state once a message has been taken: the inbox without it, the server heard now (R125). -/
def State.heard (s : State) (rest : List ServerMessage) : State :=
  s.setExchange { s.exchange with inbox := rest, serverHeard := s.now }

/-! ### Invariants -/

/-- Free buffers plus buffers in use are 4,096 (R154). -/
abbrev State.BuffersAdd (s : State) : Prop := s.net.freeBuffers + s.net.held = 4096

/-- The unread notices never exceed 256 (R199). -/
abbrev State.LogBounded (s : State) : Prop := s.requests.written - s.requests.accepted ≤ 256

/-- Every table keeps its keys strictly rising, each record under its own key, and its number of records within the
manual's: templates are numbered 0 to 255, so there are 256 at most, and the base station table has each id once (R1, R76,
R79, R105, R153, R164). -/
abbrev State.TablesBounded (s : State) : Prop :=
  Table.rising s.price.items ∧ (∀ e ∈ s.price.items, e.2.article = e.1) ∧ s.price.items.length ≤ 65536
    ∧ Table.rising s.labels.directory ∧ (∀ e ∈ s.labels.directory, e.2.id = e.1) ∧ s.labels.directory.length ≤ 32768
    ∧ Table.rising s.labels.templates ∧ (∀ e ∈ s.labels.templates, e.1 ≤ 255)
    ∧ s.link.table.length ≤ 32 ∧ (s.link.table.map BaseStation.id).Nodup
    ∧ Table.rising s.net.stations ∧ s.net.stations.length ≤ 1024
    ∧ Table.rising s.guests.sessions ∧ s.guests.sessions.length ≤ 512

/-- An ADMITTED session's used bytes never exceed its budget (R168). -/
abbrev State.GuestsWithinBudget (s : State) : Prop :=
  ∀ e ∈ s.guests.sessions, e.2.phase = .admitted → e.2.used ≤ e.2.budget

/-- What is in flight at a base station costs no more than its credit, and a LOST one has nothing in flight (R105, R109,
R114). -/
abbrev State.CreditKept (s : State) : Prop :=
  ∀ b ∈ s.link.table, b.costInFlight ≤ b.credit ∧ (b.phase = .lost → b.inFlight = [])

/-- A version number is that of the item's current or of its pending version (R84). -/
def Item.Holds (i : Item) (n : Nat) : Prop := n = i.current.number ∨ i.pending.map Version.number = some n

/-- An item against the label directory (R5-R7, R14, R78, R81, R84): a list of at most 8 labels, none twice, each of them
bound to the item; the version a label has confirmed, and the one its update in flight carries, is the item's current or
pending one; an IDLE label has confirmed its target, version, template and text revision; the stale count is that of the
list's STALE labels; no version is numbered above the last; SETTLED, nothing is outstanding and no change waits unqueried;
with a pending version, outstanding is at least 1 and counts the labels of the list that are not confirmed on it, and an
update in flight of one that is carries it. -/
def State.ItemAgrees (s : State) (i : Item) : Prop :=
  i.labels.Nodup ∧ i.labels.length ≤ 8
    ∧ (∀ id ∈ i.labels, ∃ l, s.label id = some l ∧ l.article = some i.article
        ∧ (∀ c, l.confirmed = some c → i.Holds c.version)
        ∧ (∀ u, l.inFlight = some u → i.Holds u.version)
        ∧ (l.phase = .idle → l.confirmed = some
            { version := (i.pending.getD i.current).number, template := l.template, textRevision := i.textRevision })
        ∧ (∀ v c u, i.pending = some v → l.confirmed = some c → c.version = v.number → l.inFlight = some u →
            u.version = v.number))
    ∧ i.staleCount = i.labels.countP (fun id => (s.label id).map Label.phase == some .stale)
    ∧ i.current.number ≤ i.lastVersion
    ∧ (i.pending = none → i.outstanding = 0 ∧ ∀ w, i.waiting = some w → w.queried = true)
    ∧ ∀ v, i.pending = some v → v.number ≤ i.lastVersion ∧ 1 ≤ i.outstanding
        ∧ i.outstanding = i.labels.countP (fun id =>
            ((s.label id).bind Label.confirmed).map Confirmed.version != some v.number)

/-- A label record against the item table (R5, R77, R85): a bound one is on the list of its item, an UNBINDING one names no
item, and a bound one has an update in flight, never a BLANK, exactly while it is SENT. -/
def State.LabelAgrees (s : State) (l : Label) : Prop :=
  (l.phase = .unbinding ↔ l.article = none)
    ∧ ∀ a, l.article = some a → (∃ i, s.item a = some i ∧ l.id ∈ i.labels) ∧ (l.phase = .sent ↔ l.inFlight ≠ none)
        ∧ ∀ u, l.inFlight = some u → u.kind ≠ .blankUpdate

/-- Items and labels agree with each other. -/
def State.ItemsAgree (s : State) : Prop :=
  (∀ e ∈ s.price.items, s.ItemAgrees e.2) ∧ ∀ e ∈ s.labels.directory, s.LabelAgrees e.2

/-- While the trading period is CLOSED the guest session table and the GUEST class queue are empty, so that no GUEST frame
begins transmission (R160, R173). -/
abbrev State.ClosedEmpty (s : State) : Prop :=
  s.clock.period = .closed → s.guests.sessions = [] ∧ s.net.classes.guest = []

/-- The pacer's count lies between −12,144 and D, and no frame of a class queue is longer than 1,518 bytes (R158). -/
abbrev State.PacerBounded (s : State) : Prop :=
  -12144 ≤ s.net.tokens ∧ s.net.tokens ≤ s.net.depth
    ∧ ∀ c : UplinkClass, ∀ f ∈ s.net.classes.get c, f.length ≤ 1518

/-- The Journal Unit's working state (R59, R62, R65, R68): the head is a unit of the area, the acknowledged sequence lies
below the next, the units used and reserved are no more than the area's, and none are reserved before an append has started;
a release in progress ends above the acknowledged sequence and below the next, its new head a unit of the area; and until
the scan has ended the part is STOPPED, and neither till nor server has handed it anything that could append or release. -/
abbrev State.JournalSound (s : State) : Prop :=
  s.journal.head < 114688 ∧ s.journal.acked < s.journal.next ∧ s.journal.used + s.journal.reservedUnits ≤ 114688
    ∧ (∀ a, s.journal.append = some a → a.started = false → a.reserved = 0)
    ∧ (∀ r, s.journal.release = some r →
        s.journal.acked < r.upTo ∧ r.upTo < s.journal.next ∧ r.newHead < 114688)
    ∧ (s.requests.startState = .checking → s.requests.runState = .stopped ∧ s.tills.inbox = [] ∧ s.exchange.inbox = []
        ∧ s.journal.append = none ∧ s.journal.queue = [] ∧ s.journal.release = none)

end Sys2Proof.Machine
end

