-- ==== Sys2Proof/Certificates/Slice0/Obligations.lean ====
section
/-! DEFINITION. Certificates/Slice0/Obligations.lean: what is to be proved of the model. -/

open Sys2Proof Sys2Proof.Machine

/-! ### The machine as a whole -/

/-- A step is the command at the front of the queue, carried out with the rest of the queue in place; on an empty queue
the part idles (the model's choice, log 5). -/
def Obligations.StepTakesFront : Prop :=
  (∀ (c : Instr) (rest : List Instr) (s : State), step (s.setPending (c :: rest)) = exec c (s.setPending rest))
  ∧ ∀ s : State, s.pending = [] → step s = .next s

/-- A power loss stops the part; nothing but the backed SRAM is touched, and that only where a scan, an append or a
release was writing: the pieces before the cut are whole, those after it not begun, and the piece it falls in has each
byte old or new (R58, R66). An append's pieces stand before a release's header write (the model's choice, log 9). Without
power no command but POWER_ON does anything (the model's choice, log 6). -/
def Obligations.PowerLossStops : Prop :=
  (∀ s : State, s.powered = true → ∃ t, exec .powerLoss s = .next t ∧ t.powered = false
    ∧ ((t.setBacked s.backed).setPowered true).setFreeIndex s.freeIndex = s
    ∧ (s.requests.startState = .ready → (∀ a, s.journal.append = some a → a.started = false) →
        s.journal.release = none → t.backed = s.backed)
    ∧ (s.backed.wf → Interrupted true s t))
  ∧ ∀ (c : Instr) (s : State), s.powered = false → c ≠ .powerOn → exec c s = .next s

/-- POWER_ON: the whole common store is 0 and every volatile unit takes its after-reset value; the backed SRAM outlasts
it (R187, R58). On a part that has power it cuts short what was being written, as a power loss does (the model's choices:
log 6, log 9). -/
def Obligations.PowerOnResets : Prop :=
  ∀ s : State, ∃ t, exec .powerOn s = .next t ∧ t.powered = true ∧ t.store = [] ∧ (s.powered = false → t.backed = s.backed)
    ∧ (s.powered = true → s.backed.wf → Interrupted true s t)
    ∧ t.requests = .reset ∧ t.price = .reset ∧ t.tills = .reset ∧ t.journal = .reset ∧ t.labels = .reset
    ∧ t.link = .reset ∧ t.exchange = .reset ∧ t.net = .reset ∧ t.guests = .reset ∧ t.clock = .reset
    ∧ t.host = s.host ∧ t.pending = s.pending

/-- RESET: status block, directory and read count word are 0, the rest of the store is left, every volatile unit takes
its after-reset value, and the backed SRAM is left when nothing was being written; an append, a release or a scan that was
writing leaves whole pieces only, and begins no further one (R58, R66; an append's pieces stand before a release's header:
log 9). POWER_ON of a part without power leaves every byte of the store 0, the scan still to come, every chain OFF and the
backed SRAM as it was (R187, R58). -/
def Obligations.ResetClears : Prop :=
  (∀ s : State, s.powered = true → ∃ t, exec .reset s = .next t ∧ t.powered = true
    ∧ (∀ a, a < 0x584 → t.store.read a = 0) ∧ (∀ a, 0x584 ≤ a → t.store.read a = s.store.read a)
    ∧ (s.requests.startState = .ready → (∀ a, s.journal.append = some a → a.started = false) →
        s.journal.release = none → t.backed = s.backed)
    ∧ (s.backed.wf → Interrupted false s t)
    ∧ t.requests = .reset ∧ t.price = .reset ∧ t.tills = .reset ∧ t.journal = .reset ∧ t.labels = .reset
    ∧ t.link = .reset ∧ t.exchange = .reset ∧ t.net = .reset ∧ t.guests = .reset ∧ t.clock = .reset
    ∧ t.host = s.host ∧ t.pending = s.pending)
  ∧ ∀ s : State, s.powered = false → ∃ t, exec .powerOn s = .next t ∧ t.powered = true ∧ (∀ a, t.store.read a = 0)
    ∧ t.backed = s.backed ∧ t.requests.startState = .checking ∧ t.requests.runState = .stopped
    ∧ ∀ c, (t.chain c).phase = .off

/-- What either reset leaves of every unit, spelled out. The Request Unit: STOPPED, CHECKING, no RUN remembered, every chain
OFF with nothing in hand, the counts 0, no cause pending or enabled (R187). No item, label, template, base station, learned
station, guest session or waiting message, every till ABSENT, no session, the ports unassigned and their links down, every
buffer free, no time of day, the period CLOSED in MANUAL mode; every parameter at its default (R1, R40, R44, R67, R76, R79,
R93, R105, R112, R116, R122, R123, R141, R145, R153-R155, R157-R160, R162-R165, R176, R177, R179, R182). With these values
every invariant holds. The model's choices are the values of the journal's other fields before the scan (log 25), which only
the invariants speak of here. -/
def Obligations.ResetValues : Prop :=
  (RequestUnit.reset.runState = .stopped ∧ RequestUnit.reset.startState = .checking
    ∧ RequestUnit.reset.rememberedRun = false ∧ RequestUnit.reset.written = 0 ∧ RequestUnit.reset.accepted = 0
    ∧ RequestUnit.reset.dropped = 0 ∧ RequestUnit.reset.deliveryMiss = 0 ∧ RequestUnit.reset.causes = 0
    ∧ RequestUnit.reset.enables = 0
    ∧ ∀ c : Chain, RequestUnit.reset.chains.get c =
        { phase := .off, current := 0, done := 0, fault := .noFault, inHand := none, stopping := false })
  ∧ PriceEngine.reset = { items := [], down := 50, up := 100 }
  ∧ (TillService.reset.inbox = [] ∧ ∀ n : Fin 64, TillService.reset.entries[n] =
      { phase := .absent, station := none, port := none, lastHeard := 0, quotes := 0, inFlight := none })
  ∧ (Journal.reset.alertLevel = 100000 ∧ Journal.reset.append = none ∧ Journal.reset.queue = []
    ∧ Journal.reset.release = none)
  ∧ LabelService.reset = { directory := [], templates := [], homeless := [], maxAttempts := 4 }
  ∧ (StationLink.reset.table = [] ∧ StationLink.reset.nextTag = 1 ∧ StationLink.reset.slots = 512
    ∧ StationLink.reset.inbox = [])
  ∧ (let x := Exchange.reset
     x.branchId = 0 ∧ x.ownIp = 0 ∧ x.serverIp = 0 ∧ x.udpPort = 47210 ∧ x.retransmit = 2000 ∧ x.maxTries = 6
      ∧ x.idleLimit = 30 ∧ x.paramsSet = false ∧ x.lastBatch = 0 ∧ x.state = .idle ∧ x.tries = 0 ∧ x.resend = none
      ∧ x.window = [] ∧ x.stage = { batch := none, nextIndex := 0, entries := [], crc := 0xFFFFFFFF }
      ∧ x.applying = false ∧ x.rest = [] ∧ x.mismatch = none ∧ x.lastAnswer = none ∧ x.totals = { acknowledged := 0, batches := 0, counts := ⟨0, 0, 0⟩ }
      ∧ x.uplinkUp = false ∧ x.lastOutcome = .noOutcome ∧ x.inbox = [])
  ∧ (let n := Forwarding.reset
     (∀ p : Port, n.ports.get p = { role := none, linkUp := false, lan := [], lanCap := 256, control := [], wire := none
                                    counters := ⟨0, 0, 0, 0, 0, 0, 0⟩ })
      ∧ n.appliance = 0 ∧ n.controller = 0 ∧ n.gateway = 0 ∧ n.tillType = 0x9B20 ∧ n.labelType = 0x9B21
      ∧ n.freeBuffers = 4096 ∧ n.stations = [] ∧ n.classes = ⟨[], [], [], []⟩ ∧ n.classCaps = ⟨256, 512, 64, 256⟩
      ∧ n.pauseLevel = 192 ∧ n.resumeLevel = 64 ∧ n.paused = false ∧ n.tokens = 100000 ∧ n.rate = 20000
      ∧ n.depth = 100000 ∧ n.pointer = 0 ∧ n.delivery = []
      ∧ (∀ i : Fin 32, n.day[i] = ([.payment, .store, .guest, .payment, .store, .payment, .store, .guest, .payment, .store,
          .payment, .store, .exchange, .payment, .store, .guest] : List UplinkClass)[i.val % 16]'(by simp; omega))
      ∧ ∀ i : Fin 32, n.night[i] = ([.exchange, .store, .exchange, .payment, .exchange, .store, .exchange, .exchange] :
          List UplinkClass)[i.val % 8]'(by simp; omega))
  ∧ GuestUnit.reset = { sessions := [], defaultBudget := 200000000, defaultLimit := 3600 }
  ∧ (let c := Clock.reset
     c.count = 0 ∧ c.base = none ∧ c.period = .closed ∧ c.mode = .manual ∧ c.windowStart = 3600000
      ∧ c.windowEnd = 18000000)
  ∧ State.reset.MemoryWf ∧ State.reset.Settled ∧ State.reset.BuffersAdd ∧ State.reset.LogBounded
  ∧ State.reset.TablesBounded ∧ State.reset.GuestsWithinBudget ∧ State.reset.ClosedEmpty ∧ State.reset.PacerBounded
  ∧ State.reset.CreditKept ∧ State.reset.ItemsAgree ∧ State.reset.JournalSound

/-! ### The register window -/

/-- RUN: remembered during the scan; without effect while RUNNING; else the part becomes RUNNING, and each OFF chain with a
nonzero head word goes on to it: DELIVERY names the record, any other chain takes it when it passes the four checks and is
FAULTED with FAULT pending when it does not, as the store stands before the start unless two chains' records lie over each
other (R186, R192, R194). That every command word then reads NONE is the model's reading (log 22, DEDUCED: R193 speaks of
a command write). -/
def Obligations.RunStarts : Prop :=
  ∀ s : State, s.powered = true →
    (s.requests.startState = .checking →
      exec .run s = .next (s.setRequests { s.requests with rememberedRun := true }))
    ∧ (s.requests.startState = .ready → s.requests.runState = .running → exec .run s = .next s)
    ∧ (s.requests.startState = .ready → s.requests.runState = .stopped → s.store.wf → ∃ t, exec .run s = .next t
        ∧ t.requests.runState = .running ∧ t.storeWord offRunState = 1 ∧ t.controlValue = 1
        ∧ (∀ c, t.storeWord (commandWord c) = 0)
        ∧ (∀ c, (s.chain c).phase = .off → s.storeWord (headWord c) = 0 → t.chain c = s.chain c)
        ∧ (∀ c, (s.chain c).phase = .off → s.storeWord (headWord c) ≠ 0 →
            let v := s.storeWord (headWord c)
            let started := { s.chain c with phase := .running, current := v, fault := .noFault, stopping := false }
            (t.chain c).current = v ∧ (c = .delivery → t.chain c = { started with inHand := none })
            ∧ (c ≠ .delivery → (t.chain c).phase = .running ∨ (t.chain c).phase = .faulted)
            ∧ (c ≠ .delivery → (∀ d, d ≠ c → d ≠ .delivery → s.storeWord (headWord d) = 0
                ∨ (s.storeWord (headWord d)).toNat + 4096 ≤ v.toNat ∨ v.toNat + 4096 ≤ (s.storeWord (headWord d)).toNat) →
              (s.recordFault v.toNat = .noFault → t.chain c = { started with inHand := some (s.readRecord v.toNat) }
                ∧ t.store.read (v.toNat + 4) = 2)
              ∧ (s.recordFault v.toNat ≠ .noFault →
                t.chain c = { started with phase := .faulted, fault := s.recordFault v.toNat, inHand := none }
                ∧ t.Pending .fault)))
        ∧ (t.withLogOf s) = s)

/-- CAUSE_READ: the code of the highest pending cause, which alone leaves the set; with nothing pending, 0 and nothing
changes. No message is sent (R201, R202). -/
def Obligations.CauseReadTakesHighest : Prop :=
  ∀ s : State, s.powered = true → ∃ t, exec .causeRead s = .next t
    ∧ (∀ c : Cause, s.Pending c → (∀ d : Cause, d.code < c.code → ¬ s.Pending d) →
        t.host.readData = BitVec.ofNat 32 c.code ∧ ¬ t.Pending c ∧ ∀ d, d ≠ c → (t.Pending d ↔ s.Pending d))
    ∧ ((∀ c : Cause, ¬ s.Pending c) → t.host.readData = 0 ∧ t.requests = s.requests)
    ∧ t.host.interrupts = s.host.interrupts
    ∧ { t.requests with causes := s.requests.causes } = s.requests
    ∧ (t.setRequests s.requests).setHost s.host = s

/-- CAUSE_ENABLE_WRITE replaces the five enables and sends one message when it makes the set of pending and enabled
causes go from empty to non-empty; a write to IDENT, to CAUSE or outside the window's registers changes nothing
(R185, R202). -/
def Obligations.RegisterWrites : Prop :=
  (∀ (v : Word) (s : State), s.powered = true → ∃ t, exec (.causeEnableWrite v) s = .next t
    ∧ t.requests = { s.requests with enables := v.setWidth 5 } ∧ t.host.readData = s.host.readData
    ∧ t.host.interrupts = s.host.interrupts
        + (if s.requests.causes &&& s.requests.enables = 0 ∧ s.requests.causes &&& v.setWidth 5 ≠ 0 then 1 else 0)
    ∧ (t.setRequests s.requests).setHost s.host = s)
  ∧ ∀ (offset : Nat) (v : Word) (s : State), offset ≠ 0x4 → offset ≠ 0xC →
      exec (.registerWriteIgnored offset v) s = .next s

/-! ### The start-up scan -/

/-- START_UP_SCAN: with no valid header copy, as when both CRCs are wrong, or when the walk accepts fewer entries than
the newest header records, the journal is formatted, FAULT raised and JOURNAL_LOST posted. Else the walk's entries, each
accepted by the checks of R73 where the one before it ends, give units used and next sequence; head, acknowledged
sequence and FRESH are the header's; a header holds the whole; each till's mark is kept or taken from the till's last
entry as R74 has it; no unit of the area changes; JOURNAL_RECOVERED is posted, and JOURNAL_LEVEL UP with the units used
when they reach the alert level. The start state is READY either way, and a RUN remembered during the scan then takes
effect as a RUN written now (R59, R67, R70-R75, R186). The model's choices: the layout of a header copy (log 8); of two
valid copies of which neither is newer, copy 0 (log 34); the empty journal of a format cut between its two header writes
is kept (log 50). -/
def Obligations.ScanReports : Prop :=
  ∀ s : State, s.powered = true → s.requests.startState = .checking → s.MemoryWf → 1 ≤ s.journal.alertLevel →
    s.journal.append = none →
    let formats := ∃ t, exec .startUpScan s = .next t ∧ t.requests.startState = .ready ∧ t.storeWord offStartState = 1
      ∧ t.journal.head = 0 ∧ t.journal.used = 0 ∧ t.journal.acked = 0 ∧ t.journal.next = 1 ∧ t.journal.fresh = true
      ∧ t.storeWord offBackedState = 2 ∧ t.storeWord offUnitsFree = 114688 ∧ t.storeWord offNext = 1
      ∧ t.Pending .fault ∧ Posted s t .journalLost 0 0 ∧ (∀ n, 1 ≤ n → n ≤ 64 → t.mark n = (0, 0))
      ∧ (∀ a, 0x100000 ≤ a → a < 0x800000 → t.backed.read a = 0)
    ((∀ copy, copy < 2 → crc32 (s.backed.readBytes (64 * copy) 60)
        ≠ BitVec.ofNat 32 (leNat (s.backed.readBytes (64 * copy + 60) 4))) → formats)
    ∧ (newestHeader s.backed = none → formats)
    ∧ ∀ (h : Header) (copy : Nat) (es : List WalkedEntry), newestHeader s.backed = some (h, copy) →
        WalkFinds s.backed h.head (h.acked + 1) 0 es →
        let next := h.acked + 1 + es.length
        let used := (es.map WalkedEntry.units).sum
        (next < h.next → formats)
        ∧ (h.next ≤ next → next < 4294967296 → ∃ t, exec .startUpScan s = .next t ∧ t.requests.startState = .ready
            ∧ t.storeWord offStartState = 1 ∧ t.storeWord offBackedState = 1
            ∧ t.journal.head = h.head ∧ t.journal.used = used ∧ t.journal.acked = h.acked ∧ t.journal.next = next
            ∧ t.journal.fresh = h.fresh ∧ t.journal.side = t.journal.sideNow
            ∧ t.storeWord offUnitsUsed = BitVec.ofNat 32 used ∧ t.storeWord offUnitsFree = BitVec.ofNat 32 (114688 - used)
            ∧ t.storeWord offOldest = BitVec.ofNat 32 (h.acked + 1) ∧ t.storeWord offNext = BitVec.ofNat 32 next
            ∧ (∃ g c, newestHeader t.backed = some ({ generation := g, head := h.head, acked := h.acked, next := next
                                                      fresh := h.fresh }, c))
            ∧ (∀ n, 1 ≤ n → n ≤ 64 → MarkAfterScan s t n (es.filter (fun e => e.till == n)))
            ∧ (∀ a, 0x100000 ≤ a → t.backed.read a = s.backed.read a)
            ∧ (used < s.journal.alertLevel → Posted s t .journalRecovered 0 es.length)
            ∧ (s.journal.alertLevel ≤ used → s.requests.written - s.offeredRead < 255 →
                t.requests.written = s.requests.written + 2)
            ∧ (s.journal.alertLevel ≤ used →
                PostedAll s t [(.journalRecovered, 0, es.length), (.journalLevel, 0, twoParts 1 used)]))
        ∧ (s.requests.runState = .stopped → s.requests.rememberedRun = true → ∃ u t,
            exec .startUpScan (s.setRequests { s.requests with rememberedRun := false }) = .next u
            ∧ u.requests.startState = .ready ∧ exec .run u = .next t ∧ exec .startUpScan s = .next t)

/-- An entry written to the journal area is found whole by the scan's walk, a mark written is read back with a correct
CRC, and a header copy written is read back valid (R59, R63, R65, R73, R207). The layout of a header copy is the
model's choice (log 8). -/
def Obligations.BackedFormatsReadBack : Prop :=
  (∀ (m : Memory) (unit sequence used : Nat) (s : Sale), m.wf → 1 ≤ s.till → s.till ≤ 64 → s.basket < 4294967296 →
      1 ≤ s.lines.length → s.lines.length ≤ 255 → sequence < 4294967296 →
      used + unitsFor s.lines.length ≤ 114688 →
      acceptEntry (applyWrites m (entryWrites unit sequence s)) unit sequence used
        = some { till := s.till, basket := s.basket, sequence := sequence, units := unitsFor s.lines.length })
  ∧ (∀ (m : Memory) (till basket sequence : Nat), m.wf → basket < 4294967296 → sequence < 4294967296 →
      let bs := ((markWrite till basket sequence).apply m).readBytes (markAddr till) 16
      leNat (bs.take 4) = basket ∧ leNat ((bs.drop 4).take 4) = sequence
        ∧ crc32 (bs.take 12) = BitVec.ofNat 32 (leNat (bs.drop 12)))
  ∧ ∀ h : Header, h.generation < 4294967296 → h.head < 114688 → h.next < 4294967296 → h.acked < h.next →
      Header.ofBytes h.bytes = some h

/-! ### Chains -/

/-- HEAD_WRITE on a chain other than DELIVERY: an OFF or FAULTED chain given a nonzero head takes the record there when
it passes the four checks, and is FAULTED with FAULT raised when it does not; 0 leaves the chain, and a RUNNING or
PARKED chain ignores the word. On DELIVERY the record is only named. The word keeps what was written, and after a start
the part's four words of the directory entry and the chain's status word hold the chain's fields, whatever the host had
put into current and fault code. The four checks are alignment and place, then length, then state (R190, R192, R194,
R197). -/
def Obligations.HeadWriteStarts : Prop :=
  (∀ (c : Chain) (v : Word) (s : State), s.Sound → s.requests.runState = .running →
    ∃ t, exec (.headWrite c v) s = .next t ∧ t.storeWord (headWord c) = v ∧ (∀ d, d ≠ c → t.chain d = s.chain d)
      ∧ t.withLogOf s = s
      ∧ (v = 0 ∨ (s.chain c).phase = .running ∨ (s.chain c).phase = .parked → t.chain c = s.chain c)
      ∧ (v ≠ 0 → (s.chain c).phase = .off ∨ (s.chain c).phase = .faulted →
          s.storeWord (dirEntry c + 8) = BitVec.ofNat 32 (s.chain c).phase.code →
          s.storeWord (dirEntry c + 16) = (s.chain c).done →
          s.storeWord (offChainStates + 4 * Chain.index c) = BitVec.ofNat 32 (s.chain c).phase.code →
          t.storeWord (dirEntry c + 8) = BitVec.ofNat 32 (t.chain c).phase.code
          ∧ t.storeWord (dirEntry c + 12) = v ∧ t.storeWord (dirEntry c + 16) = (t.chain c).done
          ∧ t.storeWord (dirEntry c + 20) = BitVec.ofNat 32 (t.chain c).fault.code
          ∧ t.storeWord (offChainStates + 4 * Chain.index c) = BitVec.ofNat 32 (t.chain c).phase.code)
      ∧ (v ≠ 0 → (s.chain c).phase = .off ∨ (s.chain c).phase = .faulted → c ≠ .delivery →
          s.recordFault v.toNat = .noFault →
          t.chain c = { s.chain c with phase := .running, current := v, fault := .noFault, stopping := false
                                       inHand := some (s.readRecord v.toNat) }
          ∧ t.store.read (v.toNat + 4) = 2)
      ∧ (v ≠ 0 → (s.chain c).phase = .off ∨ (s.chain c).phase = .faulted → c ≠ .delivery →
          s.recordFault v.toNat ≠ .noFault →
          t.chain c = { s.chain c with phase := .faulted, current := v, fault := s.recordFault v.toNat
                                       stopping := false, inHand := none }
          ∧ t.Pending .fault ∧ ∀ a, recordSpace ≤ a → t.store.read a = s.store.read a)
      ∧ (v ≠ 0 → (s.chain c).phase = .off ∨ (s.chain c).phase = .faulted → c = .delivery →
          t.chain c = { s.chain c with phase := .running, current := v, fault := .noFault, stopping := false
                                       inHand := none }))
  ∧ ∀ (s : State) (x : Nat),
    (x % 64 ≠ 0 ∨ x < 0x3000 ∨ 0x40000 < x + 32 → s.recordFault x = .badLink)
    ∧ (x % 64 = 0 → 0x3000 ≤ x → x + 32 ≤ 0x40000 →
        (4096 < 32 + s.bodyLength x ∨ 0x40000 < x + 32 + s.bodyLength x → s.recordFault x = .badLength)
        ∧ (32 + s.bodyLength x ≤ 4096 → x + 32 + s.bodyLength x ≤ 0x40000 →
            (s.store.read (x + 4) ≠ 1 → s.recordFault x = .notNew)
            ∧ (s.store.read (x + 4) = 1 → s.recordFault x = .noFault)))

/-- STOP and any other command value: NONE stands in the command word afterwards; a STOP sends a chain OFF by the table
of R193, at the end of the record in hand when there is one, and keeps a FAULTED chain's fault code; a DELIVERY chain
that it takes out of RUNNING drops the frames that wait into the delivery-miss count and its word, each giving its buffer
back, which is reported to the stations that wait for one (R115, R154, R156); any other value has no effect on a chain;
while STOPPED the word just keeps what was written, a STOP too (R193, R186). The model's choices: the arbiter runs at the
end of the step (log 10), and the count's word is written when no frame waits too (log 61). -/
def Obligations.StopTable : Prop :=
  (∀ (c : Chain) (s : State), s.Sound → s.requests.runState = .running → ∃ t, exec (.stop c) s = .next t
    ∧ t.storeWord (commandWord c) = 0 ∧ (∀ d, d ≠ c → t.chain d = s.chain d)
    ∧ t.chain c = (match (s.chain c).phase with
        | .running => if (s.chain c).inHand.isSome then { s.chain c with stopping := true }
            else { s.chain c with phase := .off }
        | .parked => { s.chain c with phase := .off }
        | .faulted => { s.chain c with phase := .off }
        | .off => s.chain c)
    ∧ (c ≠ .delivery ∨ (s.chain c).phase ≠ .running ∨ (s.chain c).inHand ≠ none → t.withLogOf s = s)
    ∧ (c = .delivery → (s.chain c).phase = .running → (s.chain c).inHand = none →
        let n := s.net.delivery.length
        ∃ u : State, t = u.afterReturns n
          ∧ u.net = { s.net with delivery := [], freeBuffers := s.net.freeBuffers + n }
          ∧ u.requests.deliveryMiss = s.requests.deliveryMiss + BitVec.ofNat 32 n
          ∧ u.storeWord offDeliveryMiss = u.requests.deliveryMiss ∧ (u.withLogOf s).setNet s.net = s))
  ∧ (∀ (c : Chain) (s : State), s.Sound → s.requests.runState = .stopped → ∃ t, exec (.stop c) s = .next t
      ∧ t.storeWord (commandWord c) = 1 ∧ t.setStore s.store = s
      ∧ ∀ a, a < commandWord c ∨ commandWord c + 4 ≤ a → t.store.read a = s.store.read a)
  ∧ (∀ (c : Chain) (v : Word) (s : State), s.Sound → s.requests.runState = .running → v ≠ 1 →
      ∃ t, exec (.commandOtherValue c v) s = .next t ∧ t.storeWord (commandWord c) = 0 ∧ t.setStore s.store = s
        ∧ ∀ a, a < commandWord c ∨ commandWord c + 4 ≤ a → t.store.read a = s.store.read a)
  ∧ ∀ (c : Chain) (v : Word) (s : State), s.Sound → s.requests.runState = .stopped → v ≠ 1 →
      ∃ t, exec (.commandOtherValue c v) s = .next t ∧ t.storeWord (commandWord c) = v ∧ t.setStore s.store = s
        ∧ ∀ a, a < commandWord c ∨ commandWord c + 4 ≤ a → t.store.read a = s.store.read a

/-- LINK_WORD_WRITE, whole or of some bytes: the word written holds the enabled bytes of the value and its own others, and
that word is what the part reads. On the link word of the one chain parked on that record it keeps the chain PARKED (0),
resumes it on the record named, taken when it passes the checks of R194 and FAULTED with the code of the one it fails, or
faults it BAD_LINK; on a head or command word it acts as the whole write of that word does; a write while STOPPED, or to a
word nobody watches, in record space or below it, changes that word alone, and one with no byte enabled nothing (R189, R194,
R196). That any store word may be written by this row is the model's choice (log 4). -/
def Obligations.LinkWrites : Prop :=
  let merged := fun (s : State) (off : BitVec 18) (v : Word) (e : BitVec 4) (w : Word) => ∀ i : Fin 4,
    (w >>> (8 * i.val)).setWidth 8
      = if e.getLsbD i then (v >>> (8 * i.val)).setWidth 8 else s.store.read (off.toNat + i)
  (∀ (off : BitVec 18) (v w : Word) (e : BitVec 4) (c : Chain) (s : State), s.Sound → s.requests.runState = .running →
    off.toNat % 4 = 0 → recordSpace ≤ off.toNat → e ≠ 0 → merged s off v e w →
    (s.chain c).phase = .parked → (s.chain c).current.toNat = off.toNat →
    (∀ d, d ≠ c → (s.chain d).phase = .parked → (s.chain d).current.toNat ≠ off.toNat) →
    ∃ t, exec (.linkWordWrite off v e) s = .next t ∧ (∀ d, d ≠ c → t.chain d = s.chain d) ∧ t.withLogOf s = s
      ∧ t.storeWord off.toNat = (if c ≠ .delivery ∧ w.toNat + 4 = off.toNat then t.storeWord off.toNat else w)
      ∧ (w = 0 → t.chain c = s.chain c)
      ∧ (w ≠ 0 → goodOffset w.toNat = false → t.chain c = { s.chain c with
          phase := .faulted, current := w, fault := .badLink, inHand := none, stopping := false } ∧ t.Pending .fault)
      ∧ (goodOffset w.toNat = true → WentTo t c (s.chain c) w)
      ∧ (goodOffset w.toNat = true → c ≠ .delivery → off.toNat ≤ w.toNat ∨ w.toNat + 32 ≤ off.toNat →
          (s.recordFault w.toNat = .noFault → (t.chain c).phase = .running)
          ∧ (s.recordFault w.toNat ≠ .noFault →
              (t.chain c).phase = .faulted ∧ (t.chain c).fault = s.recordFault w.toNat)))
  ∧ (∀ (off : BitVec 18) (v w : Word) (e : BitVec 4) (c : Chain) (s : State), s.Sound → e ≠ 0 → merged s off v e w →
      (off.toNat = headWord c → exec (.linkWordWrite off v e) s = exec (.headWrite c w) s)
      ∧ (off.toNat = commandWord c → exec (.linkWordWrite off v e) s
          = if w = 1 then exec (.stop c) s else exec (.commandOtherValue c w) s))
  ∧ (∀ (off : BitVec 18) (v : Word) (s : State), s.Sound → exec (.linkWordWrite off v 0) s = .next s)
  ∧ ∀ (off : BitVec 18) (v : Word) (e : BitVec 4) (s : State), s.Sound → off.toNat % 4 = 0 →
      (s.requests.runState = .stopped ∨ ∀ c, off.toNat ≠ headWord c ∧ off.toNat ≠ commandWord c
        ∧ ((s.chain c).phase = .parked → (s.chain c).current.toNat ≠ off.toNat)) →
      ∃ t, exec (.linkWordWrite off v e) s = .next t ∧ t.setStore s.store = s
        ∧ (∀ a, a < off.toNat ∨ off.toNat + 4 ≤ a → t.store.read a = s.store.read a)
        ∧ ∀ i : Fin 4, t.store.read (off.toNat + i)
            = if e.getLsbD i then (v >>> (8 * i.val)).setWidth 8 else s.store.read (off.toNat + i)

/-- DELIVERY_FILL with a frame waiting: a BUFFER record at current is taken and finished DONE with the descriptor and the
frame, cut to the room; a record of another kind fails BAD_KIND and one with no room for the descriptor SHORT_RECORD, the
frame left waiting; a record that fails its checks faults the chain. DELIVERED is raised if told. The chain stays RUNNING
on the record the link names, parks on END, or goes OFF after a STOP; leaving RUNNING drops the frames that wait into the
delivery-miss count, and every frame filled or dropped gives its buffer back, each reported to the stations that wait for
one. The entry's current word holds current, whatever the host had left there. With no frame waiting, or the chain not
RUNNING, nothing happens (R115, R154, R156, R192, R197). The model's choices: a FAILED record raises DELIVERED too (log 23);
a fill without a frame (log 47); the length and the bytes of the frame hold its check sequence (log 1, log 49); the miss
count's word is written also when no frame waits (log 61); the arbiter runs at the end of the step (log 10). -/
def Obligations.DeliveryFills : Prop :=
  (∀ s : State, s.net.delivery = [] ∨ (s.chain .delivery).phase ≠ .running → s.Settled → exec .deliveryFill s = .next s)
  ∧ ∀ (s : State) (d : Delivery) (rest : List Delivery) (x : Nat), s.Sound → s.net.delivery = d :: rest →
      (s.chain .delivery).phase = .running → (s.chain .delivery).current.toNat = x →
      d.frame.toBytes.length < 65536 →
      let r := s.readRecord x
      let n := s.bodyLength x
      let length := d.frame.toBytes.length
      let left := fun (waiting : List Delivery) (filled : Nat) (t : State) =>
        if (s.chain .delivery).stopping = true ∨ s.storeWord x = 0 then
          t.net = { s.net with delivery := [], freeBuffers := s.net.freeBuffers + filled + waiting.length }
          ∧ t.requests.deliveryMiss = s.requests.deliveryMiss + BitVec.ofNat 32 waiting.length
          ∧ t.storeWord offDeliveryMiss = t.requests.deliveryMiss
        else t.net = { s.net with delivery := waiting, freeBuffers := s.net.freeBuffers + filled }
          ∧ t.requests.deliveryMiss = s.requests.deliveryMiss ∧ (t.chain .delivery).phase = .running
      let back := fun (waiting : List Delivery) (filled : Nat) (t : State) => exec .deliveryFill s = .next
        (t.afterReturns (filled + if (s.chain .delivery).stopping = true ∨ s.storeWord x = 0 then waiting.length else 0))
      let own := fun a => decide (offDeliveryMiss ≤ a) && decide (a < offDeliveryMiss + 4)
      let kept := fun t : State => (t.withLogOf s).setNet s.net = s
        ∧ t.storeWord (dirEntry .delivery + 12) = (t.chain .delivery).current
      (s.recordFault x ≠ .noFault → ∃ t : State, exec .deliveryFill s = .next (t.afterReturns (d :: rest).length)
        ∧ t.chain .delivery = { s.chain .delivery with
            phase := .faulted, fault := s.recordFault x, inHand := none, stopping := false }
        ∧ t.Pending .fault ∧ (∀ c, c ≠ .delivery → t.chain c = s.chain c)
        ∧ t.net = { s.net with delivery := [], freeBuffers := s.net.freeBuffers + (d :: rest).length }
        ∧ t.requests.deliveryMiss = s.requests.deliveryMiss + BitVec.ofNat 32 (d :: rest).length
        ∧ (∀ a, recordSpace ≤ a → t.store.read a = s.store.read a) ∧ kept t)
      ∧ (s.recordFault x = .noFault → r.kind ≠ 0x51 → ∃ t : State, back (d :: rest) 0 t
        ∧ Answered s t .delivery r (.plain .badKind []) own ∧ left (d :: rest) 0 t ∧ kept t)
      ∧ (s.recordFault x = .noFault → r.kind = 0x51 → n < 8 → ∃ t : State, back (d :: rest) 0 t
        ∧ Answered s t .delivery r (.plain .shortRecord []) own ∧ left (d :: rest) 0 t ∧ kept t)
      ∧ (s.recordFault x = .noFault → r.kind = 0x51 → 8 ≤ n → ∃ t : State, back rest 1 t
        ∧ Answered s t .delivery r { code := .ok, done := true, parts := []
                                     flags := { ResultFlags.clear with cut := decide (n - 8 < length) } } own
        ∧ t.store.readBytes (x + 32) 8 = leBytes 2 length ++ leBytes 2 (min length (n - 8))
            ++ leBytes 1 (Port.index d.ingress) ++ leBytes 1 d.reason.code ++ zeros 2
        ∧ t.store.readBytes (x + 40) (min length (n - 8)) = d.frame.toBytes.take (n - 8)
        ∧ left rest 1 t ∧ kept t)

/-! ### SETUP requests -/

/-- SET_PORT_ROLES: BUSY in a session; BAD_FORM for a body out of form; else DONE with the roles, addresses and
EtherTypes of the body in place. Each port whose role changed loses the frames of its queue, counted UNKNOWN, its station
records, and with the GUEST, TILL or LABEL role its guest sessions, till sessions or base stations; it sends a resume or
pause frame when it loses or gains GUEST while paused; a moved uplink frees the class queues, ends the pause and gives
the Exchange Unit its link state; each till signed off and each station lost has its notice; every buffer freed is reported
to the stations that wait for one (R115). The form: exactly one UPLINK, three different unicast addresses, two different
EtherTypes of at least 0x0600 (R146, R49, R121, R174). The pause operation's code is log 36; that a port whose link is
down sends no pause frame is log 29; that a session is BUSY whatever the body holds is log 51; the notices' order, port by
port and in till id order within a port, is log 39; the arbiter's runs stand at the end of the step (log 10); the guest
session count is written also when a port that loses GUEST had none (log 61). -/
def Obligations.PortRolesSet : Prop :=
  (∀ q : RoleSettings, q.inForm = true ↔
    (∃ p, q.roles.get p = some .uplink ∧ ∀ p', q.roles.get p' = some .uplink → p' = p)
    ∧ (∀ a ∈ [q.appliance, q.controller, q.gateway], isGroup a = false)
    ∧ [q.appliance, q.controller, q.gateway].Nodup
    ∧ 0x0600 ≤ q.tillType.toNat ∧ 0x0600 ≤ q.labelType.toNat ∧ q.tillType ≠ q.labelType)
  ∧ ∀ (s : State) (r : RecordInHand), InHand s .setup Kind.setPortRoles r →
    (s.exchange.state ≠ .idle → ∃ t, exec .setPortRoles s = .next t
      ∧ Answered s t .setup r (.plain .busy []) noBytes ∧ t.withLogOf s = s)
    ∧ (s.exchange.state = .idle → (∀ q, roleSettingsOf r.body = some q → q.inForm = false) →
        ∃ t, exec .setPortRoles s = .next t ∧ Answered s t .setup r (.plain .badForm []) noBytes ∧ t.withLogOf s = s)
    ∧ ∀ q, s.exchange.state = .idle → roleSettingsOf r.body = some q → q.inForm = true →
        ∃ t, exec .setPortRoles s = .next t
          ∧ Answered s t .setup r (.plain .ok []) (fun a => decide (a < recordSpace))
          ∧ (∀ p, (t.port p).role = q.roles.get p) ∧ t.net.appliance = q.appliance ∧ t.net.controller = q.controller
          ∧ t.net.gateway = q.gateway ∧ t.net.tillType = q.tillType ∧ t.net.labelType = q.labelType
          ∧ (∀ e ∈ t.net.stations, e ∈ s.net.stations ∧ (s.port e.2.port).role = (t.port e.2.port).role)
          ∧ (∀ p, (t.port p).linkUp = (s.port p).linkUp)
          ∧ (let loses := fun (p : Port) (x : Role) => (s.port p).role = some x ∧ q.roles.get p ≠ some x
             t.net.stations = s.net.stations.filter (fun e => decide ((s.port e.2.port).role = q.roles.get e.2.port))
             ∧ t.guests = { s.guests with
                 sessions := s.guests.sessions.filter (fun e => !decide (loses e.2.port .guest)) }
             ∧ ((∃ p, loses p .guest) → t.storeWord offGuests = BitVec.ofNat 32 t.guests.sessions.length)
             ∧ (∀ n e, s.till n = some e → t.till n = some
                 (if e.phase = .signedOn ∧ ∃ p, e.port = some p ∧ loses p .till then { e with phase := .signedOff } else e))
             ∧ (∀ n b, s.station n = some b → ∃ x, t.station n = some x
                 ∧ (if b.phase = .active ∧ loses b.port .label then x.phase = .lost ∧ x.inFlight = []
                    else x.phase = b.phase))
             ∧ t.exchange = (if t.net.uplink = s.net.uplink then s.exchange
                 else { s.exchange with uplinkUp := (t.net.uplink.map (fun u => (s.port u).linkUp)).getD false })
             ∧ ((s.link.table.map BaseStation.id).Nodup → PostedAll s t (Port.all.flatMap (fun p =>
                 (if loses p .till then tillIds.filterMap (fun n => (s.till n).bind (fun e =>
                     if e.phase = .signedOn ∧ e.port = some p then some (.tillSignedOff, n, e.quotes.toNat) else none)) else [])
                 ++ (if loses p .label then s.link.table.filterMap (fun b =>
                     if b.phase = .active ∧ b.port = p then some (.baseStationLost, b.id, b.inFlight.length) else none)
                   else []))))
             ∧ (let moved := s.net.uplink ≠ none ∧ t.net.uplink ≠ s.net.uplink
                let queued := s.net.classes.payment.length + s.net.classes.store.length + s.net.classes.exchange.length
                  + s.net.classes.guest.length
                let freed := fun p : Port => (if (s.port p).role = q.roles.get p then 0 else (s.port p).lan.length)
                  + (if moved ∧ s.net.uplink = some p then queued else 0)
                let total := freed .p0 + freed .p1 + freed .p2 + freed .p3 + freed .p4
                let sent := fun (p : Port) (k : PauseFrame) (c : Prop) [Decidable c] =>
                  if c ∧ s.net.paused = true ∧ (s.port p).linkUp = true then [t.pauseFrame k] else []
                ∃ u : State, t = u.settle ∧ u.link.due.count .bufferReturned = total
                  ∧ (∀ p, u.port p = { s.port p with
                    role := q.roles.get p
                    lan := if (s.port p).role = q.roles.get p then (s.port p).lan else []
                    counters := (s.port p).counters.drops .unknown (freed p)
                    control := (s.port p).control ++ sent p .resume (loses p .guest)
                      ++ sent p .pause ((s.port p).role ≠ some .guest ∧ q.roles.get p = some .guest)
                      ++ sent p .resume (moved ∧ q.roles.get p = some .guest) })
                  ∧ u.net.classes = (if moved then ⟨[], [], [], []⟩ else s.net.classes)
                  ∧ u.net.paused = (if moved then false else s.net.paused)
                  ∧ u.net.freeBuffers = s.net.freeBuffers + total
                  ∧ ((∀ b ∈ s.link.table, b.phase = .active → ¬ loses b.port .label) →
                      u.link = { s.link with due := List.replicate total .bufferReturned } ∧ u.labels = s.labels)
                  ∧ ((∀ b ∈ s.link.table, b.phase = .active → loses b.port .label → ∀ r ∈ b.inFlight, ∀ l h,
                      s.label r.label = some l → l.home = some h → h = b.id) →
                      t = (u.setLink { u.link with due := [] }).afterReturns total)))

/-- Step 1 of R195, the same for every request row, and SET_SLOT_TABLES. A row whose chain has no record in hand, or one
of the chain's other kinds, changes nothing (the model's choice, log 3); a record whose kind is none of its chain's fails
BAD_KIND, and one shorter than its kind's fixed fields BAD_FORM. The kinds of the six chains are those of R206.
SET_SLOT_TABLES: both tables hold the classes of the body, or BAD_FORM and both are left (R191, R195, R160). -/
def Obligations.SlotTablesSet : Prop :=
  (∀ (c : Instr) (ch : Chain) (k : RequestKind) (s : State), requestRow c = some (ch, k) → s.Sound →
    ((s.chain ch).inHand = none → exec c s = .next s)
    ∧ ∀ r, (s.chain ch).phase = .running → (s.chain ch).inHand = some r → goodOffset r.offset = true →
        32 + r.body.length ≤ 4096 → r.offset + 32 + r.body.length ≤ storeEnd →
        (r.kind ∉ chainKinds ch → ∃ t, exec c s = .next t
          ∧ Answered s t ch r (.plain .badKind []) noBytes ∧ t.withLogOf s = s)
        ∧ (r.kind ∈ chainKinds ch → r.kind ≠ k.code → exec c s = .next s)
        ∧ (r.kind = k.code → r.body.length < k.fixed → ∃ t, exec c s = .next t
          ∧ Answered s t ch r (.plain .badForm []) noBytes ∧ t.withLogOf s = s))
  ∧ (∀ n, (n ∈ chainKinds .setup ↔ 0x01 ≤ n ∧ n ≤ 0x0A) ∧ (n ∈ chainKinds .price ↔ 0x11 ≤ n ∧ n ≤ 0x17)
    ∧ (n ∈ chainKinds .label ↔ n = 0x06 ∨ (0x21 ≤ n ∧ n ≤ 0x25)) ∧ (n ∈ chainKinds .net ↔ 0x31 ≤ n ∧ n ≤ 0x35)
    ∧ (n ∈ chainKinds .exchange ↔ 0x41 ≤ n ∧ n ≤ 0x43) ∧ (n ∈ chainKinds .delivery ↔ n = 0x51))
  ∧ ∀ (s : State) (r : RecordInHand), InHand s .setup Kind.setSlotTables r →
    ((∀ i, i < 64 → leField r.body i 1 ≤ 3) → ∃ t, exec .setSlotTables s = .next t
      ∧ Answered s t .setup r (.plain .ok []) noBytes
      ∧ (∀ i : Fin 32, UplinkClass.ofCode (leField r.body i 1) = some t.net.day[i])
      ∧ (∀ i : Fin 32, UplinkClass.ofCode (leField r.body (32 + i) 1) = some t.net.night[i])
      ∧ (t.withLogOf s).setNet s.net = s ∧ { t.net with day := s.net.day, night := s.net.night } = s.net)
    ∧ ((∃ i, i < 64 ∧ 3 < leField r.body i 1) → ∃ t, exec .setSlotTables s = .next t
      ∧ Answered s t .setup r (.plain .badForm []) noBytes ∧ t.withLogOf s = s)

/-- SET_PACER: caps, levels, rate and depth clamped, the pause level against the GUEST cap and the resume level against
the pause level; the token count is only limited to D; ADJUSTED when anything was clamped (R155, R157, R158). -/
def Obligations.PacerSet : Prop :=
  ∀ (s : State) (r : RecordInHand), InHand s .setup Kind.setPacer r → ∃ t, exec .setPacer s = .next t
    ∧ (let b := r.body
       let clamp := fun lo hi v => max lo (min hi v)
       let guest := clamp 1 1024 (leField b 16 2)
       let pause := clamp 1 guest (leField b 18 2)
       let resume := clamp 0 (pause - 1) (leField b 20 2)
       let rate := clamp 1000 1000000 (leField b 24 4)
       let depth := clamp 12144 8000000 (leField b 28 4)
       (t.withLogOf s).setNet s.net = s
       ∧ (∀ p, t.port p = { s.port p with lanCap := clamp 1 1024 (leField b (2 * Port.index p) 2) })
       ∧ { t.net with ports := s.net.ports } = { s.net with
            classCaps := ⟨clamp 1 1024 (leField b 10 2), clamp 1 1024 (leField b 12 2), clamp 1 1024 (leField b 14 2), guest⟩
            pauseLevel := pause, resumeLevel := resume, rate := rate, depth := depth
            tokens := min s.net.tokens depth }
       ∧ Answered s t .setup r (.adjusted (decide ((pacerOf b).clamped ≠ pacerOf b)) []) noBytes)

/-- SET_PLAUSIBILITY and SET_GUEST_POLICY: each value clamped into its range, ADJUSTED when one was (R40, R165). -/
def Obligations.PercentagesAndPolicySet : Prop :=
  (∀ (s : State) (r : RecordInHand), InHand s .setup Kind.setPlausibility r → ∃ t, exec .setPlausibility s = .next t
    ∧ t.price = { s.price with down := min 100 (leField r.body 0 2), up := min 1000 (leField r.body 2 2) }
    ∧ (t.withLogOf s).setPrice s.price = s
    ∧ Answered s t .setup r
        (.adjusted (decide (100 < leField r.body 0 2 ∨ 1000 < leField r.body 2 2)) []) noBytes)
  ∧ ∀ (s : State) (r : RecordInHand), InHand s .setup Kind.setGuestPolicy r → ∃ t, exec .setGuestPolicy s = .next t
    ∧ t.guests = { s.guests with
        defaultBudget := max 1048576 (leField r.body 0 4), defaultLimit := max 60 (min 86400 (leField r.body 4 4)) }
    ∧ (t.withLogOf s).setGuests s.guests = s
    ∧ Answered s t .setup r (.adjusted (decide (leField r.body 0 4 < 1048576 ∨ leField r.body 4 4 < 60
        ∨ 86400 < leField r.body 4 4)) []) noBytes

/-- SET_LABEL_PARAMS: the maximum attempts clamped into 1-8 and S brought to an allowed value; a request that changes S
offers a CYCLE_SET with the new S to every ACTIVE station in table order, each at its port, and one that leaves S as it
was sends nothing and changes nothing else (R93, R104, R111, R112). -/
def Obligations.LabelParamsSet : Prop :=
  ∀ (s : State) (r : RecordInHand), InHand s .setup Kind.setLabelParams r → ∃ t, exec .setLabelParams s = .next t
    ∧ (let v := leField r.body 2 2
       let slots := if v < 128 then 64 else if v < 256 then 128 else if v < 512 then 256 else if v < 1024 then 512 else 1024
       t.labels = { s.labels with maxAttempts := max 1 (min 8 (leField r.body 0 1)) }
       ∧ t.link = { s.link with slots := slots }
       ∧ (((t.withLogOf s).setLabels s.labels).setLink s.link).setNet s.net = s
       ∧ (slots = s.link.slots → t.net = s.net)
       ∧ (slots ≠ s.link.slots →
           let cycle := fun b : BaseStation => s.makeFrame b.address s.net.labelType
             (beBytes 1 2 ++ beBytes 2 b.id ++ beBytes 2 slots ++ beBytes 2 25)
           let actives := s.link.table.filter (fun b => b.phase == .active)
           let at_ := fun p : Port => (actives.filter (fun b => b.port == p)).map cycle
           (actives = [] → t.net = s.net)
           ∧ (∀ b, actives = [b] → LanOffered s t b.port (cycle b))
           ∧ (actives.length ≤ s.net.freeBuffers →
               (∀ p, at_ p ≠ [] → (s.port p).linkUp = true ∧ (s.port p).lan.length + (at_ p).length ≤ (s.port p).lanCap) →
               (∀ p, t.port p = { s.port p with lan := (s.port p).lan ++ at_ p })
               ∧ { t.net with ports := s.net.ports } = { s.net with freeBuffers := s.net.freeBuffers - actives.length }))
       ∧ Answered s t .setup r (.adjusted (decide (leField r.body 0 1 < 1 ∨ 8 < leField r.body 0 1 ∨ slots ≠ v)) [])
          noBytes)

/-- LOAD_TEMPLATE, on either chain: BAD_FORM for an id above 255 or an unknown colour code, BUSY while a directory record
names the template, else the template stored, clamped into its grid: rows and columns, then each corner of each window
into the grid, then each last row and column to at least its first; ADJUSTED when anything was changed (R80). That a bad
colour code is found before BUSY is the model's choice (log 41). -/
def Obligations.TemplateLoaded : Prop :=
  ∀ (c : Chain) (s : State) (r : RecordInHand), c = .setup ∨ c = .label → InHand s c Kind.loadTemplate r →
    ((255 < leField r.body 0 2 ∨ 1 < leField r.body 4 1) → ∃ t, exec (.loadTemplate c) s = .next t
      ∧ Answered s t c r (.plain .badForm []) noBytes ∧ t.withLogOf s = s)
    ∧ (leField r.body 0 2 ≤ 255 → leField r.body 4 1 ≤ 1 →
        ((∃ e ∈ s.labels.directory, e.2.template = leField r.body 0 2) → ∃ t, exec (.loadTemplate c) s = .next t
          ∧ Answered s t c r (.plain .busy []) noBytes ∧ t.withLogOf s = s)
        ∧ ((∀ e ∈ s.labels.directory, e.2.template ≠ leField r.body 0 2) → ∃ t w, exec (.loadTemplate c) s = .next t ∧
          let clamp := fun lo hi v => max lo (min hi v)
          let columns := clamp 1 64 (leField r.body 2 1)
          let rows := clamp 1 32 (leField r.body 3 1)
          let window := fun off : Nat =>
            let firstCol := clamp 1 columns (leField r.body off 1)
            let firstRow := clamp 1 rows (leField r.body (off + 1) 1)
            ({ firstCol := firstCol, firstRow := firstRow
               lastCol := max firstCol (clamp 1 columns (leField r.body (off + 2) 1))
               lastRow := max firstRow (clamp 1 rows (leField r.body (off + 3) 1)) } : Window)
          let moved := fun off : Nat => leField r.body off 1 ≠ (window off).firstCol
            ∨ leField r.body (off + 1) 1 ≠ (window off).firstRow ∨ leField r.body (off + 2) 1 ≠ (window off).lastCol
            ∨ leField r.body (off + 3) 1 ≠ (window off).lastRow
          t.labels.templates.find (leField r.body 0 2) = some w
          ∧ (∀ id, id ≠ leField r.body 0 2 → t.labels.templates.find id = s.labels.templates.find id)
          ∧ { t.labels with templates := s.labels.templates } = s.labels ∧ (t.withLogOf s).setLabels s.labels = s
          ∧ w = { columns := columns, rows := rows, colour := leField r.body 4 1 == 1, text := window 6
                  price := window 10, unitPrice := window 14, promo := window 18 }
          ∧ (∀ x ∈ [w.text, w.price, w.unitPrice, w.promo],
              1 ≤ x.firstCol ∧ x.firstCol ≤ x.lastCol ∧ x.lastCol ≤ w.columns
              ∧ 1 ≤ x.firstRow ∧ x.firstRow ≤ x.lastRow ∧ x.lastRow ≤ w.rows)
          ∧ Answered s t c r (.adjusted (decide (leField r.body 2 1 ≠ columns ∨ leField r.body 3 1 ≠ rows
              ∨ moved 6 ∨ moved 10 ∨ moved 14 ∨ moved 18)) []) noBytes))

/-- SET_EXCHANGE_PARAMS: BUSY in a session; else every parameter clamped, ADJUSTED when one was, the last batch set to the
base batch number, the window handed to the clock and the alert level to the journal, whose side is tested: JOURNAL_LEVEL,
UP or DOWN with the units used, is posted when it changes (R122, R182, R67). -/
def Obligations.ExchangeParamsSet : Prop :=
  ∀ (s : State) (r : RecordInHand), InHand s .setup Kind.setExchangeParams r →
    (s.exchange.state ≠ .idle → ∃ t, exec .setExchangeParams s = .next t
      ∧ Answered s t .setup r (.plain .busy []) noBytes ∧ t.withLogOf s = s)
    ∧ (s.exchange.state = .idle → ∃ t, exec .setExchangeParams s = .next t
      ∧ (let b := r.body
         let clamp := fun lo hi v => max lo (min hi v)
         t.exchange = { s.exchange with
            branchId := BitVec.ofNat 32 (leField b 0 4), ownIp := BitVec.ofNat 32 (beField b 4 4)
            serverIp := BitVec.ofNat 32 (beField b 8 4), udpPort := clamp 1 65535 (leField b 12 4)
            retransmit := clamp 500 10000 (leField b 24 4), maxTries := clamp 1 10 (leField b 28 4)
            idleLimit := clamp 5 600 (leField b 32 4), lastBatch := leField b 36 4, paramsSet := true }
         ∧ t.clock = { s.clock with windowStart := min 86399999 (leField b 16 4), windowEnd := min 86399999 (leField b 20 4) }
         ∧ t.journal.alertLevel = clamp 1 114688 (leField b 40 4) ∧ t.journal.side = t.journal.sideNow
         ∧ LevelTold s t
         ∧ { t.journal with alertLevel := s.journal.alertLevel, side := s.journal.side } = s.journal
         ∧ (((t.withLogOf s).setExchange s.exchange).setClock s.clock).setJournal s.journal = s
         ∧ Answered s t .setup r (.adjusted (decide (leField b 12 4 ≠ clamp 1 65535 (leField b 12 4)
             ∨ 86399999 < leField b 16 4 ∨ 86399999 < leField b 20 4 ∨ leField b 24 4 ≠ clamp 500 10000 (leField b 24 4)
             ∨ leField b 28 4 ≠ clamp 1 10 (leField b 28 4) ∨ leField b 32 4 ≠ clamp 5 600 (leField b 32 4)
             ∨ leField b 40 4 ≠ clamp 1 114688 (leField b 40 4))) []) logBytes))

/-- SET_CLOCK: the time of day stands at the given pair, clamped, with the present count as its base; in MANUAL mode
nothing else moves; in SCHEDULED mode the period is the one the schedule gives at the new time, OPEN from the open time
on and before the close time, or past midnight from the one on or before the other, and a switch is posted with source
CLOCK. It reaches no set time itself; one that a step before it has reached is acted on first (R177, R178, R180, R181,
R183). That such a set time waits as a due mark is the model's choice (log 12). -/
def Obligations.ClockSet : Prop :=
  ∀ (s : State) (r : RecordInHand), InHand s .setup Kind.setClock r →
    (∃ t, exec .setClock s = .next t
      ∧ (let day := min 65535 (leField r.body 0 4)
         let ms := min 86399999 (leField r.body 4 4)
         let placed := s.setClock { s.clock with base := some { day := day, ms := ms, count := s.clock.count } }
         let due := s.clock.openDue = true ∨ s.clock.closeDue = true ∨ s.clock.windowDue = true
         t.clock.base = placed.clock.base ∧ t.clock.count = s.clock.count
         ∧ t.storeWord offDay = BitVec.ofNat 32 day ∧ t.storeWord offMsOfDay = BitVec.ofNat 32 ms
         ∧ t.storeWord offClockSet = 1 ∧ t.clock.mode = s.clock.mode
         ∧ t.clock.openDue = false ∧ t.clock.closeDue = false ∧ t.clock.windowDue = false
         ∧ (s.clock.mode = .manual → ¬ due → (t.withLogOf s).setClock s.clock = s ∧ t.clock.period = s.clock.period
             ∧ t.requests.written = s.requests.written)
         ∧ (∀ o c, s.clock.mode = .scheduled o c → t.clock.period = schedulePeriod o c ms
             ∧ (o < c → (t.clock.period = .opened ↔ o ≤ ms ∧ ms < c))
             ∧ (c < o → (t.clock.period = .opened ↔ o ≤ ms ∨ ms < c))
             ∧ (¬ due → t.clock.period = s.clock.period → (t.withLogOf s).setClock s.clock = s
                 ∧ t.requests.written = s.requests.written)
             ∧ (¬ due → t.clock.period ≠ s.clock.period → Posted placed t .periodChanged 0 (twoParts t.clock.period.code 3)
                 ∧ t.storeWord offPeriod = BitVec.ofNat 32 t.clock.period.code))
         ∧ Answered s t .setup r (.adjusted (decide (65535 < leField r.body 0 4 ∨ 86399999 < leField r.body 4 4)) [])
            (fun a => decide (a < recordSpace))))
    ∧ (s.clock.openDue = true → ∃ u, exec .openTimeReached s = .next u ∧ exec .setClock s = exec .setClock u)
    ∧ (s.clock.openDue = false → s.clock.closeDue = true → (∀ b ∈ s.link.table, b.waitingForBuffer = false) →
        ∃ u, exec .closeTimeReached s = .next u ∧ exec .setClock s = exec .setClock u)
    ∧ (s.clock.openDue = false → s.clock.closeDue = false → s.clock.windowDue = true →
        ∃ u, exec .windowStartReached s = .next u ∧ exec .setClock s = exec .setClock u)

/-- SET_PERIOD: MANUAL switches to the period given, if it differs, and drops any schedule; SCHEDULED is refused
without a clock, BAD_FORM when its clamped times are equal, and else sets the period the schedule gives now, ADJUSTED
when a time was clamped. A switch is posted with source REQUEST. The result carries the period and the mode after it. An
unknown mode or period code is BAD_FORM (R179, R180, R181). That a failed request writes the period and mode held is the
model's choice (log 14), and so are the split of the records between the two rows (log 31), the due marks that a taken
request drops (log 12), the clear adjusted flag of a request that fails on times made equal by clamping (log 54), and the
period byte of a SCHEDULED request, which is not read (log 59). -/
def Obligations.PeriodSet : Prop :=
  (∀ (s : State) (r : RecordInHand), InHand s .setup Kind.setPeriod r → leField r.body 0 1 ≠ 1 →
    ((leField r.body 0 1 = 0 ∧ leField r.body 1 1 ≤ 1) → ∃ t, exec .setPeriodManual s = .next t
      ∧ t.clock.mode = .manual ∧ t.clock.period.code = leField r.body 1 1 ∧ t.clock.base = s.clock.base
      ∧ t.clock.openDue = false ∧ t.clock.closeDue = false ∧ t.clock.windowDue = s.clock.windowDue
      ∧ (s.clock.period.code = leField r.body 1 1 → (t.withLogOf s).setClock s.clock = s
          ∧ t.requests.written = s.requests.written)
      ∧ (s.clock.period.code ≠ leField r.body 1 1 → Posted s t .periodChanged 0 (twoParts (leField r.body 1 1) 1)
          ∧ t.storeWord offPeriod = BitVec.ofNat 32 (leField r.body 1 1))
      ∧ Answered s t .setup r (.plain .ok [(12, leBytes 1 t.clock.period.code ++ leBytes 1 t.clock.mode.code ++ zeros 2)])
          (fun a => decide (a < recordSpace)))
    ∧ ((leField r.body 0 1 ≠ 0 ∨ 1 < leField r.body 1 1) → ∃ t, exec .setPeriodManual s = .next t ∧ t.withLogOf s = s
      ∧ Answered s t .setup r
          (.plain .badForm [(12, leBytes 1 s.clock.period.code ++ leBytes 1 s.clock.mode.code ++ zeros 2)]) noBytes))
  ∧ ∀ (s : State) (r : RecordInHand), InHand s .setup Kind.setPeriod r → leField r.body 0 1 = 1 →
      let o := min 86399999 (leField r.body 4 4)
      let c := min 86399999 (leField r.body 8 4)
      (s.clock.base = none → ∃ t, exec .setPeriodScheduled s = .next t ∧ t.withLogOf s = s
        ∧ Answered s t .setup r
            (.plain .refusedPeriod [(12, leBytes 1 s.clock.period.code ++ leBytes 1 s.clock.mode.code ++ zeros 2)]) noBytes)
      ∧ (∀ b, s.clock.base = some b → o = c → ∃ t, exec .setPeriodScheduled s = .next t ∧ t.withLogOf s = s
        ∧ Answered s t .setup r
            (.plain .badForm [(12, leBytes 1 s.clock.period.code ++ leBytes 1 s.clock.mode.code ++ zeros 2)]) noBytes)
      ∧ ∀ b, s.clock.base = some b → o ≠ c → ∃ t, exec .setPeriodScheduled s = .next t
        ∧ t.clock.mode = .scheduled o c ∧ t.clock.period = schedulePeriod o c (b.timeAt s.now).2
        ∧ (o < c → (t.clock.period = .opened ↔ o ≤ (b.timeAt s.now).2 ∧ (b.timeAt s.now).2 < c))
        ∧ (c < o → (t.clock.period = .opened ↔ o ≤ (b.timeAt s.now).2 ∨ (b.timeAt s.now).2 < c))
        ∧ t.clock.base = s.clock.base
        ∧ t.clock.openDue = false ∧ t.clock.closeDue = false ∧ t.clock.windowDue = s.clock.windowDue
        ∧ (t.clock.period = s.clock.period → (t.withLogOf s).setClock s.clock = s
            ∧ t.requests.written = s.requests.written)
        ∧ (t.clock.period ≠ s.clock.period → Posted s t .periodChanged 0 (twoParts t.clock.period.code 1)
            ∧ t.storeWord offPeriod = BitVec.ofNat 32 t.clock.period.code)
        ∧ Answered s t .setup r
            (.adjusted (decide (86399999 < leField r.body 4 4 ∨ 86399999 < leField r.body 8 4)) [(12, leBytes 1 t.clock.period.code ++ leBytes 1 t.clock.mode.code ++ zeros 2)])
            (fun a => decide (a < recordSpace))

/-! ### Price arithmetic -/

/-- The line amount of one version: B times q, or promotion groups and a remainder, or B times g over 1000 rounded half up;
a multi-buy never costs more than its pieces, and less once it forms a group; an amount above 99,999,999 is not valid. The
lower of two charges the lesser valid amount, a tie on CURRENT, and nothing only when no version is valid (R30-R34). -/
def Obligations.LineAmounts : Prop :=
  (∀ (v : Version) (q : Nat), v.promo = none → lineAmount .each v q = v.base * q)
  ∧ (∀ (v : Version) (p : Promotion) (q : Nat), v.promo = some p →
      lineAmount .each v q = q / p.n * p.t + q % p.n * v.base
      ∧ (promoValid .each v.base p = true →
          lineAmount .each v q ≤ v.base * q ∧ (p.n ≤ q → lineAmount .each v q < v.base * q)))
  ∧ (∀ (v : Version) (g : Nat), 1000 * lineAmount .weighed v g ≤ v.base * g + 500
      ∧ v.base * g + 500 < 1000 * lineAmount .weighed v g + 1000)
  ∧ (∀ (k : SaleKind) (v : Version) (q : Nat),
      validAmount k v q = if 99999999 < lineAmount k v q then none else some (lineAmount k v q))
  ∧ ∀ (i : Item) (q : Nat),
      (i.pending = none → lowerOfTwo i q = (validAmount i.saleKind i.current q).map (fun a => (a, Basis.current)))
      ∧ ∀ v, i.pending = some v →
          (lowerOfTwo i q = none ↔ validAmount i.saleKind i.current q = none ∧ validAmount i.saleKind v q = none)
          ∧ ∀ a b, lowerOfTwo i q = some (a, b) →
              (b = .current → validAmount i.saleKind i.current q = some a)
              ∧ (b = .pending → validAmount i.saleKind v q = some a)
              ∧ (∀ x, validAmount i.saleKind i.current q = some x → a ≤ x ∧ (a = x → b = .current))
              ∧ (∀ x, validAmount i.saleKind v q = some x → a ≤ x)

/-- The unit price is B for WEIGHED and B times RQ over PQ rounded half up for EACH, clamped at 9,999,999; a promotion is
valid exactly on EACH with N in 2-99, T in 1-9,999,999 and T below N times B; the plausibility window holds its bounds and
the properties the manual draws from them (R36, R38, R39). -/
def Obligations.UnitPromoWindow : Prop :=
  (∀ (i : Item) (b : Nat), i.saleKind = .weighed → b ≤ 9999999 → unitPriceOf i b = (b, false))
  ∧ (∀ (i : Item) (b : Nat), i.saleKind = .each → 1 ≤ i.packQty → ∃ u,
      2 * i.packQty * u ≤ 2 * b * i.refQty + i.packQty ∧ 2 * b * i.refQty + i.packQty < 2 * i.packQty * (u + 1)
      ∧ unitPriceOf i b = if 9999999 < u then (9999999, true) else (u, false))
  ∧ (∀ (k : SaleKind) (b : Nat) (p : Promotion), promoValid k b p = true ↔
      k = .each ∧ 2 ≤ p.n ∧ p.n ≤ 99 ∧ 1 ≤ p.t ∧ p.t ≤ 9999999 ∧ p.t < p.n * b)
  ∧ ∀ (e : PriceEngine) (old new : Nat), e.down ≤ 100 →
      (insideWindow e old new = true ↔
        old * (100 - e.down) / 100 ≤ new ∧ new ≤ (old * (100 + e.up) + 99) / 100)
      ∧ (old * (100 + e.up) ≤ 100 * ((old * (100 + e.up) + 99) / 100)
          ∧ 100 * ((old * (100 + e.up) + 99) / 100) < old * (100 + e.up) + 100)
      ∧ insideWindow e old old = true
      ∧ (old = 0 → (insideWindow e old new = true ↔ new = 0))
      ∧ (e.down = 100 → new ≤ old → insideWindow e old new = true)
      ∧ (e.up = 0 → old < new → insideWindow e old new = false)

/-! ### PRICE requests -/

/-- An item entry is taken exactly when every field is in form and its promotion passes, and then enters with the
defaults of the item record, its version numbered 1; LOAD_ITEMS fails whole for a bad count or a short body; else each
entry's result is its form's, EXISTS for an article in the table or inserted by an earlier entry, TABLE_FULL, or OK with the
item inserted, and stands in the entry's last byte; the record's code is OK or that of the first entry not loaded, DONE when
one was loaded and FAILED when none was; no item in the table is touched (R24, R2). That the entries are taken in one step
is the model's choice (log 38). -/
def Obligations.ItemsLoaded : Prop :=
  (∀ (e : ItemEntry) (o : Nat), (∃ i, e.check o = .ok i) ↔
    (1 ≤ e.article ∧ e.article ≤ 99999999999999 ∧ 1 ≤ e.textLength ∧ e.textLength ≤ 24 ∧ e.saleKind ≤ 1 ∧ e.measure ≤ 2
      ∧ (e.saleKind = 1 → e.measure = 0) ∧ 1 ≤ e.packQty ∧ e.packQty ≤ 100000
      ∧ (e.saleKind = 0 → e.refQty = 1 ∨ e.refQty = 100 ∨ e.refQty = 1000) ∧ e.base ≤ 9999999
      ∧ ∀ p, e.promo = some p → e.saleKind = 0 ∧ promoValid .each e.base p = true))
  ∧ (∀ (e : ItemEntry) (o : Nat) (i : Item), e.check o = .ok i →
      i.article = e.article ∧ i.text = e.text.take e.textLength ∧ i.textRevision = 0 ∧ i.saleKind.code = e.saleKind
      ∧ i.measure.code = e.measure ∧ i.packQty = e.packQty ∧ i.refQty = (if e.saleKind = 1 then 1000 else e.refQty)
      ∧ i.current = { number := 1, base := e.base, promo := e.promo } ∧ i.pending = none ∧ i.waiting = none
      ∧ i.lastVersion = 1 ∧ i.labels = [] ∧ i.outstanding = 0 ∧ i.staleCount = 0 ∧ i.origin = o)
  ∧ ∀ (s : State) (r : RecordInHand), InHand s .price Kind.loadItems r → s.TablesBounded →
      let n := leField r.body 0 1
      let entry := fun k => itemEntryOf (r.body.drop (4 + 52 * k))
      (n = 0 ∨ 32 < n ∨ r.body.length < 4 + 52 * n → ∃ t, exec .loadItems s = .next t
        ∧ Answered s t .price r (.plain .badForm []) noBytes ∧ t.withLogOf s = s)
      ∧ (n = 1 → 56 ≤ r.body.length →
          let failed := fun c : Code => ∃ t, exec .loadItems s = .next t ∧ t.withLogOf s = s
            ∧ Answered s t .price r { code := c, done := false, flags := .clear, parts := [(55, leBytes 1 c.number)] } noBytes
          (∀ c, (entry 0).check 0 = .error c → failed c)
          ∧ ∀ i, (entry 0).check 0 = .ok i →
              (s.item i.article ≠ none → failed .exists_)
              ∧ (s.item i.article = none → 65536 ≤ s.price.items.length → failed .tableFull)
              ∧ (s.item i.article = none → s.price.items.length < 65536 → ∃ t, exec .loadItems s = .next t
                  ∧ ItemPut s t i ∧ Answered s t .price r (.plain .ok [(55, leBytes 1 0)]) noBytes))
      ∧ (1 ≤ n → n ≤ 32 → 4 + 52 * n ≤ r.body.length → ∃ t, exec .loadItems s = .next t
          ∧ (let codes := s.loadResults [] ((List.range n).map entry)
             Answered s t .price r
               { code := (codes.find? (fun c => c != .ok)).getD .ok, done := decide (Code.ok ∈ codes), flags := .clear
                 parts := codes.zipIdx.map (fun c => (4 + 52 * c.2 + 51, leBytes 1 c.1.number)) } noBytes
             ∧ ∀ k i, codes[k]? = some .ok → (entry k).check 0 = .ok i → t.item i.article = some i)
          ∧ (∀ a i, s.item a = some i → t.item a = some i)
          ∧ (∀ a i, t.item a = some i → s.item a = some i ∨ ∃ k, k < n ∧ (entry k).check 0 = .ok i ∧ i.article = a)
          ∧ (s.price.items.length + n ≤ 65536 → ∀ k i, k < n → (entry k).check 0 = .ok i → t.item i.article ≠ none)
          ∧ (t.withLogOf s).setPrice s.price = s)

/-- CHANGE_PRICE, by the table of the change path: NOT_FOUND, BAD_FORM, BAD_PROMO, UNCHANGED, QUERIED with its notice,
current at once, a campaign, or the waiting change, each with its disposition and version number (R8-R13). A campaign
queues every label of the item again, whatever its home, while no station can send (R87); a lone IDLE label whose ACTIVE
home has the credit and whose port has room is sent the update at once (R113, R116, R85). That an unknown confirmed code
is found before an absent article is the model's choice (log 37), and so are the zeros of a failed result (log 14) and
the arbiter's run at the end of the request (log 10). -/
def Obligations.PriceChanged : Prop :=
  ∀ (s : State) (r : RecordInHand), InHand s .price Kind.changePrice r → s.TablesBounded →
    let a := leField r.body 0 8
    let base := leField r.body 8 4
    let promo := if leField r.body 16 1 = 0 then none else some { n := leField r.body 16 1, t := leField r.body 12 4 }
    let failed := fun c : Code => ∃ t, exec .changePrice s = .next t ∧ t.withLogOf s = s
      ∧ Answered s t .price r (.plain c [(20, zeros 8)]) noBytes
    (1 < leField r.body 17 1 → failed .badForm)
    ∧ (leField r.body 17 1 ≤ 1 → s.item a = none → failed .notFound)
    ∧ ∀ i, leField r.body 17 1 ≤ 1 → s.item a = some i →
        (9999999 < base → failed .badForm)
        ∧ (base ≤ 9999999 → promoPasses i.saleKind base promo = false → failed .badPromo)
        ∧ (base ≤ 9999999 → promoPasses i.saleKind base promo = true →
            ((i.pending.getD i.current).base = base → (i.pending.getD i.current).promo = promo →
              ∃ t, exec .changePrice s = .next t ∧ t.withLogOf s = s
                ∧ Answered s t .price r (.unchanged [(20, zeros 8)]) noBytes)
            ∧ ((i.pending.getD i.current).base ≠ base ∨ (i.pending.getD i.current).promo ≠ promo →
                (leField r.body 17 1 = 0 → insideWindow s.price i.current.base base = false →
                  ∃ t, exec .changePrice s = .next t
                    ∧ ItemPut s t { i with waiting := some { base := base, promo := promo, queried := true }, origin := 0 }
                    ∧ Posted s t .priceQueried a base
                    ∧ Answered s t .price r (.plain .queried [(20, leBytes 1 3 ++ zeros 7)]) logBytes)
                ∧ (leField r.body 17 1 = 1 ∨ insideWindow s.price i.current.base base = true →
                    (i.pending ≠ none → ∃ t, exec .changePrice s = .next t
                      ∧ ItemPut s t { i with waiting := some { base := base, promo := promo, queried := false }, origin := 0 }
                      ∧ Answered s t .price r (.plain .ok [(20, leBytes 1 3 ++ zeros 7)]) noBytes)
                    ∧ (i.pending = none → i.labels = [] → ∃ t, exec .changePrice s = .next t
                      ∧ ItemPut s t { i with
                          current := { number := nextNumber i.lastVersion, base := base, promo := promo }
                          waiting := none, lastVersion := nextNumber i.lastVersion, origin := 0 }
                      ∧ Answered s t .price r
                          (.plain .ok [(20, leBytes 1 1 ++ zeros 3 ++ leBytes 4 (nextNumber i.lastVersion))]) noBytes)
                    ∧ (i.pending = none → i.labels ≠ [] → s.LabelsBusy i → ∃ t, exec .changePrice s = .next t
                      ∧ CampaignStarted s t { i with origin := 0 } base promo
                      ∧ Answered s t .price r
                          (.plain .ok [(20, leBytes 1 2 ++ zeros 3 ++ leBytes 4 (nextNumber i.lastVersion))]) noBytes)
                    ∧ (∀ id l, i.pending = none → i.labels = [id] → s.label id = some l → l.home = none →
                        l.phase = .idle ∨ l.phase = .stale → ∃ t, exec .changePrice s = .next t
                          ∧ (∃ j, t.item a = some j ∧ j.outstanding = 1 ∧ j.current = i.current
                            ∧ j.pending = some { number := nextNumber i.lastVersion, base := base, promo := promo }
                            ∧ j.staleCount = if l.phase = .stale then i.staleCount - 1 else i.staleCount)
                          ∧ t.label id = some (if l.phase = .stale then
                              { l with phase := .queued, attempts := 0, staleReason := .noReason }
                            else { l with phase := .queued })
                          ∧ id ∈ t.labels.homeless)
                    ∧ (i.pending = none → i.labels ≠ [] → i.labels.Nodup → s.NoSends →
                        (∀ id ∈ i.labels, ∃ l, s.label id = some l ∧ l.article = some a
                          ∧ l.confirmed.map Confirmed.version ≠ some (nextNumber i.lastVersion)) →
                        ∃ t, exec .changePrice s = .next t ∧ CampaignQueued s t { i with origin := 0 } base promo
                          ∧ Answered s t .price r
                              (.plain .ok [(20, leBytes 1 2 ++ zeros 3 ++ leBytes 4 (nextNumber i.lastVersion))])
                              labelCountBytes)
                    ∧ ∀ id l n b m, i.pending = none → i.labels = [id] → s.label id = some l → l.article = some a →
                        l.phase = .idle → l.confirmed.map Confirmed.version ≠ some (nextNumber i.lastVersion) →
                        s.labels.templates.find l.template = some m → l.home = some n → s.station n = some b →
                        (∀ x ∈ s.link.table, x.id = n → x = b) → b.phase = .active → b.ready = [] → s.JoinsLan b.port →
                        let j := { i with
                          pending := some { number := nextNumber i.lastVersion, base := base, promo := promo }
                          waiting := none, lastVersion := nextNumber i.lastVersion, outstanding := 1, origin := 0 }
                        let u := buildUpdate l m j
                        b.costInFlight + u.kind.cost ≤ b.credit → ∃ t, exec .changePrice s = .next t
                          ∧ t.item a = some j ∧ UpdateOnWay s t b l u
                          ∧ Answered s t .price r
                              (.plain .ok [(20, leBytes 1 2 ++ zeros 3 ++ leBytes 4 (nextNumber i.lastVersion))])
                              labelCountBytes)))

/-- CONFIRM_CHANGE and REJECT_CHANGE: NOT_FOUND unless a queried waiting change is held; a confirmed one is promoted
at once on a SETTLED item, current without labels and pending with them, or waits unqueried; the campaign it starts queues
every label again, IDLE and STALE ones too, whatever their home, while no station can send; a rejected one is discarded and
nothing else moves (R12, R14, R15, R16, R87). The zeros of a failed result are the model's choice (log 14), and so is the
arbiter's run at the end of the request (log 10). -/
def Obligations.WaitingDecided : Prop :=
  (∀ (s : State) (r : RecordInHand), InHand s .price Kind.confirmChange r → s.TablesBounded →
    let a := leField r.body 0 8
    ((∀ i w, s.item a = some i → i.waiting = some w → w.queried = false) → ∃ t, exec .confirmChange s = .next t
      ∧ t.withLogOf s = s ∧ Answered s t .price r (.plain .notFound [(8, zeros 8)]) noBytes)
    ∧ ∀ i w, s.item a = some i → i.waiting = some w → w.queried = true →
        (i.pending ≠ none → ∃ t, exec .confirmChange s = .next t
          ∧ ItemPut s t { i with waiting := some { base := w.base, promo := w.promo, queried := false } }
          ∧ Answered s t .price r (.plain .ok [(8, leBytes 1 3 ++ zeros 7)]) noBytes)
        ∧ (i.pending = none → i.labels = [] → ∃ t, exec .confirmChange s = .next t
          ∧ ItemPut s t { i with
              current := { number := nextNumber i.lastVersion, base := w.base, promo := w.promo }, waiting := none
              lastVersion := nextNumber i.lastVersion }
          ∧ Answered s t .price r
              (.plain .ok [(8, leBytes 1 1 ++ zeros 3 ++ leBytes 4 (nextNumber i.lastVersion))]) noBytes)
        ∧ (i.pending = none → i.labels ≠ [] → s.LabelsBusy i → ∃ t, exec .confirmChange s = .next t
          ∧ CampaignStarted s t i w.base w.promo
          ∧ Answered s t .price r
              (.plain .ok [(8, leBytes 1 2 ++ zeros 3 ++ leBytes 4 (nextNumber i.lastVersion))]) noBytes)
        ∧ (i.pending = none → i.labels ≠ [] → i.labels.Nodup → s.NoSends →
          (∀ id ∈ i.labels, ∃ l, s.label id = some l ∧ l.article = some a
            ∧ l.confirmed.map Confirmed.version ≠ some (nextNumber i.lastVersion)) →
          ∃ t, exec .confirmChange s = .next t ∧ CampaignQueued s t i w.base w.promo
          ∧ Answered s t .price r
              (.plain .ok [(8, leBytes 1 2 ++ zeros 3 ++ leBytes 4 (nextNumber i.lastVersion))]) labelCountBytes))
  ∧ ∀ (s : State) (r : RecordInHand), InHand s .price Kind.rejectChange r → s.TablesBounded →
    let a := leField r.body 0 8
    ((∀ i w, s.item a = some i → i.waiting = some w → w.queried = false) → ∃ t, exec .rejectChange s = .next t
      ∧ t.withLogOf s = s ∧ Answered s t .price r (.plain .notFound []) noBytes)
    ∧ ∀ i w, s.item a = some i → i.waiting = some w → w.queried = true → ∃ t, exec .rejectChange s = .next t
        ∧ ItemPut s t { i with waiting := none } ∧ Answered s t .price r (.plain .ok []) noBytes

/-- SET_TEXT: NOT_FOUND, BAD_FORM for a length of 0 or above 24, UNCHANGED for the same text, else the text replaced
and the revision raised, wrapping, with SENT labels flagged, QUEUED or STALE ones left, and IDLE ones QUEUED again,
whatever their home, while no station can send; REMOVE_ITEM: NOT_FOUND, BUSY while labels are bound, else the item is
gone (R23, R25, R86, R87). The zeros of a failed result are the model's choice (log 14), and so is
NOT_FOUND before BAD_FORM (log 55). -/
def Obligations.TextSetItemRemoved : Prop :=
  (∀ (s : State) (r : RecordInHand), InHand s .price Kind.setText r → s.TablesBounded →
    let a := leField r.body 0 8
    let n := leField r.body 8 1
    let text := ((r.body.drop 9).take 24).take n
    let failed := fun c : Code => ∃ t, exec .setText s = .next t ∧ t.withLogOf s = s
      ∧ Answered s t .price r (.plain c [(34, zeros 2)]) noBytes
    (s.item a = none → failed .notFound)
    ∧ ∀ i, s.item a = some i →
        (n = 0 ∨ 24 < n → failed .badForm)
        ∧ (1 ≤ n → n ≤ 24 → text = i.text → ∃ t, exec .setText s = .next t ∧ t.withLogOf s = s
            ∧ Answered s t .price r (.unchanged [(34, leBytes 2 i.textRevision)]) noBytes)
        ∧ (1 ≤ n → n ≤ 24 → text ≠ i.text →
            (∀ id ∈ i.labels, ∃ l, s.label id = some l ∧ (l.phase = .queued ∨ l.phase = .sent ∨ l.phase = .stale)) →
            let v := (i.textRevision + 1) % 65536
            ∃ t, exec .setText s = .next t
              ∧ t.item a = some { i with text := text, textRevision := v } ∧ (∀ x, x ≠ a → t.item x = s.item x)
              ∧ (∀ id ∈ i.labels, ∀ l, s.label id = some l → t.label id = some { l with again := l.again || l.phase == .sent })
              ∧ (∀ id, id ∉ i.labels → t.label id = s.label id)
              ∧ ((t.withLogOf s).setPrice s.price).setLabels s.labels = s
              ∧ Answered s t .price r (.plain .ok [(34, leBytes 2 v)]) noBytes)
        ∧ (let v := (i.textRevision + 1) % 65536
           1 ≤ n → n ≤ 24 → text ≠ i.text → i.labels.Nodup → s.NoSends →
            (∀ id ∈ i.labels, ∃ l, s.label id = some l ∧ l.article = some a
              ∧ l.confirmed.map Confirmed.textRevision ≠ some v) →
            ∃ t, exec .setText s = .next t
              ∧ t.item a = some { i with text := text, textRevision := v } ∧ (∀ x, x ≠ a → t.item x = s.item x)
              ∧ LabelsQueued s t i.labels Label.retexted
              ∧ (((t.withLogOf s).setPrice s.price).setLabels s.labels).setLink s.link = s
              ∧ Answered s t .price r (.plain .ok [(34, leBytes 2 v)]) labelCountBytes))
  ∧ ∀ (s : State) (r : RecordInHand), InHand s .price Kind.removeItem r → s.TablesBounded →
    let a := leField r.body 0 8
    (s.item a = none → ∃ t, exec .removeItem s = .next t ∧ t.withLogOf s = s
      ∧ Answered s t .price r (.plain .notFound []) noBytes)
    ∧ ∀ i, s.item a = some i →
        (i.labels ≠ [] → ∃ t, exec .removeItem s = .next t ∧ t.withLogOf s = s
          ∧ Answered s t .price r (.plain .busy []) noBytes)
        ∧ (i.labels = [] → ∃ t, exec .removeItem s = .next t ∧ t.item a = none ∧ (∀ x, x ≠ a → t.item x = s.item x)
          ∧ (t.withLogOf s).setPrice s.price = s ∧ Answered s t .price r (.plain .ok []) noBytes)

/-- The reads change nothing but their record: READ_ITEM and READ_LABEL fail NOT_FOUND or SHORT_RECORD or write the
image, READ_JOURNAL_STATE its 36 bytes; READ_COUNTS writes 140 bytes of counters and clears them when asked; every field
of an image and every counter stands at its offset. FLUSH_STATIONS empties the station table and tells how many records
went (R26, R92, R75, R162, R153, R212). The model's choices: READ_COUNTS with an unknown clear code fails BAD_FORM
however short its body (log 52), and READ_ITEM and READ_LABEL find an absent record before a short body (log 56). -/
def Obligations.ImagesRead : Prop :=
  (∀ (s : State) (r : RecordInHand), InHand s .price Kind.readItem r →
    (s.item (leField r.body 0 8) = none → ∃ t, exec .readItem s = .next t ∧ t.withLogOf s = s
      ∧ Answered s t .price r (.plain .notFound []) noBytes)
    ∧ ∀ i, s.item (leField r.body 0 8) = some i →
        (r.body.length < 132 → ∃ t, exec .readItem s = .next t ∧ t.withLogOf s = s
          ∧ Answered s t .price r (.plain .shortRecord []) noBytes)
        ∧ (132 ≤ r.body.length → i.text.length ≤ 24 → ∃ t, exec .readItem s = .next t ∧ t.withLogOf s = s
          ∧ Answered s t .price r (.plain .ok [(8, i.image)]) noBytes ∧ i.image.length = 124
          ∧ i.image.take 25 = leBytes 1 i.text.length ++ i.text ++ zeros (24 - i.text.length)
          ∧ (let change := fun (off base : Nat) (p : Option Promotion) => [(off, 4, base),
               (off + 4, 4, (p.map Promotion.t).getD 0), (off + 8, 1, (p.map Promotion.n).getD 0), (off + 9, 3, 0)]
             let version := fun (off : Nat) (v : Option Version) =>
               (off, 4, (v.map Version.number).getD 0) :: change (off + 4) ((v.map Version.base).getD 0) (v.bind Version.promo)
             FieldsAre i.image ([(25, 1, i.saleKind.code), (26, 1, i.measure.code),
               (27, 1, if i.pending = none then 0 else if i.staleCount = 0 then 1 else 2), (28, 2, i.textRevision),
               (30, 2, i.refQty), (32, 4, i.packQty), (36, 4, i.lastVersion), (40, 4, i.origin), (44, 1, i.outstanding),
               (45, 1, i.staleCount), (46, 1, i.labels.length),
               (47, 1, i.pending.isSome.toNat + 2 * i.waiting.isSome.toNat
                 + 4 * ((i.waiting.map WaitingChange.queried).getD false).toNat)]
               ++ version 48 (some i.current) ++ version 64 i.pending
               ++ change 80 ((i.waiting.map WaitingChange.base).getD 0) (i.waiting.bind WaitingChange.promo)
               ++ (List.range 8).map (fun k => (92 + 4 * k, 4, i.labels.getD k 0))))))
  ∧ (∀ (s : State) (r : RecordInHand), InHand s .label Kind.readLabel r →
    (s.label (leField r.body 0 4) = none → ∃ t, exec .readLabel s = .next t ∧ t.withLogOf s = s
      ∧ Answered s t .label r (.plain .notFound []) noBytes)
    ∧ ∀ l, s.label (leField r.body 0 4) = some l →
        (r.body.length < 56 → ∃ t, exec .readLabel s = .next t ∧ t.withLogOf s = s
          ∧ Answered s t .label r (.plain .shortRecord []) noBytes)
        ∧ (56 ≤ r.body.length → ∃ t, exec .readLabel s = .next t ∧ t.withLogOf s = s
          ∧ Answered s t .label r (.plain .ok [(4, s.labelImage l)]) noBytes ∧ (s.labelImage l).length = 52
          ∧ (let shown := fun f : Confirmed → Nat => (l.confirmed.map f).getD 0
             let sent := fun f : InFlightUpdate → Nat => (l.inFlight.map f).getD 0
             let target := ((l.article.bind s.item).map (fun i =>
               if l.phase = .unbinding then 0 else (i.pending.getD i.current).number)).getD 0
             FieldsAre (s.labelImage l) [(0, 1, l.phase.code),
               (1, 1, l.article.isSome.toNat + 2 * l.home.isSome.toNat + 4 * l.confirmed.isSome.toNat
                 + 8 * l.inFlight.isSome.toNat + 16 * l.again.toNat + 32 * l.blankDue.toNat),
               (2, 1, l.staleReason.code), (3, 1, l.attempts), (4, 8, l.article.getD 0), (12, 1, l.template),
               (13, 1, l.battery), (14, 1, l.signal),
               (15, 1, if l.id ∈ s.labels.homeless then 2 else if ∃ b ∈ s.link.table, l.id ∈ b.ready then 1 else 0),
               (16, 2, l.home.getD 0), (18, 2, shown Confirmed.textRevision), (20, 8, l.lastHeard),
               (28, 4, shown Confirmed.version), (32, 1, shown Confirmed.template), (33, 1, sent (fun u => u.kind.code)),
               (34, 1, sent InFlightUpdate.template), (35, 1, 0), (36, 4, sent InFlightUpdate.tag),
               (40, 4, sent InFlightUpdate.version), (44, 2, sent InFlightUpdate.textRevision),
               (46, 2, sent InFlightUpdate.station), (48, 4, target)])))
  ∧ (∀ (s : State) (r : RecordInHand), InHand s .exchange Kind.readJournalState r →
    (r.body.length < 36 → ∃ t, exec .readJournalState s = .next t ∧ t.withLogOf s = s
      ∧ Answered s t .exchange r (.plain .shortRecord []) noBytes)
    ∧ (36 ≤ r.body.length → ∃ t, exec .readJournalState s = .next t ∧ t.withLogOf s = s
      ∧ Answered s t .exchange r (.plain .ok [(0, s.journal.image)]) noBytes ∧ s.journal.image.length = 36
      ∧ (let j := s.journal
         FieldsAre j.image [(0, 1, match j.backedState with
             | .unwritten => 0
             | .kept => 1
             | .formatted => 2), (1, 1, j.fresh.toNat), (2, 1, if j.side = .above then 1 else 0),
           (3, 1, j.append.isSome.toNat), (4, 4, j.acked), (8, 4, j.acked + 1), (12, 4, j.next), (16, 4, j.next - 1 - j.acked),
           (20, 4, j.used), (24, 4, 114688 - j.used - (j.append.map Append.reserved).getD 0), (28, 4, j.alertLevel),
           (32, 4, j.queue.length)])))
  ∧ (∀ (s : State) (r : RecordInHand), InHand s .net Kind.readCounts r →
    (1 < leField r.body 0 1 → ∃ t, exec .readCounts s = .next t ∧ t.withLogOf s = s
      ∧ Answered s t .net r (.plain .badForm []) noBytes)
    ∧ (leField r.body 0 1 ≤ 1 → r.body.length < 144 → ∃ t, exec .readCounts s = .next t ∧ t.withLogOf s = s
      ∧ Answered s t .net r (.plain .shortRecord []) noBytes)
    ∧ (leField r.body 0 1 ≤ 1 → 144 ≤ r.body.length → ∃ t, exec .readCounts s = .next t
      ∧ Answered s t .net r (.plain .ok [(4, s.countsImage)]) noBytes ∧ s.countsImage.length = 140
      ∧ (∀ p : Port, let c := (s.port p).counters
          let at_ := fun k : Nat => 28 * Port.index p + 4 * k
          FieldsAre s.countsImage [(at_ 0, 4, c.framesIn.toNat), (at_ 1, 4, c.framesOut.toNat), (at_ 2, 4, c.noBuffer.toNat),
            (at_ 3, 4, c.queueCap.toNat), (at_ 4, 4, c.policy.toNat), (at_ 5, 4, c.guest.toNat), (at_ 6, 4, c.unknown.toNat)])
      ∧ (∀ p, t.port p = if leField r.body 0 1 = 1 then { s.port p with counters := PortCounters.zero } else s.port p)
      ∧ { t.net with ports := s.net.ports } = s.net ∧ (t.withLogOf s).setNet s.net = s))
  ∧ ∀ (s : State) (r : RecordInHand), InHand s .net Kind.flushStations r → ∃ t, exec .flushStations s = .next t
      ∧ t.net = { s.net with stations := [] } ∧ (t.withLogOf s).setNet s.net = s
      ∧ Answered s t .net r (.plain .ok [(0, leBytes 4 s.net.stations.length)]) noBytes

/-! ### LABEL requests -/

/-- BIND_LABEL by its checks in order, then the record as it is at a bind, QUEUED in the homeless set, the label at the end
of the item's list, outstanding raised during a campaign (R88, R21, R77, R78). -/
def Obligations.LabelBound : Prop :=
  ∀ (s : State) (r : RecordInHand), InHand s .label Kind.bindLabel r → s.TablesBounded →
    let id := leField r.body 0 4
    let template := leField r.body 4 2
    let a := leField r.body 8 8
    let failed := fun c : Code => ∃ t, exec .bindLabel s = .next t ∧ t.withLogOf s = s
      ∧ Answered s t .label r (.plain c []) noBytes
    (id = 0 → failed .badForm)
    ∧ (∀ l, id ≠ 0 → s.label id = some l → failed (if l.phase = .unbinding then .busy else .labelBound))
    ∧ (id ≠ 0 → s.label id = none →
        (s.item a = none ∨ s.labels.templates.find template = none → failed .notFound)
        ∧ ∀ i, s.item a = some i → s.labels.templates.find template ≠ none →
            (32768 ≤ s.labels.directory.length → failed .tableFull)
            ∧ (s.labels.directory.length < 32768 → 8 ≤ i.labels.length → failed .tableFull)
            ∧ (s.labels.directory.length < 32768 → i.labels.length < 8 → id ∈ i.labels → failed .labelBound)
            ∧ (s.labels.directory.length < 32768 → i.labels.length < 8 → id ∉ i.labels → ∃ t, exec .bindLabel s = .next t
                ∧ t.label id = some
                    { id := id, article := some a, template := template, home := none, lastHeard := 0, battery := 0
                      signal := 0, confirmed := none, inFlight := none, attempts := 0, again := false, blankDue := false
                      staleReason := .noReason, phase := .queued }
                ∧ (∀ x, x ≠ id → t.label x = s.label x) ∧ id ∈ t.labels.homeless
                ∧ (∀ x ∈ s.labels.homeless, x ∈ t.labels.homeless)
                ∧ t.item a = some { i with
                    labels := i.labels ++ [id], outstanding := if i.pending = none then i.outstanding else i.outstanding + 1 }
                ∧ (∀ x, x ≠ a → t.item x = s.item x)
                ∧ t.storeWord 0x5C = BitVec.ofNat 32 (phaseCount t.labels.directory .queued)
                ∧ ((t.withLogOf s).setPrice s.price).setLabels s.labels = s
                ∧ Answered s t .label r (.plain .ok []) labelCountBytes))

/-- UNBIND_LABEL, SET_LABEL_TEMPLATE and RETRY_LABEL by the state of the label: what fails, what has NO_EFFECT, a label with
no home removed at once, a SENT one left UNBINDING with its update in flight and a BLANK due, one whose home is LOST, or
ACTIVE without credit, waiting there, one whose ACTIVE home has credit and room sent its BLANK at once; a label turned over
to QUEUED waits in the homeless set or at its home, or is sent its update at once when the home has credit and room.
An unbind in a campaign lowers outstanding unless the label was confirmed on the pending version; the one that settles the
campaign switches the item, and an unqueried waiting change is then placed: current with no label left, else a new campaign
(R14, R19, R22, R85, R89, R90, R91, R113, R116). The model's choices: SET_LABEL_TEMPLATE finds a template that is not loaded
before an UNBINDING label (log 55); the arbiter runs at the end of the request (log 10). -/
def Obligations.LabelTurned : Prop :=
  (∀ (s : State) (r : RecordInHand), InHand s .label Kind.unbindLabel r → s.TablesBounded →
    let id := leField r.body 0 4
    (s.label id = none → ∃ t, exec .unbindLabel s = .next t ∧ t.withLogOf s = s
      ∧ Answered s t .label r (.plain .notFound []) noBytes)
    ∧ ∀ l, s.label id = some l →
        (l.phase = .unbinding → ∃ t, exec .unbindLabel s = .next t ∧ t.withLogOf s = s
          ∧ Answered s t .label r (.noEffect []) noBytes)
        ∧ ∀ a i, l.phase ≠ .unbinding → l.article = some a → s.item a = some i → id ∈ i.labels →
            let onPending := ∃ v, i.pending = some v ∧ l.confirmed.map Confirmed.version = some v.number
            let stays := i.pending = none ∨ onPending ∨ 1 < i.outstanding
            let item := { i with
              labels := i.labels.filter (fun x => x != id)
              staleCount := if l.phase = .stale then i.staleCount - 1 else i.staleCount
              outstanding := if i.pending = none ∨ l.confirmed.map Confirmed.version = i.pending.map Version.number
                then i.outstanding else i.outstanding - 1 }
            (stays → l.home = none → l.phase ≠ .sent → ∃ t, exec .unbindLabel s = .next t
              ∧ t.label id = none ∧ (∀ x, x ∈ t.labels.homeless ↔ x ∈ s.labels.homeless ∧ x ≠ id)
              ∧ (∀ x, x ≠ id → t.label x = s.label x)
              ∧ ItemPut (s.setLabels t.labels) t item
              ∧ Answered s t .label r (.plain .ok []) labelCountBytes)
            ∧ (stays → l.phase = .sent → ∃ t, exec .unbindLabel s = .next t
              ∧ t.label id = some { l with
                  article := none, phase := .unbinding, staleReason := .noReason, again := false, blankDue := true }
              ∧ (∀ x, x ≠ id → t.label x = s.label x) ∧ t.labels.homeless = s.labels.homeless
              ∧ ItemPut (s.setLabels t.labels) t item
              ∧ Answered s t .label r (.plain .ok []) labelCountBytes)
            ∧ (∀ h b, stays → l.phase ≠ .sent → l.home = some h → s.station h = some b → b.phase = .lost →
                (∀ x ∈ s.link.table, x.id = h → x = b) → ∃ t b', exec .unbindLabel s = .next t
                ∧ t.label id = some { l with
                    article := none, phase := .unbinding, staleReason := .noReason, again := false, attempts := 0
                    blankDue := true }
                ∧ t.station h = some b' ∧ id ∈ b'.ready ∧ (∀ x ∈ b.ready, x ∈ b'.ready) ∧ b'.phase = .lost
                ∧ b'.inFlight = b.inFlight ∧ t.item a = some item ∧ t.net = s.net)
            ∧ (∀ h b, stays → l.phase ≠ .sent → l.inFlight = none → l.home = some h → s.station h = some b →
                b.phase = .active → (∀ x ∈ s.link.table, x.id = h → x = b) →
                let bare := { l with
                  article := none, phase := .unbinding, staleReason := .noReason, again := false, attempts := 0 }
                let tag := s.link.freeTag s.link.inFlightCount s.link.nextTag
                (b.credit ≤ b.costInFlight → b.ready = [] ∨ b.ready = [id] → ∃ t x, exec .unbindLabel s = .next t
                  ∧ t.label id = some { bare with blankDue := true } ∧ (∀ y, y ≠ id → t.label y = s.label y)
                  ∧ t.item a = some item ∧ t.station h = some x ∧ x.ready = [id] ∧ x.inFlight = b.inFlight
                  ∧ x.phase = .active ∧ t.net = s.net ∧ Answered s t .label r (.plain .ok []) labelCountBytes)
                ∧ (b.costInFlight + 1 ≤ b.credit → b.ready = [] → s.JoinsLan b.port → ∃ t, exec .unbindLabel s = .next t
                  ∧ t.label id = some { bare with
                      blankDue := false
                      inFlight := some { tag := tag, kind := .blankUpdate, version := 0, template := 0, textRevision := 0
                                         station := h } }
                  ∧ (∀ y, y ≠ id → t.label y = s.label y) ∧ t.item a = some item
                  ∧ t.station h = some { b with
                      waitingForBuffer := false
                      inFlight := b.inFlight ++ [{ tag := tag, label := id, kind := .blankUpdate, cost := 1
                                                   deadline := s.now + 25 * s.link.slots + 5000 }] }
                  ∧ LanOffered s t b.port (s.makeFrame b.address s.net.labelType (beBytes 1 4 ++ beBytes 2 h
                      ++ beBytes 4 tag ++ beBytes 4 id ++ beBytes 1 3 ++ zeros 2))
                  ∧ Answered s t .label r (.plain .ok []) labelCountBytes))
            ∧ ∀ v, i.pending = some v → i.outstanding = 1 → ¬ onPending → l.home = none → l.phase ≠ .sent →
                let settled := { item with current := v, pending := none }
                let next := nextNumber i.lastVersion
                let gone := fun t : State => exec .unbindLabel s = .next t ∧ t.label id = none
                  ∧ (∀ x, x ∈ t.labels.homeless ↔ x ∈ s.labels.homeless ∧ x ≠ id) ∧ Posted s t .campaignDone a v.number
                  ∧ Answered s t .label r (.plain .ok []) labelAndLogBytes
                ((∀ w, i.waiting = some w → w.queried = true) → ∃ t, gone t ∧ (∀ x, x ≠ id → t.label x = s.label x)
                  ∧ ItemPut (s.setLabels t.labels) t settled)
                ∧ ∀ w, i.waiting = some w → w.queried = false →
                    (item.labels = [] → ∃ t, gone t ∧ (∀ x, x ≠ id → t.label x = s.label x)
                      ∧ ItemPut (s.setLabels t.labels) t { settled with
                          current := { number := next, base := w.base, promo := w.promo }, waiting := none
                          lastVersion := next })
                    ∧ (item.labels ≠ [] → s.LabelsBusy item → ∃ t, gone t
                      ∧ CampaignStarted (s.setLabels { s.labels with
                          directory := s.labels.directory.del id, homeless := t.labels.homeless }) t settled w.base w.promo))
  ∧ (∀ (s : State) (r : RecordInHand), InHand s .label Kind.setLabelTemplate r → s.TablesBounded →
    let id := leField r.body 0 4
    let template := leField r.body 4 2
    (s.label id = none ∨ s.labels.templates.find template = none → ∃ t, exec .setLabelTemplate s = .next t
      ∧ t.withLogOf s = s ∧ Answered s t .label r (.plain .notFound []) noBytes)
    ∧ ∀ l, s.label id = some l → s.labels.templates.find template ≠ none →
        (l.phase = .unbinding → ∃ t, exec .setLabelTemplate s = .next t ∧ t.withLogOf s = s
          ∧ Answered s t .label r (.plain .busy []) noBytes)
        ∧ (l.phase ≠ .unbinding → l.template = template → ∃ t, exec .setLabelTemplate s = .next t ∧ t.withLogOf s = s
          ∧ Answered s t .label r (.noEffect []) noBytes)
        ∧ (l.phase ≠ .unbinding → l.phase ≠ .idle → l.template ≠ template → ∃ t, exec .setLabelTemplate s = .next t
          ∧ t.label id = some { l with template := template, again := l.again || l.phase == .sent }
          ∧ (∀ x, x ≠ id → t.label x = s.label x) ∧ (t.withLogOf s).setLabels s.labels = s
          ∧ Answered s t .label r (.plain .ok []) noBytes)
        ∧ (l.phase = .idle → l.home = none → l.template ≠ template → ∃ t, exec .setLabelTemplate s = .next t
          ∧ t.label id = some { l with template := template, phase := .queued } ∧ id ∈ t.labels.homeless
          ∧ (∀ x, x ≠ id → t.label x = s.label x) ∧ (t.withLogOf s).setLabels s.labels = s
          ∧ Answered s t .label r (.plain .ok []) labelCountBytes)
        ∧ (∀ h b a i, l.phase = .idle → l.template ≠ template → l.home = some h → s.station h = some b → b.ready = [] →
            b.phase = .lost ∨ b.credit ≤ b.costInFlight → (∀ x ∈ s.link.table, x.id = h → x = b) →
            l.article = some a → s.item a = some i → l.confirmed ≠ some (i.target template) →
            ∃ t x, exec .setLabelTemplate s = .next t
              ∧ t.label id = some { l with template := template, phase := .queued }
              ∧ (∀ y, y ≠ id → t.label y = s.label y) ∧ t.station h = some x ∧ x.ready = [id]
              ∧ x.inFlight = b.inFlight ∧ ((t.withLogOf s).setLabels s.labels).setLink s.link = s
              ∧ Answered s t .label r (.plain .ok []) labelCountBytes)
        ∧ ∀ h b a i m, l.phase = .idle → l.template ≠ template → l.home = some h → s.station h = some b → b.phase = .active →
            b.ready = [] → (∀ x ∈ s.link.table, x.id = h → x = b) → l.article = some a → s.item a = some i →
            s.labels.templates.find template = some m → l.confirmed ≠ some (i.target template) → s.JoinsLan b.port →
            let l' := { l with template := template }
            let u := buildUpdate l' m i
            b.costInFlight + u.kind.cost ≤ b.credit → ∃ t, exec .setLabelTemplate s = .next t ∧ UpdateOnWay s t b l' u
              ∧ (∀ y, y ≠ id → t.label y = s.label y) ∧ t.price = s.price
              ∧ Answered s t .label r (.plain .ok []) labelCountBytes)
  ∧ ∀ (s : State) (r : RecordInHand), InHand s .label Kind.retryLabel r → s.TablesBounded →
    let id := leField r.body 0 4
    (s.label id = none → ∃ t, exec .retryLabel s = .next t ∧ t.withLogOf s = s
      ∧ Answered s t .label r (.plain .notFound []) noBytes)
    ∧ ∀ l, s.label id = some l →
        (l.phase ≠ .stale → ∃ t, exec .retryLabel s = .next t ∧ t.withLogOf s = s
          ∧ Answered s t .label r (.noEffect []) noBytes)
        ∧ (∀ a i, l.phase = .stale → l.home = none → l.article = some a → s.item a = some i → id ∈ i.labels →
            ∃ t, exec .retryLabel s = .next t
              ∧ t.label id = some { l with phase := .queued, attempts := 0, staleReason := .noReason }
              ∧ id ∈ t.labels.homeless ∧ (∀ x, x ≠ id → t.label x = s.label x)
              ∧ ItemPut (s.setLabels t.labels) t { i with staleCount := i.staleCount - 1 }
              ∧ Answered s t .label r (.plain .ok []) labelCountBytes)
        ∧ (∀ h b a i, l.phase = .stale → l.home = some h → s.station h = some b → b.ready = [] →
            b.phase = .lost ∨ b.credit ≤ b.costInFlight → (∀ x ∈ s.link.table, x.id = h → x = b) →
            l.article = some a → s.item a = some i → id ∈ i.labels → l.confirmed ≠ some (i.target l.template) →
            ∃ t x, exec .retryLabel s = .next t
              ∧ t.label id = some { l with phase := .queued, attempts := 0, staleReason := .noReason }
              ∧ (∀ y, y ≠ id → t.label y = s.label y) ∧ t.station h = some x ∧ x.ready = [id]
              ∧ x.inFlight = b.inFlight ∧ t.item a = some { i with staleCount := i.staleCount - 1 } ∧ t.net = s.net
              ∧ Answered s t .label r (.plain .ok []) labelCountBytes)
        ∧ ∀ h b a i m, l.phase = .stale → l.home = some h → s.station h = some b → b.phase = .active → b.ready = [] →
            (∀ x ∈ s.link.table, x.id = h → x = b) → l.article = some a → s.item a = some i → id ∈ i.labels →
            s.labels.templates.find l.template = some m → l.confirmed ≠ some (i.target l.template) → s.JoinsLan b.port →
            let l' := { l with attempts := 0, staleReason := .noReason }
            let u := buildUpdate l' m i
            b.costInFlight + u.kind.cost ≤ b.credit → ∃ t, exec .retryLabel s = .next t ∧ UpdateOnWay s t b l' u
              ∧ (∀ y, y ≠ id → t.label y = s.label y) ∧ t.item a = some { i with staleCount := i.staleCount - 1 }
              ∧ Answered s t .label r (.plain .ok []) labelCountBytes

/-! ### NET and EXCHANGE requests -/

/-- SEND_FRAME, for both egresses: BAD_FORM for an egress that names no assigned port or a body out of form, NO_BUFFER
with an empty pool; a port takes the frame into its LAN egress queue, the UPLINK port into STORE; FORWARD to a guest or a
learned station goes to its port, towards the gateway or a station learned on the uplink into STORE, to a station nobody
knows nowhere, and a group frame to every assigned port whose link is up. A copy that does not join is counted on its
port. The copies queued are the result (R161). The model's choices: the zero copies of a failed result (log 14); BAD_FORM
for an unknown egress code, or for a form the rule names first, with the pool empty (log 52, log 55); the body gives the
frame with its check sequence, which its length counts (log 1, log 49); a link that is down is found before a full queue
(log 58). -/
def Obligations.FrameSent : Prop :=
  ∀ (s : State) (r : RecordInHand), InHand s .net Kind.sendFrame r →
    let b := r.body
    let n := leField b 2 2
    let f := Frame.ofBytes ((b.drop 8).take n)
    let part := fun k : Nat => [(4, leBytes 2 k ++ zeros 2)]
    let failed := fun c : Code => ∃ t, exec .sendFrame s = .next t ∧ t.withLogOf s = s
      ∧ Answered s t .net r (.plain c (part 0)) noBytes
    let inForm := 64 ≤ n ∧ n ≤ 1518 ∧ 8 + n ≤ b.length
    let onPort := fun p : Port => ∃ t, exec .sendFrame s = .next t ∧ LanOffered s t p f
      ∧ (t.withLogOf s).setNet s.net = s
      ∧ Answered s t .net r (.plain .ok (part (if s.JoinsLan p then 1 else 0))) noBytes
    (1 < leField b 0 1 → failed .badForm)
    ∧ (leField b 0 1 = 0 → 4 < leField b 1 1 → failed .badForm)
    ∧ (∀ p, leField b 0 1 = 0 → leField b 1 1 = Port.index p → (s.port p).role = none → failed .badForm)
    ∧ (¬ inForm → failed .badForm)
    ∧ (∀ p, leField b 0 1 = 0 → leField b 1 1 = Port.index p → (s.port p).role ≠ none → inForm →
        (s.net.freeBuffers = 0 → failed .noBuffer)
        ∧ (0 < s.net.freeBuffers → (s.port p).role ≠ some .uplink → onPort p)
        ∧ (0 < s.net.freeBuffers → s.net.uplink = some p → (s.port p).linkUp = true →
            s.net.classes.store.length < s.net.classCaps.store → ∃ t, exec .sendFrame s = .next t
            ∧ t.net = { s.net with classes := { s.net.classes with store := s.net.classes.store ++ [f] }
                                   freeBuffers := s.net.freeBuffers - 1 }
            ∧ (t.withLogOf s).setNet s.net = s ∧ Answered s t .net r (.plain .ok (part 1)) noBytes)
        ∧ (0 < s.net.freeBuffers → s.net.uplink = some p →
            (s.port p).linkUp = false ∨ s.net.classCaps.store ≤ s.net.classes.store.length → ∃ t,
            exec .sendFrame s = .next t
            ∧ t.net = { s.net with ports := s.net.ports.set p { s.port p with
                counters := (s.port p).counters.drop (if (s.port p).linkUp then .queueCap else .unknown) } }
            ∧ (t.withLogOf s).setNet s.net = s ∧ Answered s t .net r (.plain .ok (part 0)) noBytes))
    ∧ (leField b 0 1 = 1 → inForm →
        (s.net.freeBuffers = 0 → failed .noBuffer)
        ∧ (0 < s.net.freeBuffers → isGroup f.dest = false → f.dest = s.net.appliance ∨ f.dest = s.net.controller →
            ∃ t, exec .sendFrame s = .next t ∧ t.withLogOf s = s ∧ Answered s t .net r (.plain .ok (part 0)) noBytes)
        ∧ (0 < s.net.freeBuffers → isGroup f.dest = false → f.dest ≠ s.net.appliance → f.dest ≠ s.net.controller →
            f.dest ≠ s.net.gateway →
            (s.session f.dest = none → s.stationRecord f.dest = none → ∃ t, exec .sendFrame s = .next t
              ∧ t.withLogOf s = s ∧ Answered s t .net r (.plain .ok (part 0)) noBytes)
            ∧ (∀ g, s.session f.dest = some g → s.stationRecord f.dest = none → (s.port g.port).role = some .guest →
                onPort g.port)
            ∧ (∀ x, s.session f.dest = none → s.stationRecord f.dest = some x → (s.port x.port).role ≠ none →
                (s.port x.port).role ≠ some .uplink → onPort x.port))
        ∧ (∀ u, isGroup f.dest = false → f.dest ≠ s.net.appliance → f.dest ≠ s.net.controller →
            f.dest = s.net.gateway ∨ (∃ x, s.stationRecord f.dest = some x ∧ (s.port x.port).role = some .uplink) →
            s.net.uplink = some u → 0 < s.net.freeBuffers →
            let fits := (s.port u).linkUp = true ∧ s.net.classes.store.length < s.net.classCaps.store
            (fits → ∃ t, exec .sendFrame s = .next t
              ∧ t.net = { s.net with classes := { s.net.classes with store := s.net.classes.store ++ [f] }
                                     freeBuffers := s.net.freeBuffers - 1 }
              ∧ (t.withLogOf s).setNet s.net = s ∧ Answered s t .net r (.plain .ok (part 1)) noBytes)
            ∧ (¬ fits → ∃ t, exec .sendFrame s = .next t
              ∧ t.net = { s.net with ports := s.net.ports.set u { s.port u with
                  counters := (s.port u).counters.drop (if (s.port u).linkUp then .queueCap else .unknown) } }
              ∧ (t.withLogOf s).setNet s.net = s ∧ Answered s t .net r (.plain .ok (part 0)) noBytes))
        ∧ (∀ u, isGroup f.dest = true → s.net.uplink = some u → (∀ p, (s.port p).role = some .uplink → p = u) →
            5 ≤ s.net.freeBuffers → s.net.classes.store.length < s.net.classCaps.store →
            (∀ p, (s.port p).lan.length < (s.port p).lanCap) → ∃ t, exec .sendFrame s = .next t
            ∧ (∀ p, t.port p = if p ≠ u ∧ (s.port p).role ≠ none ∧ (s.port p).linkUp = true then
                { s.port p with lan := (s.port p).lan ++ [f] } else s.port p)
            ∧ t.net.classes = (if (s.port u).linkUp then
                { s.net.classes with store := s.net.classes.store ++ [f] } else s.net.classes)
            ∧ (t.withLogOf s).setNet s.net = s
            ∧ Answered s t .net r (.plain .ok (part (Port.all.countP (fun p =>
                (s.port p).role.isSome && (s.port p).linkUp)))) noBytes))

/-- ADMIT_GUEST and REVOKE_GUEST: BAD_FORM, for a given code above 3 too, REFUSED_PERIOD while CLOSED, NOT_FOUND without
a session; a HELD or LAPSED session is ADMITTED afresh, an ADMITTED one renewed with what it used kept, lapsing SPENT at
once when that is above the new budget; a revoked one lapses REVOKED without a notice, any other is left (R169, R170).
The zeros of a failed result are the model's choice (log 14), and so are BAD_FORM for an unknown given code before the
period and the session are looked at (log 52), and for a group address that has no session (log 55). -/
def Obligations.GuestAdmitted : Prop :=
  (∀ (s : State) (r : RecordInHand), InHand s .net Kind.admitGuest r →
    let a := addressAt r.body 0
    let given := leField r.body 6 1
    let budget := if given % 2 = 1 then leField r.body 8 4 else s.guests.defaultBudget
    let limit := if given / 2 % 2 = 1 then leField r.body 12 4 else s.guests.defaultLimit
    let failed := fun c : Code => ∃ t, exec .admitGuest s = .next t ∧ t.withLogOf s = s
      ∧ Answered s t .net r (.plain c [(16, zeros 12)]) noBytes
    let inForm := isGroup a = false ∧ given < 4 ∧ (given % 2 = 1 → 1048576 ≤ leField r.body 8 4)
      ∧ (given / 2 % 2 = 1 → 60 ≤ leField r.body 12 4 ∧ leField r.body 12 4 ≤ 86400)
    let becomes := fun (g : GuestSession) (own : Nat → Bool) (t : State) => t.session a = some g
      ∧ (∀ x, x ≠ a → t.session x = s.session x) ∧ { t.guests with sessions := s.guests.sessions } = s.guests
      ∧ (t.withLogOf s).setGuests s.guests = s
      ∧ Answered s t .net r (.plain .ok [(16, leBytes 1 g.phase.code ++ leBytes 1 g.lapse.code ++ zeros 2
          ++ leBytes 4 g.budget ++ leBytes 4 g.used)]) own
    (¬ inForm → failed .badForm)
    ∧ (inForm → s.clock.period = .closed → failed .refusedPeriod)
    ∧ (inForm → s.clock.period = .opened → s.session a = none → failed .notFound)
    ∧ ∀ g, inForm → s.clock.period = .opened → s.session a = some g →
        (g.phase ≠ .admitted → ∃ t, exec .admitGuest s = .next t ∧ becomes { g with
          phase := .admitted, budget := budget, timeLimit := limit, used := 0, admittedAt := s.now
          lapse := .noLapse } noBytes t)
        ∧ (g.phase = .admitted → g.used ≤ budget → ∃ t, exec .admitGuest s = .next t ∧ becomes { g with
          budget := budget, timeLimit := limit, admittedAt := s.now } noBytes t)
        ∧ (g.phase = .admitted → budget < g.used → ∃ t, exec .admitGuest s = .next t ∧ becomes { g with
          budget := budget, timeLimit := limit, admittedAt := s.now, phase := .lapsed, lapse := .spent } logBytes t
          ∧ Posted s t .guestLapsed (addressSubject a) (twoParts 1 (g.used / 1048576))))
  ∧ ∀ (s : State) (r : RecordInHand), InHand s .net Kind.revokeGuest r →
    let a := addressAt r.body 0
    (isGroup a = true → ∃ t, exec .revokeGuest s = .next t ∧ t.withLogOf s = s
      ∧ Answered s t .net r (.plain .badForm [(8, zeros 8)]) noBytes)
    ∧ (isGroup a = false → s.session a = none → ∃ t, exec .revokeGuest s = .next t ∧ t.withLogOf s = s
      ∧ Answered s t .net r (.plain .notFound [(8, zeros 8)]) noBytes)
    ∧ ∀ g, isGroup a = false → s.session a = some g →
        (g.phase ≠ .admitted → ∃ t, exec .revokeGuest s = .next t ∧ t.withLogOf s = s
          ∧ Answered s t .net r (.noEffect [(8, leBytes 1 g.lapse.code ++ zeros 3 ++ leBytes 4 g.used)]) noBytes)
        ∧ (g.phase = .admitted → ∃ t, exec .revokeGuest s = .next t
          ∧ t.session a = some { g with phase := .lapsed, lapse := .revoked }
          ∧ (∀ x, x ≠ a → t.session x = s.session x) ∧ (t.withLogOf s).setGuests s.guests = s
          ∧ Answered s t .net r (.plain .ok [(8, leBytes 1 3 ++ zeros 3 ++ leBytes 4 g.used)]) noBytes)

/-- START_EXCHANGE and ABORT_EXCHANGE: BAD_FORM, NOT_FOUND without parameters, BUSY in a session; with the uplink up a
HELLO with the checkpoint is sent and the session stands in OPENING with its deadline, with the uplink down it ends
LINK_DOWN at once; an abort in IDLE has NO_EFFECT, else it sends BYE(ABORTED) and ends the session (R126, R142, R139).
The model's choices: a message lost counts each of its frames (log 27); the open fields of its headers (log 16); a session's
start and end empty the inbox (log 24); next to cut stands at 0 until the upload (log 25); START_EXCHANGE's failures are
tested as R126 names them (log 55). -/
def Obligations.SessionStarted : Prop :=
  (∀ (s : State) (r : RecordInHand), InHand s .exchange Kind.startExchange r →
    let d := leField r.body 0 4
    let failed := fun c : Code => ∃ t, exec .startExchange s = .next t ∧ t.withLogOf s = s
      ∧ Answered s t .exchange r (.plain c []) noBytes
    (d < 60 ∨ 14400 < d → failed .badForm)
    ∧ (60 ≤ d → d ≤ 14400 → s.exchange.paramsSet = false → failed .notFound)
    ∧ (60 ≤ d → d ≤ 14400 → s.exchange.paramsSet = true → s.exchange.state ≠ .idle → failed .busy)
    ∧ (60 ≤ d → d ≤ 14400 → s.exchange.paramsSet = true → s.exchange.state = .idle →
        (s.exchange.uplinkUp = true → ∃ t, exec .startExchange s = .next t
          ∧ EmptiedTo { s.exchange with deadline := s.now + 1000 * d, tries := 1, nextToCut := 0 }
              { t.exchange with resend := none } .opening
          ∧ t.exchange.resend = some (s.now + s.exchange.retransmit)
          ∧ MessageSent s t .hello (beBytes 4 s.journal.acked ++ beBytes 1 s.journal.fresh.toNat
              ++ beBytes 4 s.exchange.lastBatch)
          ∧ t.storeWord offSession = 1 ∧ t.storeWord offOutcome = BitVec.ofNat 32 s.exchange.lastOutcome.code
          ∧ OnlyExchange s t
          ∧ Answered s t .exchange r (.plain .ok []) (fun a => decide (0x40 ≤ a) && decide (a < 0x48)))
        ∧ (s.exchange.uplinkUp = false → ∃ t, exec .startExchange s = .next t
          ∧ SessionEnded (s.setExchange { s.exchange with
              deadline := s.now + 1000 * d, tries := 0, nextToCut := 0 }) t .linkDown 0
          ∧ t.net = s.net ∧ OnlyExchange s t
          ∧ Answered s t .exchange r (.plain .ok []) (fun a => logBytes a || (decide (0x40 ≤ a) && decide (a < 0x48))))))
  ∧ ∀ (s : State) (r : RecordInHand), InHand s .exchange Kind.abortExchange r →
    (s.exchange.state = .idle → ∃ t, exec .abortExchange s = .next t ∧ t.withLogOf s = s
      ∧ Answered s t .exchange r (.noEffect []) noBytes)
    ∧ (s.exchange.state ≠ .idle → ∃ t, exec .abortExchange s = .next t
      ∧ MessageSent s t .bye (byeBody 3 s.exchange.totals) ∧ SessionEnded s t .aborted 0 ∧ OnlyExchange s t
      ∧ Answered s t .exchange r (.plain .ok [])
          (fun a => logBytes a || (decide (0x40 ≤ a) && decide (a < 0x48))))

/-! ### Frames from the network -/

/-- FRAME_RECEIVE on a port that is not GUEST. POLICY while STOPPED or unassigned; UNKNOWN for a bad check, a length
outside 64-1518 or EtherType 0x8808. Link frames for the controller are handed over on their own role's port, each read
byte by byte, and dropped when they spell no message (R41, R104); an exchange datagram on the UPLINK port is handed over,
discarded, or dropped as a fragment; any other frame for the controller, an IPv4 datagram that is not the exchange's too,
is UNKNOWN. Towards the gateway or a station learned there, the ingress role sets the class. The appliance's frames, IPv4
datagrams on the UPLINK port that are not the exchange's among them, and group frames go to the host, a broadcast also to
the other ports of its role; the uplink's frames for a guest are metered; the rest goes by the station table and the role
matrix. The source is learned first (R41, R103, R104, R125, R145, R147-R153, R155, R156, R168, R208, R209). The model's
choices: a consumed frame waits in an inbox (log 2); the length counts the check sequence (log 1), whose result is an
operand (log 49); what a PBLOCK must hold (log 26); header checksums are not read (log 16), and lengths that disagree
drop nothing (log 57); a link down is found before an empty pool (log 58); the order of copies (log 18); a guest's frame
from a LAN port (log 45); a tag or label of 0 (log 43). -/
def Obligations.FramesReceived : Prop :=
  (∀ (a b : Role), roleAllows a (some b) = true ↔
    (a = .till ∧ b = .office) ∨ (a = .label ∧ (b = .office ∨ b = .label))
      ∨ ((a = .office ∨ a = .uplink) ∧ (b = .till ∨ b = .label ∨ b = .office)))
  ∧ ∀ (p : Port) (ok : Bool) (bytes : List Byte) (s : State), s.Sound →
    let f := Frame.ofBytes bytes
    let counted := { (s.port p).counters with framesIn := (s.port p).counters.framesIn + 1 }
    let inForm := ok = true ∧ 64 ≤ bytes.length ∧ bytes.length ≤ 1518 ∧ f.etherType ≠ 0x8808
    let dropped := fun (r : DropReason) (t : State) => (t.port p).counters = counted.drop r
      ∧ { t.port p with counters := (s.port p).counters } = s.port p ∧ (∀ q, q ≠ p → t.port q = s.port q)
    let learned := fun t : State => ∀ a, t.stationRecord a =
      if a = f.source ∧ isGroup a = false ∧ a ≠ s.net.controller ∧ a ≠ s.net.appliance
          ∧ ((s.stationRecord a).isSome = true ∨ s.net.stations.length < 1024)
      then some { port := p, lastSeen := s.now } else s.stationRecord a
    let onlyNet := fun t : State => t.setNet s.net = s
    let drops := fun r : DropReason => ∃ t, exec (.frameReceive p ok bytes) s = .next t
      ∧ dropped r t ∧ t.net.classes = s.net.classes ∧ t.net.delivery = s.net.delivery ∧ learned t ∧ onlyNet t
    (s.requests.runState = .stopped ∨ (s.port p).role = none → ∃ t, exec (.frameReceive p ok bytes) s = .next t
      ∧ dropped .policy t ∧ { t.net with ports := s.net.ports } = s.net ∧ onlyNet t)
    ∧ (s.requests.runState = .running → (s.port p).role ≠ none → ¬ inForm →
        ∃ t, exec (.frameReceive p ok bytes) s = .next t
        ∧ dropped .unknown t ∧ { t.net with ports := s.net.ports } = s.net ∧ onlyNet t)
    ∧ ∀ role, s.requests.runState = .running → (s.port p).role = some role → role ≠ .guest → inForm →
        (f.dest = s.net.controller → f.etherType = s.net.tillType → role = .till →
            (∀ m, TillSpelled f.payload m → ∃ t, exec (.frameReceive p ok bytes) s = .next t
              ∧ t.tills = { s.tills with
                  inbox := s.tills.inbox ++ [{ port := p, source := f.source, till := beField f.payload 1 1, message := m }] }
              ∧ (t.port p).counters = counted ∧ learned t ∧ onlyNet (t.setTills s.tills))
            ∧ ((∀ m, ¬ TillSpelled f.payload m) → drops .unknown))
        ∧ (f.dest = s.net.controller → f.etherType ≠ s.net.tillType → f.etherType = s.net.labelType → role = .label →
            (∀ id m, LabelSpelled f.payload id m → ∃ t, exec (.frameReceive p ok bytes) s = .next t
              ∧ t.link = { s.link with
                  inbox := s.link.inbox ++ [{ port := p, source := f.source, station := id, message := m }] }
              ∧ (t.port p).counters = counted ∧ learned t ∧ onlyNet (t.setLink s.link))
            ∧ ((∀ id m, ¬ LabelSpelled f.payload id m) → drops .unknown))
        ∧ (f.dest = s.net.controller → f.etherType ≠ s.net.tillType ∨ role ≠ .till →
            f.etherType ≠ s.net.labelType ∨ role ≠ .label → ¬ s.ExchangeDatagram role f → drops .unknown)
        ∧ (s.OwnDatagram role f →
            let words := beField f.payload 0 1 % 16
            (beField f.payload 6 2 % 16384 ≠ 0 → drops .unknown)
            ∧ (let udp := (f.payload.take (beField f.payload 2 2)).drop (4 * words)
               let message := (udp.drop 8).take (beField udp 4 2 - 8)
               let taken := s.exchange.state ≠ .idle ∧ BitVec.ofNat 32 (beField f.payload 12 4) = s.exchange.serverIp
                 ∧ MessageHeaderGood s.exchange message
               beField f.payload 6 2 % 16384 = 0 → beField f.payload 9 1 = 17 → 8 ≤ udp.length →
               beField udp 2 2 = s.exchange.udpPort →
               (∀ m, taken → MessageSpelled (beField message 2 1) (message.drop 12) m → ∃ t,
                  exec (.frameReceive p ok bytes) s = .next t
                  ∧ t.exchange = { s.exchange with inbox := s.exchange.inbox ++ [m] }
                  ∧ (t.port p).counters = counted ∧ learned t ∧ onlyNet (t.setExchange s.exchange))
               ∧ (¬ taken ∨ (∀ m, ¬ MessageSpelled (beField message 2 1) (message.drop 12) m) → ∃ t,
                  exec (.frameReceive p ok bytes) s = .next t
                  ∧ (t.port p).counters = counted ∧ t.net.classes = s.net.classes ∧ t.net.delivery = s.net.delivery
                  ∧ learned t ∧ onlyNet t)))
        ∧ (f.dest ≠ s.net.controller → f.dest = s.net.gateway
              ∨ (f.source ≠ f.dest ∧ ∃ x, s.stationRecord f.dest = some x ∧ (s.port x.port).role = some .uplink) →
            (role = .label ∨ (role = .uplink ∧ f.dest ≠ s.net.appliance) → drops .policy)
            ∧ ∀ u, role = .till ∨ role = .office → s.net.uplink = some u →
              let c := if role = .till then UplinkClass.payment else .store
              ((s.port u).linkUp = false → drops .unknown)
              ∧ ((s.port u).linkUp = true → s.net.freeBuffers = 0 → drops .noBuffer)
              ∧ ((s.port u).linkUp = true → 0 < s.net.freeBuffers → s.net.classCaps.get c ≤ (s.net.classes.get c).length →
                  drops .queueCap)
              ∧ ((s.port u).linkUp = true → 0 < s.net.freeBuffers → (s.net.classes.get c).length < s.net.classCaps.get c →
                  ∃ t, exec (.frameReceive p ok bytes) s = .next t
                  ∧ t.net.classes.get c = s.net.classes.get c ++ [f]
                  ∧ (∀ d, d ≠ c → t.net.classes.get d = s.net.classes.get d)
                  ∧ t.net.freeBuffers = s.net.freeBuffers - 1 ∧ (t.port p).counters = counted ∧ learned t ∧ onlyNet t))
        ∧ (f.dest ≠ s.net.controller → f.dest ≠ s.net.gateway → s.stationRecord f.dest = none → f.source ≠ f.dest →
            isGroup f.dest = false →
            (f.dest = s.net.appliance → ¬ s.ExchangeDatagram role f →
              ((s.chain .delivery).phase = .running → 0 < s.net.freeBuffers → s.net.delivery.length < 64 → ∃ t,
                exec (.frameReceive p ok bytes) s = .next t
                ∧ t.net.delivery = s.net.delivery ++ [{ frame := f, ingress := p, reason := .toAppliance }]
                ∧ t.net.freeBuffers = s.net.freeBuffers - 1 ∧ (t.port p).counters = counted ∧ learned t ∧ onlyNet t)
              ∧ ((s.chain .delivery).phase = .running → s.net.freeBuffers = 0 → drops .noBuffer)
              ∧ ((s.chain .delivery).phase = .running → 0 < s.net.freeBuffers → 64 ≤ s.net.delivery.length →
                  drops .queueCap)
              ∧ ((s.chain .delivery).phase ≠ .running → ∃ t, exec (.frameReceive p ok bytes) s = .next t
                ∧ t.requests.deliveryMiss = s.requests.deliveryMiss + 1
                ∧ t.storeWord offDeliveryMiss = s.requests.deliveryMiss + 1 ∧ (t.port p).counters = counted ∧ learned t
                ∧ (t.withLogOf s).setNet s.net = s))
            ∧ (f.dest ≠ s.net.appliance → s.session f.dest = none ∨ role ≠ .uplink → drops .unknown))
        ∧ (f.dest ≠ s.net.controller → f.dest ≠ s.net.gateway → f.dest ≠ s.net.appliance → s.stationRecord f.dest = none →
            isGroup f.dest = true → 6 ≤ s.net.freeBuffers → s.net.delivery.length < 64 →
            let copies := fun q : Port => f.dest = 0xFFFFFFFFFFFF ∧ (role = .office ∨ role = .label ∨ role = .uplink)
              ∧ q ≠ p ∧ (s.port q).role = some role
            let joins := fun q : Port => copies q ∧ (s.port q).linkUp = true ∧ (s.port q).lan.length < (s.port q).lanCap
            let copied := fun (held : Nat) (t : State) =>
              (∀ q, q ≠ p → t.port q = if joins q then { s.port q with lan := (s.port q).lan ++ [f] } else s.port q)
              ∧ t.port p = { s.port p with
                  counters := (counted.drops .unknown (Port.all.countP (fun q =>
                      decide (copies q ∧ (s.port q).linkUp = false)))).drops .queueCap (Port.all.countP (fun q =>
                      decide (copies q ∧ (s.port q).linkUp = true ∧ (s.port q).lanCap ≤ (s.port q).lan.length))) }
              ∧ t.net.classes = s.net.classes ∧ learned t
              ∧ t.net.freeBuffers + held + Port.all.countP (fun q => decide (joins q)) = s.net.freeBuffers
            ((s.chain .delivery).phase = .running → ∃ t, exec (.frameReceive p ok bytes) s = .next t ∧ copied 1 t
              ∧ t.net.delivery = s.net.delivery ++ [{ frame := f, ingress := p, reason := .broadcast }] ∧ onlyNet t)
            ∧ ((s.chain .delivery).phase ≠ .running → ∃ t, exec (.frameReceive p ok bytes) s = .next t ∧ copied 0 t
              ∧ t.net.delivery = s.net.delivery ∧ t.requests.deliveryMiss = s.requests.deliveryMiss + 1
              ∧ (t.withLogOf s).setNet s.net = s))
        ∧ (f.dest ≠ s.net.controller → f.dest ≠ s.net.gateway → f.dest ≠ s.net.appliance → isGroup f.dest = false →
            f.source = f.dest → (s.stationRecord f.dest).isSome = true ∨ s.net.stations.length < 1024 → drops .policy)
        ∧ (∀ g, role = .uplink → f.dest ≠ s.net.controller → f.dest ≠ s.net.gateway → f.dest ≠ s.net.appliance →
            isGroup f.dest = false → f.source ≠ f.dest → s.session f.dest = some g →
            (∀ x, s.stationRecord f.dest = some x → (s.port x.port).role ≠ some .uplink) →
            ((s.port g.port).role ≠ some .guest → drops .policy)
            ∧ ((s.port g.port).role = some .guest → ¬ s.JoinsLan g.port → drops (s.lanDropReason g.port))
            ∧ ((s.port g.port).role = some .guest → s.JoinsLan g.port →
                (g.phase ≠ .admitted → drops .guest)
                ∧ (g.phase = .admitted → g.used + bytes.length ≤ g.budget → ∃ t,
                  exec (.frameReceive p ok bytes) s = .next t
                  ∧ (t.port g.port).lan = (s.port g.port).lan ++ [f] ∧ t.net.freeBuffers = s.net.freeBuffers - 1
                  ∧ (t.port p).counters = counted ∧ learned t
                  ∧ t.session f.dest = some { g with used := g.used + bytes.length }
                  ∧ (∀ a, a ≠ f.dest → t.session a = s.session a) ∧ (t.setNet s.net).setGuests s.guests = s)
                ∧ (g.phase = .admitted → g.budget < g.used + bytes.length → ∃ t,
                  exec (.frameReceive p ok bytes) s = .next t ∧ dropped .guest t ∧ learned t
                  ∧ t.session f.dest = some { g with phase := .lapsed, lapse := .spent }
                  ∧ Posted s t .guestLapsed (addressSubject f.dest) (twoParts 1 (g.used / 1048576))
                  ∧ ((t.withLogOf s).setNet s.net).setGuests s.guests = s)))
        ∧ ∀ x, f.dest ≠ s.net.controller → f.dest ≠ s.net.gateway → f.dest ≠ s.net.appliance → isGroup f.dest = false →
            f.source ≠ f.dest → s.session f.dest = none ∨ role ≠ .uplink → s.stationRecord f.dest = some x →
            (s.port x.port).role ≠ some .uplink →
            (x.port = p ∨ roleAllows role (s.port x.port).role = false → drops .policy)
            ∧ (x.port ≠ p → roleAllows role (s.port x.port).role = true →
                (s.JoinsLan x.port → ∃ t, exec (.frameReceive p ok bytes) s = .next t
                  ∧ (t.port x.port).lan = (s.port x.port).lan ++ [f] ∧ t.net.freeBuffers = s.net.freeBuffers - 1
                  ∧ (t.port p).counters = counted ∧ learned t ∧ onlyNet t)
                ∧ (¬ s.JoinsLan x.port → drops (s.lanDropReason x.port)))

/-- FRAME_RECEIVE on a GUEST port: GUEST while CLOSED, with no sighting; in OPEN a new station gets a HELD session and an
old one is sighted. A frame to the gateway of an ADMITTED station joins the GUEST queue and is metered, unless the link,
the buffers or the cap refuse it uncharged; one its budget does not cover makes it lapse SPENT; any other guest's is
dropped. A join that reaches the pause level sends a pause frame on every GUEST port. Frames to the appliance or a group
go to the host as GUEST_PORTAL; one to the controller or to nobody known is UNKNOWN, one to a station of another port
POLICY (R147, R149-R152, R157, R160, R164, R166-R168). The model's choices: the CLOSED drop comes after the frame check
(log 19); lengths count the check sequence (log 1); the pause operation's code (log 36); a port whose link is down sends
no pause frame (log 29); a station with a guest session and no station record is UNKNOWN here (log 45); a link down is found
before an empty pool (log 58). -/
def Obligations.GuestFrames : Prop :=
  ∀ (p : Port) (bytes : List Byte) (s : State), s.Sound → s.requests.runState = .running →
    (s.port p).role = some .guest → 64 ≤ bytes.length → bytes.length ≤ 1518 → (Frame.ofBytes bytes).etherType ≠ 0x8808 →
    let f := Frame.ofBytes bytes
    let counted := { (s.port p).counters with framesIn := (s.port p).counters.framesIn + 1 }
    let sighted := fun (g : GuestSession) => { g with lastSeen := s.now, port := p }
    let mine := isGroup f.source = false ∧ f.source ≠ s.net.controller ∧ f.source ≠ s.net.appliance
    let fresh : GuestSession := { port := p, phase := .held, lapse := .noLapse, budget := 0, used := 0, timeLimit := 0
                                  admittedAt := 0, lastSeen := s.now }
    (s.clock.period = .closed → ∃ t, exec (.frameReceive p true bytes) s = .next t
      ∧ (t.port p).counters = counted.drop .guest ∧ t.guests = s.guests ∧ { t.net with ports := s.net.ports } = s.net
      ∧ t.setNet s.net = s)
    ∧ (s.clock.period = .opened → (isGroup f.source = true ∨ f.source = s.net.controller ∨ f.source = s.net.appliance) →
        ∃ t, exec (.frameReceive p true bytes) s = .next t
        ∧ (t.port p).counters = counted.drop .guest ∧ t.guests = s.guests ∧ t.setNet s.net = s)
    ∧ (s.clock.period = .opened → mine → s.session f.source = none → 512 ≤ s.guests.sessions.length → ∃ t,
        exec (.frameReceive p true bytes) s = .next t
        ∧ (t.port p).counters = counted.drop .guest ∧ t.guests = s.guests ∧ t.setNet s.net = s)
    ∧ (s.clock.period = .opened → mine → f.dest = s.net.gateway → f.dest ≠ s.net.controller →
        ∀ u, s.net.uplink = some u → (s.port u).linkUp = true →
        0 < s.net.freeBuffers → s.net.classes.guest.length < s.net.classCaps.guest →
        (s.session f.source = none → s.guests.sessions.length < 512 → ∃ t, exec (.frameReceive p true bytes) s = .next t
          ∧ t.session f.source = some fresh
          ∧ t.storeWord offGuests = BitVec.ofNat 32 (s.guests.sessions.length + 1)
          ∧ (t.port p).counters = counted.drop .guest ∧ t.net.classes = s.net.classes
          ∧ ((t.withLogOf s).setNet s.net).setGuests s.guests = s)
        ∧ (∀ g, s.session f.source = some g → g.phase ≠ .admitted → ∃ t, exec (.frameReceive p true bytes) s = .next t
          ∧ t.session f.source = some (sighted g) ∧ (t.port p).counters = counted.drop .guest
          ∧ t.net.classes = s.net.classes ∧ (t.setNet s.net).setGuests s.guests = s)
        ∧ (∀ g, s.session f.source = some g → g.phase = .admitted → g.used + bytes.length ≤ g.budget → ∃ t,
          exec (.frameReceive p true bytes) s = .next t
          ∧ t.session f.source = some { sighted g with used := g.used + bytes.length }
          ∧ t.net.classes = { s.net.classes with guest := s.net.classes.guest ++ [f] }
          ∧ t.net.freeBuffers = s.net.freeBuffers - 1 ∧ (t.port p).counters = counted
          ∧ (let reaches := s.net.paused = false ∧ s.net.pauseLevel ≤ s.net.classes.guest.length + 1
             t.net.paused = (s.net.paused || decide reaches)
             ∧ ∀ q, (t.port q).control = (s.port q).control
                 ++ (if reaches ∧ (s.port q).role = some .guest ∧ (s.port q).linkUp = true then [s.pauseFrame .pause] else []))
          ∧ (t.setNet s.net).setGuests s.guests = s)
        ∧ (∀ g, s.session f.source = some g → g.phase = .admitted → g.budget < g.used + bytes.length → ∃ t,
          exec (.frameReceive p true bytes) s = .next t
          ∧ t.session f.source = some { sighted g with phase := .lapsed, lapse := .spent }
          ∧ Posted s t .guestLapsed (addressSubject f.source) (twoParts 1 (g.used / 1048576))
          ∧ (t.port p).counters = counted.drop .guest ∧ t.net.classes = s.net.classes
          ∧ ((t.withLogOf s).setNet s.net).setGuests s.guests = s))
    ∧ ∀ g, s.clock.period = .opened → mine →
        s.session f.source = some g ∨ (s.session f.source = none ∧ s.guests.sessions.length < 512 ∧ g = fresh) →
        let sights := fun t : State => t.session f.source = some (sighted g)
          ∧ (∀ a, a ≠ f.source → t.session a = s.session a) ∧ t.net.stations = s.net.stations
          ∧ (s.session f.source = none → t.storeWord offGuests = BitVec.ofNat 32 (s.guests.sessions.length + 1))
          ∧ ((t.withLogOf s).setNet s.net).setGuests s.guests = s
        let quiet := fun t : State => t.requests = s.requests ∧ (s.session f.source ≠ none → t.store = s.store)
        let drops := fun r : DropReason => ∃ t, exec (.frameReceive p true bytes) s = .next t ∧ sights t
          ∧ (t.port p).counters = counted.drop r ∧ t.net.classes = s.net.classes ∧ t.net.delivery = s.net.delivery
          ∧ quiet t
        (f.dest = s.net.controller → drops .unknown)
        ∧ (∀ u, f.dest = s.net.gateway → f.dest ≠ s.net.controller → s.net.uplink = some u →
            ((s.port u).linkUp = false → drops .unknown)
            ∧ ((s.port u).linkUp = true → s.net.freeBuffers = 0 → drops .noBuffer)
            ∧ ((s.port u).linkUp = true → 0 < s.net.freeBuffers → s.net.classCaps.guest ≤ s.net.classes.guest.length →
                drops .queueCap))
        ∧ (f.dest ≠ s.net.controller → f.dest ≠ s.net.gateway →
            (∀ x, s.stationRecord f.dest = some x → (s.port x.port).role ≠ some .uplink) →
            (f.dest = s.net.appliance ∨ isGroup f.dest = true →
              ((s.chain .delivery).phase = .running → s.net.freeBuffers = 0 → drops .noBuffer)
              ∧ ((s.chain .delivery).phase = .running → 0 < s.net.freeBuffers → 64 ≤ s.net.delivery.length → drops .queueCap)
              ∧ ((s.chain .delivery).phase = .running → 0 < s.net.freeBuffers → s.net.delivery.length < 64 → ∃ t,
                exec (.frameReceive p true bytes) s = .next t ∧ sights t ∧ (t.port p).counters = counted
                ∧ t.net.delivery = s.net.delivery ++ [{ frame := f, ingress := p, reason := .guestPortal }]
                ∧ t.net.freeBuffers = s.net.freeBuffers - 1 ∧ (∀ q, (t.port q).lan = (s.port q).lan)
                ∧ quiet t)
              ∧ ((s.chain .delivery).phase ≠ .running → ∃ t, exec (.frameReceive p true bytes) s = .next t ∧ sights t
                ∧ (t.port p).counters = counted ∧ t.requests.deliveryMiss = s.requests.deliveryMiss + 1
                ∧ t.net.delivery = s.net.delivery))
            ∧ (f.dest ≠ s.net.appliance → isGroup f.dest = false →
              (s.stationRecord f.dest = none → drops .unknown)
              ∧ (∀ x, s.stationRecord f.dest = some x → drops .policy)))

/-! ### Tills -/

/-- SIGN_ON, SIGN_OFF and TILL_SILENCE_EXPIRY: an id outside 1-64 is BAD_TILL; a bound entry is refreshed for its own
station and TILL_CLASH for another; any other entry is bound, with its notice; every good answer carries the till
mark. A SIGN_OFF ends a matched session, with its notice, and says NOT_SIGNED_ON or TILL_CLASH otherwise; 900 s of
silence end a session too (R45-R48, R43). That an expiry before its time does nothing is the model's choice (log 11), and
so is a message acted on whatever its port's role has become (log 40). -/
def Obligations.TillSigns : Prop :=
  (∀ (s : State) (f : TillFrame) (rest : List TillFrame), s.Sound → s.tills.inbox = f :: rest → f.message = .signOn →
    (f.till = 0 ∨ 64 < f.till → ∃ t, exec .signOn s = .next t
      ∧ TillAnswered s t f.port f.source 2 f.till (beBytes 1 2 ++ zeros 8) ∧ t.tills = { s.tills with inbox := rest })
    ∧ ∀ e, s.till f.till = some e →
        (e.phase = .signedOn → e.station ≠ some f.source → ∃ t, exec .signOn s = .next t
          ∧ TillAnswered s t f.port f.source 2 f.till (beBytes 1 1 ++ zeros 8)
          ∧ t.tills = { s.tills with inbox := rest })
        ∧ (e.phase = .signedOn → e.station = some f.source → ∃ t, exec .signOn s = .next t
          ∧ TillAnswered s t f.port f.source 2 f.till
              (beBytes 1 0 ++ beBytes 4 (s.mark f.till).1 ++ beBytes 4 (s.mark f.till).2)
          ∧ TillEntryIs s t rest f.till { e with lastHeard := s.now, port := some f.port })
        ∧ (e.phase ≠ .signedOn → ∃ t, exec .signOn s = .next t
          ∧ TillAnswered s t f.port f.source 2 f.till
              (beBytes 1 0 ++ beBytes 4 (s.mark f.till).1 ++ beBytes 4 (s.mark f.till).2)
          ∧ TillEntryIs s t rest f.till { e with
              phase := .signedOn, station := some f.source, port := some f.port, lastHeard := s.now, quotes := 0 }
          ∧ Posted s t .tillSignedOn f.till (Port.index f.port)))
  ∧ (∀ (s : State) (f : TillFrame) (rest : List TillFrame), s.Sound → s.tills.inbox = f :: rest → f.message = .signOff →
    (f.till = 0 ∨ 64 < f.till → ∃ t, exec .signOff s = .next t
      ∧ TillAnswered s t f.port f.source 8 f.till (beBytes 1 1) ∧ t.tills = { s.tills with inbox := rest })
    ∧ ∀ e, s.till f.till = some e →
        (e.phase ≠ .signedOn → ∃ t, exec .signOff s = .next t
          ∧ TillAnswered s t f.port f.source 8 f.till (beBytes 1 1) ∧ t.tills = { s.tills with inbox := rest })
        ∧ (e.phase = .signedOn → e.station ≠ some f.source → ∃ t, exec .signOff s = .next t
          ∧ TillAnswered s t f.port f.source 8 f.till (beBytes 1 2) ∧ t.tills = { s.tills with inbox := rest })
        ∧ (e.phase = .signedOn → e.station = some f.source → ∃ t, exec .signOff s = .next t
          ∧ TillAnswered s t f.port f.source 8 f.till (beBytes 1 0)
          ∧ TillEntryIs s t rest f.till { e with phase := .signedOff, lastHeard := s.now, port := some f.port }
          ∧ Posted s t .tillSignedOff f.till e.quotes.toNat))
  ∧ ∀ (n : Nat) (s : State), s.Sound →
    (s.till n = none → exec (.tillSilenceExpiry n) s = .next s)
    ∧ ∀ e, s.till n = some e →
        (e.phase ≠ .signedOn ∨ s.now < e.lastHeard + 900000 → exec (.tillSilenceExpiry n) s = .next s)
        ∧ (e.phase = .signedOn → e.lastHeard + 900000 ≤ s.now → ∃ t, exec (.tillSilenceExpiry n) s = .next t
          ∧ TillEntryIs s t s.tills.inbox n { e with phase := .signedOff }
          ∧ Posted s t .tillSignedOff n e.quotes.toNat ∧ (t.withLogOf s).setTills s.tills = s)

/-- QUOTE_ASK: NOT_SIGNED_ON with empty fields to an unmatched sender; else the entry is heard, its quotes raised, and the
answer is NOT_FOUND or BAD_QUANTITY with empty fields, OVERLIMIT with the current version's, or OK with the amount, the
basis, and the number, unit price and text of the basis version; while items and labels agree (LogKept), no amount is
above what the line costs under the version that a label of the item has confirmed (R45, R50, R51, R29, R34, R35, R84). That
an ask is taken whatever its port's role has become is the model's choice (log 40). -/
def Obligations.QuoteAnswered : Prop :=
  (∀ (s : State) (f : TillFrame) (rest : List TillFrame) (ref a q : Nat), s.Sound → s.tills.inbox = f :: rest →
    f.message = .quoteAsk ref a q →
    let empty := fun n : Nat => beBytes 2 ref ++ beBytes 1 n ++ zeros 39
    let full := fun (n basis amount : Nat) (i : Item) (v : Version) =>
      beBytes 2 ref ++ beBytes 1 n ++ beBytes 1 basis ++ beBytes 4 amount ++ beBytes 4 v.number
        ++ beBytes 4 (unitPriceOf i v.base).1 ++ beBytes 1 (unitPriceOf i v.base).2.toNat ++ textField i.text
    ((∀ e, s.till f.till = some e → e.phase ≠ .signedOn ∨ e.station ≠ some f.source) → ∃ t, exec .quoteAsk s = .next t
      ∧ TillAnswered s t f.port f.source 4 f.till (empty 4) ∧ t.tills = { s.tills with inbox := rest })
    ∧ ∀ e, s.till f.till = some e → e.phase = .signedOn → e.station = some f.source →
        let answers := fun body : List Byte => ∃ t, exec .quoteAsk s = .next t
          ∧ TillAnswered s t f.port f.source 4 f.till body
          ∧ TillEntryIs s t rest f.till { e with lastHeard := s.now, port := some f.port, quotes := e.quotes + 1 }
        (s.item a = none → answers (empty 1))
        ∧ ∀ i, s.item a = some i →
            let most := if i.saleKind = .each then 999 else 99999
            (q = 0 ∨ most < q → answers (empty 3))
            ∧ (1 ≤ q → q ≤ most →
                (lowerOfTwo i q = none → answers (full 2 0 0 i i.current))
                ∧ (∀ x, lowerOfTwo i q = some (x, .current) → answers (full 0 0 x i i.current))
                ∧ (∀ x v, lowerOfTwo i q = some (x, .pending) → i.pending = some v → answers (full 0 1 x i v))))
  ∧ ∀ (s : State) (a : Nat) (i : Item) (id : Nat) (l : Label) (c : Confirmed) (q x : Nat) (b : Basis), s.ItemsAgree →
    s.item a = some i → id ∈ i.labels → s.label id = some l → l.confirmed = some c → lowerOfTwo i q = some (x, b) →
    ∃ v, (v = i.current ∨ i.pending = some v) ∧ v.number = c.version ∧ x ≤ lineAmount i.saleKind v q

/-- SALE_PUT by its checks in order: form, match, a sale in flight, the till mark. A sale that passes them is handed to the
Journal Unit with its context kept and no answer yet; the same sale sent again while in flight is left unanswered
(R52-R55, R64). The model's choices: a sale handed over to an idle Journal Unit waits for APPEND_START instead of starting
at once (log 21), and a sale is taken whatever its port's role has become (log 40). -/
def Obligations.SaleTaken : Prop :=
  (∀ (basket ms n : Nat) (lines : List SaleLine), saleInForm basket ms n lines = true ↔
    1 ≤ basket ∧ 1 ≤ n ∧ n ≤ lines.length ∧ ms < 86400000 ∧ ∀ l ∈ lines, 1 ≤ l.article ∧ l.article ≤ 99999999999999
      ∧ 1 ≤ l.quantity ∧ l.quantity ≤ 99999 ∧ l.amount ≤ 99999999 ∧ l.basis ≤ 1)
  ∧ ∀ (s : State) (f : TillFrame) (rest : List TillFrame) (basket day ms total n : Nat) (lines : List SaleLine),
    s.Sound → s.tills.inbox = f :: rest → f.message = .salePut basket day ms total n lines →
    let ack := fun (o sequence : Nat) => beBytes 4 basket ++ beBytes 1 o ++ beBytes 4 sequence
    (saleInForm basket ms n lines = false → ∃ t, exec .salePut s = .next t
      ∧ TillAnswered s t f.port f.source 6 f.till (ack 5 0) ∧ t.tills = { s.tills with inbox := rest })
    ∧ (saleInForm basket ms n lines = true →
        ((∀ e, s.till f.till = some e → e.phase ≠ .signedOn ∨ e.station ≠ some f.source) →
          ∃ t, exec .salePut s = .next t
          ∧ TillAnswered s t f.port f.source 6 f.till (ack 4 0) ∧ t.tills = { s.tills with inbox := rest })
        ∧ ∀ e, s.till f.till = some e → e.phase = .signedOn → e.station = some f.source →
            let heard := { e with lastHeard := s.now, port := some f.port }
            let answers := fun body : List Byte => ∃ t, exec .salePut s = .next t
              ∧ TillAnswered s t f.port f.source 6 f.till body ∧ TillEntryIs s t rest f.till heard
            (∀ ctx, e.inFlight = some ctx → ctx.basket = basket → ∃ t, exec .salePut s = .next t
              ∧ TillEntryIs s t rest f.till heard ∧ t.setTills s.tills = s)
            ∧ (∀ ctx, e.inFlight = some ctx → ctx.basket ≠ basket → answers (ack 3 0))
            ∧ (e.inFlight = none → basket = (s.mark f.till).1 → answers (ack 1 (s.mark f.till).2))
            ∧ (e.inFlight = none → basket < (s.mark f.till).1 → answers (ack 2 0))
            ∧ (e.inFlight = none → (s.mark f.till).1 < basket → ∃ t, exec .salePut s = .next t
              ∧ TillEntryIs s t rest f.till { heard with
                  inFlight := some { basket := basket, station := f.source, port := f.port } }
              ∧ (let sale : Sale := { till := f.till, basket := basket, day := day, ms := ms, total := total
                                      lines := lines }
                 t.journal = if s.journal.append = none then
                    { s.journal with append := some { sale := sale, started := false, reserved := 0 } }
                  else { s.journal with queue := s.journal.queue ++ [sale] })
              ∧ (t.setTills s.tills).setJournal s.journal = s))

/-! ### The journal -/

/-- APPEND_START and APPEND_END: nothing without an append in the right state; a start that lacks room or a sequence
number ends HOLD, any other reserves its units; an end has written the entry, which the scan's walk accepts, raised the
till's mark, written a header, and answers ACCEPTED with the sequence; nothing else in the journal area and no other mark
is touched; the status block's journal fields are written, the alert side is tested, and JOURNAL_LEVEL posted when it
changes; while the session is in UPLOAD, blocks are then cut from the journal as it stands (R56, R62-R65, R67, R75,
R129). The model's choices: the append handed over when another ends, or when one is refused, waits to start instead of
starting at once (log 21); a start or an end without its append (log 47); each fragment of a block that does not fit
counts as a drop (log 27), of the reason of log 44. -/
def Obligations.AppendsRun : Prop :=
  (∀ s : State, s.Sound →
    ((∀ a, s.journal.append = some a → a.started = true) → exec .appendStart s = .next s)
    ∧ ∀ a, s.journal.append = some a → a.started = false →
        let next := fun t : State => t.journal = match s.journal.queue with
          | [] => { s.journal with append := none }
          | sale :: rest => { s.journal with
              append := some { sale := sale, started := false, reserved := 0 }, queue := rest }
        (∀ e ctx, s.journal.freeUnits < 1 + (a.sale.lines.length + 1) / 2 ∨ s.journal.next = 4294967295 →
          s.till a.sale.till = some e → e.inFlight = some ctx → ∃ t, exec .appendStart s = .next t ∧ next t
          ∧ LanOffered s t ctx.port (s.tillFrameOut ctx.station 6 a.sale.till
              (beBytes 4 ctx.basket ++ beBytes 1 3 ++ zeros 4))
          ∧ TillEntryIs s t s.tills.inbox a.sale.till { e with inFlight := none } ∧ t.store = s.store
          ∧ t.backed = s.backed)
        ∧ (1 + (a.sale.lines.length + 1) / 2 ≤ s.journal.freeUnits → s.journal.next ≠ 4294967295 →
          exec .appendStart s = .next (s.setJournal { s.journal with
            append := some { a with started := true, reserved := 1 + (a.sale.lines.length + 1) / 2 } })))
  ∧ ∀ s : State, s.Sound →
    ((∀ a, s.journal.append = some a → a.started = false) → exec .appendEnd s = .next s)
    ∧ ∀ a e ctx, s.journal.append = some a → a.started = true → s.till a.sale.till = some e → e.inFlight = some ctx →
        a.sale.basket < 4294967296 → 1 ≤ a.sale.lines.length → a.sale.lines.length ≤ 255 →
        s.journal.next < 4294967295 → s.journal.head < 114688 → s.journal.acked < s.journal.next →
        ∃ t u, exec .appendEnd s = .next t
        ∧ t.journal.next = s.journal.next + 1 ∧ t.journal.used = s.journal.used + a.reserved
        ∧ t.journal.head = s.journal.head ∧ t.journal.acked = s.journal.acked ∧ t.journal.fresh = s.journal.fresh
        ∧ t.journal.side = t.journal.sideNow ∧ LevelTold s t
        ∧ acceptEntry t.backed s.journal.tail s.journal.next 0 = some
            { till := a.sale.till, basket := a.sale.basket, sequence := s.journal.next
              units := unitsFor a.sale.lines.length }
        ∧ t.mark a.sale.till = (a.sale.basket, s.journal.next)
        ∧ (∀ n, 1 ≤ n → n ≤ 64 → n ≠ a.sale.till → t.mark n = s.mark n)
        ∧ (∃ g copy, newestHeader t.backed = some ({ generation := g, head := s.journal.head, acked := s.journal.acked
                                                     next := s.journal.next + 1, fresh := s.journal.fresh }, copy))
        ∧ (∀ u, u < 114688 → (∀ k, k < unitsFor a.sale.lines.length → (s.journal.tail + k) % 114688 ≠ u) →
            ∀ k, k < 64 → t.backed.read (unitAddr u + k) = s.backed.read (unitAddr u + k))
        ∧ t.storeWord offNext = BitVec.ofNat 32 (s.journal.next + 1)
        ∧ t.storeWord offBackedState = BitVec.ofNat 32 s.journal.backedState.code
        ∧ t.storeWord offUnitsUsed = BitVec.ofNat 32 t.journal.used
        ∧ t.storeWord offUnitsFree = BitVec.ofNat 32 (114688 - t.journal.used)
        ∧ t.storeWord offOldest = BitVec.ofNat 32 (s.journal.acked + 1)
        ∧ t.journal.append = s.journal.queue.head?.map (fun x => { sale := x, started := false, reserved := 0 })
        ∧ t.journal.queue = s.journal.queue.tail
        ∧ LanOffered s u ctx.port (s.tillFrameOut ctx.station 6 a.sale.till
            (beBytes 4 ctx.basket ++ beBytes 1 0 ++ beBytes 4 s.journal.next))
        ∧ TillEntryIs s t s.tills.inbox a.sale.till { e with inFlight := none }
        ∧ u.exchange = s.exchange ∧ u.journal = { t.journal with append := none, queue := s.journal.queue }
        ∧ if s.exchange.state = .upload then
            ∃ bs, BlocksCut u (t.setJournal u.journal) bs ∧ t.store = u.store ∧ OnlyExchange u (t.setJournal u.journal)
          else t = u.setJournal t.journal

/-! ### Base stations -/

/-- BS_HELLO: an unknown station takes a free entry, or is ignored when the table is full; an ACTIVE one is ignored from
another address, refreshed on its own boot count, restarted on another; a LOST one returns. Each hello that is taken is
answered with a CYCLE_SET, and a new, restarted or returned station is announced. A restart gives the updates in flight
back: their labels are QUEUED with their attempts as they were (R98, R106-R108, R110, R111). The arbiter's run at the end
of the hello is the model's choice (log 10), and so is a hello acted on whatever its port's role has become (log 40). -/
def Obligations.StationHello : Prop :=
  ∀ (s : State) (f : LabelFrame) (rest : List LabelFrame) (boot credit zone : Nat), s.Sound → s.link.inbox = f :: rest →
    f.message = .hello boot credit zone →
    let cycle : Frame := s.makeFrame f.source s.net.labelType
      (beBytes 1 2 ++ beBytes 2 f.station ++ beBytes 2 s.link.slots ++ beBytes 2 25)
    let fresh : BaseStation :=
      { id := f.station, address := f.source, port := f.port, bootCount := boot, credit := credit, zone := zone
        phase := .active, lastHeard := s.now, inFlight := [], ready := [], waitingForBuffer := false }
    let only := fun t : State => ((t.withLogOf s).setNet s.net).setLink s.link = s
    (s.station f.station = none → s.link.table.length < 32 → ∃ t, exec .bsHello s = .next t
      ∧ t.link = { s.link with inbox := rest, table := s.link.table ++ [fresh] }
      ∧ Posted s t .baseStationFound f.station (twoParts 1 zone) ∧ LanOffered s t f.port cycle ∧ only t)
    ∧ (s.station f.station = none → 32 ≤ s.link.table.length →
        exec .bsHello s = .next (s.setLink { s.link with inbox := rest }))
    ∧ ∀ b, s.station f.station = some b → (∀ x ∈ s.link.table, x.id = f.station → x = b) →
        (b.phase = .active → b.address ≠ f.source → exec .bsHello s = .next (s.setLink { s.link with inbox := rest }))
        ∧ (b.phase = .active → b.address = f.source → b.bootCount = boot → ∃ t, exec .bsHello s = .next t
          ∧ t.station f.station = some { b with lastHeard := s.now, port := f.port } ∧ t.link.inbox = rest
          ∧ LanOffered s t f.port cycle ∧ t.store = s.store ∧ only t)
        ∧ (b.phase = .active → b.address = f.source → b.bootCount ≠ boot → ∃ t x, exec .bsHello s = .next t
          ∧ t.station f.station = some x ∧ x.bootCount = boot ∧ x.credit = credit ∧ x.zone = zone ∧ x.phase = .active
          ∧ x.lastHeard = s.now ∧ x.port = f.port ∧ x.address = f.source
          ∧ Posted s t .baseStationFound f.station (twoParts 2 zone)
          ∧ (b.inFlight = [] → b.ready = [] → x = { fresh with waitingForBuffer := false }
              ∧ LanOffered s t f.port cycle ∧ only t)
          ∧ ∀ r l u a i, b.inFlight = [r] → b.ready = [] → s.label r.label = some l → l.inFlight = some u →
              u.tag = r.tag → u.kind ≠ .blankUpdate → l.phase = .sent → l.home = some f.station → l.article = some a →
              s.item a = some i → l.confirmed = none → credit < 4 →
              t.label r.label = some { l with inFlight := none, again := false, phase := .queued }
              ∧ x.inFlight = [] ∧ x.ready = [r.label])
        ∧ (b.phase = .lost → ∃ t x, exec .bsHello s = .next t
          ∧ t.station f.station = some x ∧ x.bootCount = boot ∧ x.credit = credit ∧ x.zone = zone ∧ x.phase = .active
          ∧ x.lastHeard = s.now ∧ x.port = f.port ∧ x.address = f.source
          ∧ Posted s t .baseStationFound f.station (twoParts 3 zone)
          ∧ (b.inFlight = [] → b.ready = [] → x = fresh ∧ LanOffered s t f.port cycle ∧ only t))

/-- BASE_STATION_SILENCE and LABEL_SEEN: 30 s of silence make an ACTIVE station LOST, its updates in flight given back
and its loss announced: a label whose update comes back is QUEUED again with its attempts as they were, one that has
become UNBINDING is due its BLANK; a LABEL_SEEN of a station it does not match is dropped; else the station is heard, and
the record of a label takes the reading and its home: an IDLE or SENT one, and one that waits at that home or has nothing
to wait for, is otherwise left; a waiting one, QUEUED or UNBINDING with its BLANK due, leaves the homeless set or its old
home's ready set and joins that of the station that saw it; a STALE one is queued there, with its notice and its report
(R20, R86, R98-R101, R109, R119). The model's choices: an expiry before its time does nothing (log 11), the arbiter's run
after each sighting (log 10), a discarded LABEL_SEEN is counted in no drop counter (log 42), and one is acted on whatever
its port's role has become (log 40). -/
def Obligations.StationReports : Prop :=
  (∀ (n : Nat) (s : State), s.Sound →
    (s.station n = none → exec (.baseStationSilence n) s = .next s)
    ∧ ∀ b, s.station n = some b →
        (b.phase = .lost ∨ s.now < b.lastHeard + 30000 → exec (.baseStationSilence n) s = .next s)
        ∧ (b.phase = .active → b.lastHeard + 30000 ≤ s.now → ∃ t x, exec (.baseStationSilence n) s = .next t
          ∧ t.station n = some x ∧ x.phase = .lost ∧ x.inFlight = [] ∧ x.waitingForBuffer = false
          ∧ x.address = b.address ∧ x.bootCount = b.bootCount ∧ (b.inFlight = [] → x.ready = b.ready)
          ∧ Posted s t .baseStationLost n b.inFlight.length
          ∧ ∀ r l u, b.inFlight = [r] → b.ready = [] → (∀ y ∈ s.link.table, y.id = n → y = b) → s.label r.label = some l →
              l.inFlight = some u → u.tag = r.tag → l.home = some n →
              (u.kind ≠ .blankUpdate → l.phase = .sent → x.ready = [r.label]
                ∧ t.label r.label = some { l with inFlight := none, again := false, phase := .queued })
              ∧ (u.kind ≠ .blankUpdate → l.phase = .unbinding → x.ready = [r.label]
                ∧ t.label r.label = some { l with inFlight := none, attempts := 0, blankDue := true })
              ∧ (u.kind = .blankUpdate → x.ready = [r.label]
                ∧ t.label r.label = some { l with inFlight := none, blankDue := true })))
  ∧ ∀ (s : State) (f : LabelFrame) (rest : List LabelFrame) (gs : List Sighting), s.Sound → s.TablesBounded →
    s.link.inbox = f :: rest →
    f.message = .seen gs →
    ((∀ b, s.station f.station = some b → b.phase = .lost ∨ b.address ≠ f.source) →
      exec .labelSeen s = .next (s.setLink { s.link with inbox := rest }))
    ∧ ∀ b, s.station f.station = some b → b.phase = .active → b.address = f.source →
        (∀ x ∈ s.link.table, x.id = f.station → x = b) →
        ((∀ g ∈ gs, s.label g.label = none) → ∃ t, exec .labelSeen s = .next t
          ∧ t.station f.station = some { b with lastHeard := s.now, port := f.port } ∧ t.link.inbox = rest
          ∧ t.setLink s.link = s)
        ∧ ∀ g l, gs = [g] → s.label g.label = some l →
            let read := { l with battery := g.battery, signal := g.signal, lastHeard := s.now, home := some f.station }
            let blankWaits := l.phase = .unbinding ∧ l.blankDue = true ∧ l.inFlight = none
            (l.phase = .idle ∨ l.phase = .sent ∨ (l.phase = .queued ∧ l.home = some f.station)
                ∨ (l.phase = .unbinding ∧ (l.home = some f.station ∨ ¬ blankWaits)) → ∃ t, exec .labelSeen s = .next t
              ∧ t.label g.label = some read ∧ t.link.inbox = rest
              ∧ (∀ x, x ≠ g.label → t.label x = s.label x) ∧ t.labels.homeless = s.labels.homeless
              ∧ t.station f.station = some { b with lastHeard := s.now, port := f.port }
              ∧ (∀ n, n ≠ f.station → t.station n = s.station n)
              ∧ (t.setLink s.link).setLabels s.labels = s)
            ∧ (l.home ≠ some f.station → b.ready = [] → b.credit ≤ b.costInFlight →
                blankWaits ∨ (l.phase = .queued ∧ l.confirmed = none ∧ ∃ a i, l.article = some a ∧ s.item a = some i) →
                ∃ t, exec .labelSeen s = .next t
                ∧ t.label g.label = some read ∧ (∀ x, x ≠ g.label → t.label x = s.label x) ∧ t.link.inbox = rest
                ∧ t.station f.station = some { b with
                    lastHeard := s.now, port := f.port, ready := [g.label], waitingForBuffer := false }
                ∧ (∀ x, x ∈ t.labels.homeless ↔ x ∈ s.labels.homeless ∧ (l.home = none → x ≠ g.label))
                ∧ (∀ n c, n ≠ f.station → s.station n = some c → t.station n = some (if l.home = some n then
                    { c with ready := c.ready.filter (fun x => x != g.label) } else c))
                ∧ (t.setLink s.link).setLabels s.labels = s)
            ∧ ∀ a i, l.phase = .stale → l.confirmed = none → b.ready = [] → b.credit ≤ b.costInFlight →
                l.article = some a → s.item a = some i → g.label ∈ i.labels →
                ∃ t, exec .labelSeen s = .next t
                ∧ t.label g.label = some { l with
                    battery := g.battery, signal := g.signal, lastHeard := s.now, home := some f.station
                    phase := .queued, attempts := 0, staleReason := .noReason }
                ∧ (∃ x, t.station f.station = some x ∧ x.ready = [g.label] ∧ x.inFlight = b.inFlight)
                ∧ t.item a = some { i with staleCount := i.staleCount - 1 }
                ∧ Posted s t .labelRecovered g.label f.station ∧ t.net = s.net

/-- The end of an update, by UPDATE_RESULT and by UPDATE_DEADLINE: a result of no ACTIVE station, or for no update in
flight, changes no label. SHOWN at the target leaves the label IDLE with what it shows confirmed, and the last SHOWN of a
campaign switches the item; SHOWN short of it queues the label again. REJECTED, and NO_ANSWER at the last attempt, leave it
STALE with its notice; NO_ANSWER before that queues it again with one attempt more. A label that has become UNBINDING is
due its BLANK; a shown BLANK removes the record, an unanswered one is due again, and one REJECTED or unanswered at the last
attempt removes it with a notice. A deadline not reached does nothing (R94-R97, R99, R100, R117-R119, R17-R19). The model's
choices: an expiry before its time does nothing (log 11), the moment of the arbiter runs (log 10), a discarded result is
counted nowhere (log 42), the attempts of a failed BLANK (log 35), a result is acted on whatever its port's role has become
(log 40). -/
def Obligations.UpdateEnds : Prop :=
  let confirmedBy := fun u : InFlightUpdate =>
    ({ version := u.version, template := u.template, textRevision := u.textRevision } : Confirmed)
  (∀ (s : State) (f : LabelFrame) (rest : List LabelFrame) (tag id : Nat) (o : UpdateOutcome), s.Sound →
    s.TablesBounded → s.link.inbox = f :: rest → f.message = .result tag id o →
    ((∀ b, s.station f.station = some b → b.phase = .lost ∨ b.address ≠ f.source) →
      exec .updateResult s = .next (s.setLink { s.link with inbox := rest }))
    ∧ ∀ b, s.station f.station = some b → b.phase = .active → b.address = f.source →
        (∀ x ∈ s.link.table, x.id = f.station → x = b) →
        let heard := { b with lastHeard := s.now, port := f.port }
        ((∀ r ∈ b.inFlight, r.tag ≠ tag) → ∃ t, exec .updateResult s = .next t ∧ t.station f.station = some heard
          ∧ t.link.inbox = rest ∧ t.setLink s.link = s)
        ∧ (∀ r, b.inFlight.find? (fun r => r.tag == tag) = some r → r.label ≠ id → ∃ t, exec .updateResult s = .next t
          ∧ t.station f.station = some heard ∧ t.setLink s.link = s)
        ∧ ∀ r l u, b.inFlight.find? (fun r => r.tag == tag) = some r → r.label = id → s.label id = some l →
            l.inFlight = some u → u.tag = tag → b.ready = [] →
            let ended := fun t : State => t.link.inbox = rest ∧ t.station f.station = some { heard with
              inFlight := b.inFlight.filter (fun x => x.tag != tag), waitingForBuffer := false }
            (∀ a i, u.kind ≠ .blankUpdate → l.phase = .sent → l.again = false → l.article = some a → s.item a = some i →
                id ∈ i.labels → confirmedBy u = i.target l.template → o = .shown →
                let shown := { l with lastHeard := s.now, confirmed := some (confirmedBy u), attempts := 0, inFlight := none
                                      phase := .idle }
                (i.pending = none → ∃ t, exec .updateResult s = .next t ∧ t.label id = some shown ∧ ended t
                  ∧ (∀ x, x ≠ id → t.label x = s.label x)
                  ∧ ((t.withLogOf s).setLink s.link).setLabels s.labels = s)
                ∧ ∀ v, i.pending = some v → l.confirmed.map Confirmed.version ≠ some v.number → i.waiting = none →
                    (i.outstanding = 1 → ∃ t, exec .updateResult s = .next t ∧ t.label id = some shown ∧ ended t
                      ∧ t.item a = some { i with current := v, pending := none, outstanding := 0 }
                      ∧ Posted s t .campaignDone a v.number)
                    ∧ (1 < i.outstanding → ∃ t, exec .updateResult s = .next t ∧ t.label id = some shown ∧ ended t
                      ∧ t.item a = some { i with outstanding := i.outstanding - 1 }
                      ∧ t.requests = s.requests))
            ∧ (∀ a i, u.kind ≠ .blankUpdate → l.phase = .sent → l.article = some a → s.item a = some i → id ∈ i.labels →
                (o = .rejected → ∃ t, exec .updateResult s = .next t ∧ ended t
                  ∧ t.label id = some { l with
                      lastHeard := s.now, inFlight := none, again := false, phase := .stale, staleReason := .rejected }
                  ∧ t.item a = some { i with staleCount := i.staleCount + 1 }
                  ∧ Posted s t .labelStale id (twoParts 2 l.attempts))
                ∧ (o = .noAnswer → s.labels.maxAttempts ≤ l.attempts + 1 → ∃ t, exec .updateResult s = .next t ∧ ended t
                  ∧ t.label id = some { l with
                      inFlight := none, again := false, attempts := l.attempts + 1, phase := .stale
                      staleReason := .noAnswer }
                  ∧ t.item a = some { i with staleCount := i.staleCount + 1 }
                  ∧ Posted s t .labelStale id (twoParts 1 (l.attempts + 1))))
            ∧ (u.kind = .blankUpdate → o = .shown → ∃ t, exec .updateResult s = .next t ∧ ended t ∧ t.label id = none
                ∧ ∀ x, x ≠ id → t.label x = s.label x)
            ∧ (u.kind = .blankUpdate → o = .rejected → ∃ t, exec .updateResult s = .next t ∧ ended t
                ∧ t.label id = none ∧ Posted s t .labelBlankFailed id (twoParts 2 l.attempts))
            ∧ (u.kind = .blankUpdate → o = .noAnswer → s.labels.maxAttempts ≤ l.attempts + 1 → ∃ t,
                exec .updateResult s = .next t ∧ ended t
                ∧ t.label id = none ∧ Posted s t .labelBlankFailed id (twoParts 3 (l.attempts + 1)))
            ∧ (let left := b.inFlight.filter (fun x => x.tag != tag)
               let queues := fun (x : Label) => ∃ t, exec .updateResult s = .next t ∧ t.label id = some x
                 ∧ t.station f.station = some { heard with inFlight := left, ready := [id], waitingForBuffer := false }
                 ∧ (∀ y, y ≠ id → t.label y = s.label y) ∧ t.link.inbox = rest ∧ t.labels.homeless = s.labels.homeless
                 ∧ t.price = s.price ∧ t.net = s.net ∧ t.requests = s.requests
               l.home = some f.station → b.credit ≤ { b with inFlight := left }.costInFlight →
               (∀ a i, u.kind ≠ .blankUpdate → l.phase = .sent → l.article = some a → s.item a = some i →
                  (o = .noAnswer → l.attempts + 1 < s.labels.maxAttempts → l.confirmed ≠ some (i.target l.template) →
                    queues { l with inFlight := none, again := false, attempts := l.attempts + 1, phase := .queued })
                  ∧ (o = .shown → i.pending = none → confirmedBy u ≠ i.target l.template →
                    queues { l with
                      lastHeard := s.now, confirmed := some (confirmedBy u), attempts := 0, inFlight := none
                      again := false, phase := .queued }))
               ∧ (u.kind ≠ .blankUpdate → l.phase = .unbinding →
                  queues { l with
                    lastHeard := if o = .shown ∨ o = .rejected then s.now else l.lastHeard
                    confirmed := if o = .shown then some (confirmedBy u) else l.confirmed
                    inFlight := none, attempts := 0, blankDue := true })
               ∧ (u.kind = .blankUpdate → l.phase = .unbinding → o = .noAnswer → l.attempts + 1 < s.labels.maxAttempts →
                  queues { l with inFlight := none, attempts := l.attempts + 1, blankDue := true })))
  ∧ ∀ (n tag : Nat) (s : State), s.Sound → s.TablesBounded →
    ((∀ b r, s.station n = some b → b.inFlight.find? (fun r => r.tag == tag) = some r → s.now < r.deadline) →
      exec (.updateDeadline n tag) s = .next s)
    ∧ ∀ b r l u a i, s.station n = some b → (∀ x ∈ s.link.table, x.id = n → x = b) →
        b.inFlight.find? (fun r => r.tag == tag) = some r → r.deadline ≤ s.now → s.label r.label = some l →
        l.inFlight = some u → u.tag = tag → u.kind ≠ .blankUpdate → l.phase = .sent → b.ready = [] →
        l.article = some a → s.item a = some i →
        (s.labels.maxAttempts ≤ l.attempts + 1 → r.label ∈ i.labels → ∃ t, exec (.updateDeadline n tag) s = .next t
          ∧ t.label r.label = some { l with
              inFlight := none, again := false, attempts := l.attempts + 1, phase := .stale, staleReason := .noAnswer }
          ∧ (∃ x, t.station n = some x ∧ x.inFlight = b.inFlight.filter (fun x => x.tag != tag))
          ∧ t.item a = some { i with staleCount := i.staleCount + 1 }
          ∧ Posted s t .labelStale r.label (twoParts 1 (l.attempts + 1)))
        ∧ (let left := b.inFlight.filter (fun x => x.tag != tag)
           l.attempts + 1 < s.labels.maxAttempts → l.home = some n → l.confirmed ≠ some (i.target l.template) →
           b.phase = .active → b.credit ≤ { b with inFlight := left }.costInFlight →
           ∃ t, exec (.updateDeadline n tag) s = .next t
             ∧ t.label r.label = some { l with
                 inFlight := none, again := false, attempts := l.attempts + 1, phase := .queued }
             ∧ t.station n = some { b with inFlight := left, ready := [r.label], waitingForBuffer := false }
             ∧ (∀ y, y ≠ r.label → t.label y = s.label y)
             ∧ t.price = s.price ∧ t.net = s.net ∧ t.requests = s.requests)

/-- The arbiter: the label whose slot comes next is chosen, the lower id on a tie; it stops at the first label its credit
or the buffers cannot carry; a send takes the next free tag, a credit and a buffer, and the label's record and the
station's both hold the update (R112-R116, R85). A pick gives a QUEUED label short of its target its update, an UNBINDING
one whose BLANK is due that, and any other NOTHING: it leaves the ready set, a QUEUED one at its target IDLE. The update
is PARTIAL, of the fields whose display values differ, when what the label has confirmed is of its template and text and
of a version still held, else FULL; the bytes of both are R209's. A buffer's return runs the arbiters of the ACTIVE
stations that wait for one, in table order (R37, R82-R84, R115, R209). The model's choices: the window of a promotion
colour's entry and the flags byte of a unit price's (log 15); a link that is down does not block a send (log 17). -/
def Obligations.ArbiterRuns : Prop :=
  (∀ (slots now label : Nat), 0 < slots → slotDistance slots now label < slots
    ∧ (now / 25 + slotDistance slots now label) % slots = label % slots)
  ∧ (∀ (slots now : Nat) (ids : List Nat), ids ≠ [] → ∃ id, nearest slots now ids = some id ∧ id ∈ ids
    ∧ ∀ x ∈ ids, slotDistance slots now id < slotDistance slots now x
        ∨ (slotDistance slots now id = slotDistance slots now x ∧ id ≤ x))
  ∧ (∀ k : StationLink, 1 ≤ k.nextTag → k.nextTag ≤ 4294967295 → k.inFlightCount < 4294967295 →
    k.tagInUse (k.freeTag k.inFlightCount k.nextTag) = false)
  ∧ (∀ (n : Nat) (s : State) (b : BaseStation), s.Sound → s.station n = some b → (∀ x ∈ s.link.table, x.id = n → x = b) →
    (b.phase = .lost → s.runArbiter n = s)
    ∧ (b.phase = .active → b.ready = [] → s.runArbiter n = s.putStation { b with waitingForBuffer := false })
    ∧ ∀ id l u, b.phase = .active → nearest s.link.slots s.now b.ready = some id → s.label id = some l → l.id = id →
        s.pick l = some u →
        (b.credit < b.costInFlight + u.kind.cost → s.runArbiter n = s.putStation { b with waitingForBuffer := false })
        ∧ (b.costInFlight + u.kind.cost ≤ b.credit →
            s.net.freeBuffers = 0 ∨ (s.port b.port).lanCap ≤ (s.port b.port).lan.length →
            s.runArbiter n = (s.countDrop b.port (s.lanDropReason b.port)).putStation { b with waitingForBuffer := true })
        ∧ (b.costInFlight + u.kind.cost ≤ b.credit → s.JoinsLan b.port → b.ready = [id] → l.phase = .queued →
            l.home = some n →
            let tag := s.link.freeTag s.link.inFlightCount s.link.nextTag
            let t := s.runArbiter n
            t.link.nextTag = tagAfter tag ∧ UpdateOnWay s t b l u
            ∧ ((((t.withLogOf s).setNet s.net).setLink s.link).setLabels s.labels) = s))
  ∧ (∀ (n id : Nat) (s : State) (b : BaseStation) (l : Label), s.Sound → s.TablesBounded → s.station n = some b →
    b.phase = .active → b.ready = [id] → s.label id = some l → s.pick l = none → l.home = some n →
    let t := s.runArbiter n
    t.station n = some { b with ready := [], waitingForBuffer := false }
      ∧ t.label id = some (if l.phase = .queued then { l with phase := .idle } else l)
      ∧ (∀ x, x ≠ id → t.label x = s.label x) ∧ t.labels.homeless = s.labels.homeless
      ∧ (∀ m, m ≠ n → t.station m = s.station m)
      ∧ ((t.setStore s.store).setLink s.link).setLabels s.labels = s)
  ∧ (∀ (s : State) (l : Label),
    (∀ a i, l.phase = .queued → l.article = some a → s.item a = some i →
      let shows : Confirmed := { version := (i.pending.getD i.current).number, template := l.template
                                 textRevision := i.textRevision }
      (l.confirmed = some shows → s.pick l = none)
      ∧ ∀ m, l.confirmed ≠ some shows → s.labels.templates.find l.template = some m →
          s.pick l = some (buildUpdate l m i))
    ∧ (l.phase = .unbinding → s.pick l = if l.blankDue = true ∧ l.inFlight = none then
        some { kind := .blankUpdate, version := 0, template := 0, textRevision := 0, content := [] } else none)
    ∧ (l.phase = .idle ∨ l.phase = .sent ∨ l.phase = .stale → s.pick l = none))
  ∧ (∀ (l : Label) (m : Template) (i : Item),
    let v := i.pending.getD i.current
    let u := buildUpdate l m i
    let window := fun w : Window => beBytes 1 w.firstCol ++ beBytes 1 w.firstRow ++ beBytes 1 w.lastCol ++ beBytes 1 w.lastRow
    let unit := fun x : Version => unitPriceOf i x.base
    let flags := (unit v).2.toNat + 2 * v.promo.isSome.toNat + 4 * (m.colour && v.promo.isSome).toNat
    let promo := match v.promo with
      | none => zeros 5
      | some p => beBytes 1 p.n ++ beBytes 4 p.t
    let holds := fun (c : Confirmed) (old : Version) => c.template = l.template ∧ c.textRevision = i.textRevision
      ∧ c.version = old.number ∧ (old = i.current ∨ (i.current.number ≠ c.version ∧ i.pending = some old))
    u.version = v.number ∧ u.template = l.template ∧ u.textRevision = i.textRevision
      ∧ ((∀ c old, l.confirmed = some c → ¬ holds c old) → u.kind = .fullUpdate
        ∧ u.content = beBytes 1 l.template ++ beBytes 1 m.columns ++ beBytes 1 m.rows ++ beBytes 1 m.colour.toNat
            ++ window m.text ++ window m.price ++ window m.unitPrice ++ window m.promo
            ++ beBytes 2 i.textRevision ++ beBytes 1 i.text.length ++ i.text.take 24 ++ zeros (24 - i.text.length)
            ++ beBytes 4 v.number ++ beBytes 4 v.base ++ beBytes 4 (unit v).1 ++ beBytes 1 flags ++ promo)
      ∧ ∀ c old, l.confirmed = some c → holds c old → u.kind = .partialUpdate
        ∧ (let entries := [
             (decide (old.base ≠ v.base), beBytes 1 1 ++ window m.price ++ beBytes 4 v.base ++ zeros 1),
             (decide (unit old ≠ unit v), beBytes 1 2 ++ window m.unitPrice ++ beBytes 4 (unit v).1 ++ beBytes 1 flags),
             (decide (old.promo ≠ v.promo), beBytes 1 3 ++ window m.promo ++ promo),
             (m.colour && (old.promo.isSome != v.promo.isSome),
               beBytes 1 4 ++ window m.promo ++ beBytes 1 v.promo.isSome.toNat ++ zeros 4)]
           let es := (entries.filter Prod.fst).map Prod.snd
           u.content = beBytes 4 v.number ++ beBytes 1 es.length ++ es.flatten))
  ∧ ∀ s : State, (s.link.table.map BaseStation.id).Nodup → s.bufferReturned
      = ((s.link.table.filter (fun b => b.phase == .active && b.waitingForBuffer)).map BaseStation.id).foldl
          State.runArbiter s

/-! ### The nightly exchange -/

/-- WELCOME, JACK and RELEASE_COMPLETE: a message outside its state only shows the server alive; a WELCOME on a fresh
journal, or up to the checkpoint, enters the upload, on a gap it is refused, EXCHANGE_GAP posted, and the session ends,
and within the journal it asks for a release; a JACK past the window is ignored, one up to the checkpoint clears FRESH,
and an advancing one asks for a release of the units up to its entry; a completed release moves the checkpoint and the
head, frees its units, writes a header and the status block's journal fields, and posts JOURNAL_LEVEL if the alert side
changes; the session that awaited it by a WELCOME then enters the upload, and the one that awaited it by a JACK drops and
trims the blocks acknowledged, with tries 1, the resend time moved and the total raised. On either way blocks are cut,
each of at most 16 entries and 128 units or of one entry, and the upload ends when nothing is left (R68, R128-R130,
R132). That a WELCOME or a JACK waits while a release is in progress is the model's choice (log 20), and so are the
header of a JACK that only clears FRESH, written at once (log 20), and a RELEASE_COMPLETE without a release, which does
nothing (log 47), and the journal fields rewritten by a release that moves nothing (log 61); each fragment of a block
that does not fit counts as a drop (log 27), of the reason of log 44. -/
def Obligations.UploadAcknowledged : Prop :=
  let pulling := fun (s t : State) (rest : List ServerMessage) =>
    MessageSent s t .pull (beBytes 4 s.exchange.lastBatch) ∧ t.storeWord offSession = 3
      ∧ t.exchange = { s.exchange with
          inbox := rest, serverHeard := s.now, state := .download, nextToCut := s.journal.acked + 1, awaiting := none
          tries := 1, resend := some (s.now + s.exchange.retransmit), datagrams := s.exchange.datagrams + 1 }
      ∧ OnlyExchange s t
  (∀ (s : State) (a : Nat) (rest : List ServerMessage), InInbox s (.welcome a) rest →
    (s.exchange.state ≠ .opening → exec .welcome s = .next (s.heard rest))
    ∧ (s.exchange.state = .opening → s.journal.release ≠ none → exec .welcome s = .next s)
    ∧ (s.exchange.state = .opening → s.journal.release = none → s.exchange.window = [] →
        s.journal.acked + 1 = s.journal.next →
        s.journal.fresh = true ∨ a = s.journal.acked → ∃ t, exec .welcome s = .next t ∧ pulling s t rest)
    ∧ (s.exchange.state = .opening → s.journal.release = none →
        s.journal.fresh = true ∨ (a = s.journal.acked ∧ s.journal.acked < s.journal.next) → ∃ t u v,
        exec .welcome s = .next t ∧ u.setStore s.store = s.heard rest
        ∧ EnteredUpload u v ∧ UploadGoesOn v t)
    ∧ (s.exchange.state = .opening → s.journal.release = none → s.journal.fresh = false →
        a < s.journal.acked ∨ s.journal.next ≤ a → ∃ t, exec .welcome s = .next t
        ∧ MessageSent s t .refuse (beBytes 1 1) ∧ t.exchange.state = .idle ∧ t.exchange.lastOutcome = .failedRefused
        ∧ t.storeWord offOutcome = 6 ∧ OnlyExchange s t
        ∧ PostedAll s t [(.exchangeGap, 0, a), (.exchangeEnded, 0, twoParts 6 1)])
    ∧ (s.exchange.state = .opening → s.journal.release = none → s.journal.fresh = false → s.journal.acked < a →
        a < s.journal.next → ∃ t r, exec .welcome s = .next t ∧ t.journal = { s.journal with release := some r }
        ∧ r.upTo = a ∧ r.clear = false ∧ s.Frees r ∧ t.exchange = { (s.heard rest).exchange with awaiting := some .welcome }
        ∧ (t.setJournal s.journal).setExchange s.exchange = s))
  ∧ (∀ (s : State) (a : Nat) (rest : List ServerMessage), InInbox s (.jack a) rest →
    (s.exchange.state ≠ .upload → exec .jack s = .next (s.heard rest))
    ∧ (s.exchange.state = .upload → s.journal.release ≠ none → exec .jack s = .next s)
    ∧ (s.exchange.state = .upload → s.journal.release = none → s.newestSent < a → exec .jack s = .next (s.heard rest))
    ∧ (s.exchange.state = .upload → s.journal.release = none → a ≤ s.newestSent → a ≤ s.journal.acked →
        s.journal.acked < s.journal.next → s.journal.fresh = false → ∃ t, exec .jack s = .next t
        ∧ t.setStore s.store = s.heard rest)
    ∧ (s.exchange.state = .upload → s.journal.release = none → a ≤ s.newestSent → a ≤ s.journal.acked →
        s.journal.acked < s.journal.next → s.journal.fresh = true → s.journal.head < 114688 →
        s.journal.next < 4294967296 → ∃ t, exec .jack s = .next t
        ∧ t.journal = { s.journal with fresh := false }
        ∧ HeaderHolds t.backed s.journal.head s.journal.acked s.journal.next false
        ∧ (∀ x, 128 ≤ x → t.backed.read x = s.backed.read x)
        ∧ (((t.setStore s.store).setJournal s.journal).setBacked s.backed) = s.heard rest)
    ∧ (s.exchange.state = .upload → s.journal.release = none → a ≤ s.newestSent → s.journal.acked < a →
        a < s.journal.next → ∃ t r, exec .jack s = .next t ∧ t.journal = { s.journal with release := some r }
        ∧ r.upTo = a ∧ r.clear = true ∧ s.Frees r ∧ t.exchange = { (s.heard rest).exchange with awaiting := some .jack }
        ∧ (t.setJournal s.journal).setExchange s.exchange = s))
  ∧ ∀ s : State, s.Sound →
    (s.journal.release = none → exec .releaseComplete s = .next s)
    ∧ ∀ r, s.journal.release = some r → r.newHead < 114688 → r.upTo < s.journal.next → s.journal.next < 4294967296 →
        (s.exchange.awaiting = none → ∃ t, exec .releaseComplete s = .next t ∧ Released s t r)
        ∧ (s.exchange.awaiting = some .welcome → ∃ t u v, exec .releaseComplete s = .next t ∧ Released s u r
          ∧ EnteredUpload u v ∧ UploadGoesOn v t)
        ∧ (s.exchange.awaiting = some .jack → ∃ t u, exec .releaseComplete s = .next t ∧ Released s u r
          ∧ (let left := s.exchange.window.filterMap (fun b =>
               if b.last ≤ r.upTo then none else some { b with first := max b.first (r.upTo + 1) })
             UploadGoesOn (u.setExchange { s.exchange with
               window := left, tries := 1, awaiting := none
               resend := if left = [] then none else some (s.now + s.exchange.retransmit)
               totals := { s.exchange.totals with
                 acknowledged := s.exchange.totals.acknowledged + (r.upTo - s.journal.acked) } }) t))

/-- PBLOCK and COMMIT: outside DOWNLOAD they only show the server alive; a block of an applied batch, or one already
staged, is acknowledged again, the next block is staged and acknowledged, any other is ignored, and a stage above 8,192
entries ends the session; a COMMIT is answered again, answered ALREADY_APPLIED, ignored while applying, starts the
application of a stage whose batch, count and CRC match, or pulls again, and the second mismatch ends the session
(R133-R135, R143). That the inbox is emptied with the session is the model's choice (log 24). -/
def Obligations.BatchStaged : Prop :=
  (∀ (s : State) (batch index : Nat) (es : List BatchEntry) (bytes : List Byte) (rest : List ServerMessage),
    InInbox s (.pblock batch index es bytes) rest →
    let quiet := { s.exchange with inbox := rest, serverHeard := s.now, resend := none }
    let acked := fun (x : Exchange) => ∃ t, exec .pblock s = .next t
      ∧ MessageSent s t .pack (beBytes 4 batch ++ beBytes 2 index)
      ∧ t.exchange = { x with datagrams := s.exchange.datagrams + 1 } ∧ (t.setExchange s.exchange).setNet s.net = s
    let ignored := exec .pblock s = .next (s.setExchange quiet)
    let staged := acked { quiet with stage := { batch := some batch, nextIndex := s.exchange.stage.nextIndex + 1
                                                entries := s.exchange.stage.entries ++ es
                                                crc := crcRun s.exchange.stage.crc bytes } }
    (s.exchange.state ≠ .download → exec .pblock s = .next (s.heard rest))
    ∧ (s.exchange.state = .download → s.exchange.applying = true → ignored)
    ∧ (s.exchange.state = .download → s.exchange.applying = false →
        (batch ≤ s.exchange.lastBatch → acked quiet)
        ∧ (s.exchange.lastBatch < batch → s.exchange.stage.batch = none → index ≠ 0 → ignored)
        ∧ (∀ b, s.exchange.lastBatch < batch → s.exchange.stage.batch = some b → b ≠ batch → ignored)
        ∧ (s.exchange.lastBatch < batch → s.exchange.stage.batch = some batch → index < s.exchange.stage.nextIndex →
            acked quiet)
        ∧ (s.exchange.lastBatch < batch → s.exchange.stage.batch = some batch → s.exchange.stage.nextIndex < index →
            ignored)
        ∧ (s.exchange.lastBatch < batch →
            (s.exchange.stage.batch = none ∧ index = 0)
              ∨ (s.exchange.stage.batch = some batch ∧ index = s.exchange.stage.nextIndex) →
            (s.exchange.stage.entries.length + es.length ≤ 8192 → staged)
            ∧ (8192 < s.exchange.stage.entries.length + es.length → ∃ t, exec .pblock s = .next t
              ∧ MessageSent s t .refuse (beBytes 1 2) ∧ SessionEnded (s.heard rest) t .failedRefused 2 ∧ OnlyExchange s t))))
  ∧ ∀ (s : State) (batch count : Nat) (crc : Word) (rest : List ServerMessage),
    InInbox s (.commit batch count crc) rest →
    let quiet := { s.exchange with inbox := rest, serverHeard := s.now, resend := none }
    let answered := fun (status : Nat) (c : BatchCounts) => ∃ t, exec .commit s = .next t
      ∧ MessageSent s t .commitAnswer (beBytes 4 batch ++ beBytes 1 status ++ beBytes 4 c.applied ++ beBytes 4 c.skipped
          ++ beBytes 4 c.queried)
      ∧ t.exchange = { quiet with datagrams := s.exchange.datagrams + 1 } ∧ (t.setExchange s.exchange).setNet s.net = s
    (s.exchange.state ≠ .download → exec .commit s = .next (s.heard rest))
    ∧ (s.exchange.state = .download →
        (∀ a, s.exchange.lastAnswer = some a → a.batch = batch → answered 0 a.counts)
        ∧ ((∀ a, s.exchange.lastAnswer = some a → a.batch ≠ batch) →
            (batch ≤ s.exchange.lastBatch → answered 1 { applied := 0, skipped := 0, queried := 0 })
            ∧ (s.exchange.lastBatch < batch → s.exchange.applying = true → exec .commit s = .next (s.setExchange quiet))
            ∧ (s.exchange.lastBatch < batch → s.exchange.applying = false →
                let whole := s.exchange.stage.batch = some batch ∧ s.exchange.stage.entries.length = count
                  ∧ ~~~ s.exchange.stage.crc = crc
                (whole → exec .commit s = .next (s.setExchange { quiet with
                  applying := true, rest := s.exchange.stage.entries, counts := .zero, mismatch := none }))
                ∧ (¬ whole → s.exchange.mismatch ≠ some batch → ∃ t, exec .commit s = .next t
                  ∧ MessageSent s t .pull (beBytes 4 s.exchange.lastBatch)
                  ∧ t.exchange = { quiet with
                      mismatch := some batch, stage := Stage.empty, tries := 1
                      resend := some (s.now + s.exchange.retransmit), datagrams := s.exchange.datagrams + 1 }
                  ∧ (t.setExchange s.exchange).setNet s.net = s)
                ∧ (¬ whole → s.exchange.mismatch = some batch → ∃ t, exec .commit s = .next t
                  ∧ MessageSent s t .refuse (beBytes 1 3) ∧ SessionEnded (s.heard rest) t .failedRefused 3 ∧ OnlyExchange s t))))

/-- BATCH_ENTRY_APPLY: nothing while no batch is being applied; else one entry goes through the change path or the
item checks as a host's would, with the batch as its origin, and its disposition is counted: skipped, unchanged, queried,
current at once, a campaign over labels that no station can be sent now, or waiting. After the last one, whatever it was,
the batch is committed: announced, answered, its counts added to the totals and the stage emptied (R8-R13, R24, R27, R87,
R136). That the row does nothing while no batch is being applied is the model's choice (log 47), and so is the
arbiter's run at its end (log 10). -/
def Obligations.BatchEntryApplied : Prop :=
  ∀ (s : State) (batch : Nat), s.Sound → s.TablesBounded →
    (s.exchange.applying = false ∨ s.exchange.rest = [] → exec .batchEntryApply s = .next s)
    ∧ ∀ e es, s.exchange.applying = true → s.exchange.stage.batch = some batch → s.exchange.rest = e :: es →
        let c := s.exchange.counts
        let takes := fun (d : BatchCounts) (effect : State → Prop) => ∃ t, exec .batchEntryApply s = .next t
          ∧ EntryTaken s t batch es d effect
        let skips := takes { c with skipped := c.skipped + 1 } (fun u => u = s)
        let applies := takes { c with applied := c.applied + 1 }
        (∀ n code, e = .newItem n → n.check batch = .error code → skips)
        ∧ (∀ n i, e = .newItem n → n.check batch = .ok i →
            i.article = n.article ∧ i.origin = batch
            ∧ (s.item i.article ≠ none ∨ 65536 ≤ s.price.items.length → skips)
            ∧ (s.item i.article = none → s.price.items.length < 65536 → applies (fun u => ItemPut s u i)))
        ∧ (∀ a base promo, e = .change a base promo → s.item a = none → skips)
        ∧ ∀ a base promo i, e = .change a base promo → s.item a = some i →
            (9999999 < base ∨ promoPasses i.saleKind base promo = false → skips)
            ∧ (base ≤ 9999999 → promoPasses i.saleKind base promo = true →
              let same := (i.pending.getD i.current).base = base ∧ (i.pending.getD i.current).promo = promo
              let inside := insideWindow s.price i.current.base base
              (same → applies (fun u => u = s))
              ∧ (¬ same → inside = false → takes { c with queried := c.queried + 1 } (fun u =>
                  ItemPut s u { i with waiting := some { base := base, promo := promo, queried := true }, origin := batch }
                  ∧ Posted s u .priceQueried a base))
              ∧ (¬ same → inside = true → i.pending ≠ none → applies (fun u =>
                  ItemPut s u { i with
                    waiting := some { base := base, promo := promo, queried := false }, origin := batch }))
              ∧ (¬ same → inside = true → i.pending = none → i.labels = [] → applies (fun u => ItemPut s u { i with
                  current := { number := nextNumber i.lastVersion, base := base, promo := promo }, waiting := none
                  lastVersion := nextNumber i.lastVersion, origin := batch }))
              ∧ (¬ same → inside = true → i.pending = none → i.labels ≠ [] → s.LabelsBusy i →
                  applies (fun u => CampaignStarted s u { i with origin := batch } base promo))
              ∧ (¬ same → inside = true → i.pending = none → i.labels ≠ [] → i.labels.Nodup → s.NoSends →
                  (∀ id ∈ i.labels, ∃ l, s.label id = some l ∧ l.article = some a
                    ∧ l.confirmed.map Confirmed.version ≠ some (nextNumber i.lastVersion)) →
                  applies (fun u => CampaignQueued s u { i with origin := batch } base promo)))

/-- NO_MORE, BYE_ACK and REFUSE: outside their states they only show the server alive; a NO_MORE sends BYE(COMPLETE)
with the totals and closes; a BYE_ACK in CLOSING ends the session COMPLETE; a REFUSE ends it FAILED_REFUSED with the
server's reason, in every state (R137-R139, R143). That the inbox is emptied with the session is the model's choice
(log 24). -/
def Obligations.SessionCloses : Prop :=
  (∀ (s : State) (rest : List ServerMessage), InInbox s .noMore rest →
    (s.exchange.state ≠ .download → exec .noMore s = .next (s.heard rest))
    ∧ (s.exchange.state = .download → s.exchange.applying = true →
        exec .noMore s = .next (s.setExchange { (s.heard rest).exchange with resend := none }))
    ∧ (s.exchange.state = .download → s.exchange.applying = false → ∃ t, exec .noMore s = .next t
      ∧ MessageSent s t .bye (byeBody 1 s.exchange.totals) ∧ t.storeWord offSession = 4 ∧ OnlyExchange s t
      ∧ t.exchange = { (s.heard rest).exchange with
          stage := Stage.empty, state := .closing, tries := 1, resend := some (s.now + s.exchange.retransmit)
          datagrams := s.exchange.datagrams + 1 }))
  ∧ (∀ (s : State) (rest : List ServerMessage), InInbox s .byeAck rest →
    (s.exchange.state ≠ .closing → exec .byeAck s = .next (s.heard rest))
    ∧ (s.exchange.state = .closing → ∃ t, exec .byeAck s = .next t
      ∧ SessionEnded (s.heard rest) t .complete 0 ∧ t.net = s.net ∧ OnlyExchange s t))
  ∧ ∀ (s : State) (reason : Nat) (rest : List ServerMessage), InInbox s (.refuse reason) rest → reason < 256 →
    ∃ t, exec .refuse s = .next t
      ∧ SessionEnded (s.heard rest) t .failedRefused (256 + reason) ∧ t.net = s.net ∧ OnlyExchange s t

/-- The times of a session: each resend time sends its message again, every block of the window for a JBLOCK, and counts
a try, or ends the session when the tries are used up; from the taking of a WELCOME or an advancing JACK until its
release is complete none of them does; an idle server in DOWNLOAD ends the session too; the deadline sends
BYE(INCOMPLETE) once and ends it (R124, R127, R129, R131, R133, R138-R140). The model's choices: an expiry before its
time does nothing (log 11); each fragment of a message that does not fit counts as a drop (log 27), of the reason of log
44; the inbox is emptied with the session (log 24). -/
def Obligations.SessionTimes : Prop :=
  (∀ (s : State) (t0 : Nat), s.Sound → s.exchange.resend = some t0 →
    let resends := fun (c : Instr) (x : SessionState) (o : SessionOutcome) (ms : List (PartMessage × List Byte)) =>
      (s.exchange.state ≠ x ∨ s.now < t0 ∨ s.exchange.awaiting ≠ none → exec c s = .next s)
      ∧ (s.exchange.state = x → t0 ≤ s.now → s.exchange.awaiting = none → s.exchange.maxTries ≤ s.exchange.tries →
          ∃ t, exec c s = .next t ∧ SessionEnded s t o 0 ∧ t.net = s.net ∧ OnlyExchange s t)
      ∧ (s.exchange.state = x → t0 ≤ s.now → s.exchange.awaiting = none → s.exchange.tries < s.exchange.maxTries →
          ∃ t, exec c s = .next t ∧ OnlyExchange s t ∧ t.store = s.store
          ∧ t.exchange = { s.exchange with
              tries := s.exchange.tries + 1, resend := some (s.now + s.exchange.retransmit)
              datagrams := s.exchange.datagrams + ms.length }
          ∧ MessagesSent s (t.setExchange { t.exchange with
              tries := s.exchange.tries, resend := s.exchange.resend }) ms)
    resends .helloResend .opening .failedNoAnswer [(.hello,
        beBytes 4 s.journal.acked ++ beBytes 1 s.journal.fresh.toNat ++ beBytes 4 s.exchange.lastBatch)]
      ∧ resends .jblockResend .upload .failedNoAnswer (s.exchange.window.map s.blockMessage)
      ∧ resends .pullResend .download .failedNoAnswer [(.pull, beBytes 4 s.exchange.lastBatch)]
      ∧ resends .byeResend .closing .completeUnconfirmed [(.bye, byeBody 1 s.exchange.totals)])
  ∧ (∀ s : State, s.Sound → s.exchange.resend = none → exec .helloResend s = .next s ∧ exec .jblockResend s = .next s
      ∧ exec .pullResend s = .next s ∧ exec .byeResend s = .next s)
  ∧ (∀ s : State, s.Sound →
      (s.exchange.state ≠ .download ∨ s.exchange.applying = true
        ∨ s.now < s.exchange.serverHeard + 1000 * s.exchange.idleLimit → exec .serverIdleExpiry s = .next s)
      ∧ (s.exchange.state = .download → s.exchange.applying = false →
          s.exchange.serverHeard + 1000 * s.exchange.idleLimit ≤ s.now → ∃ t, exec .serverIdleExpiry s = .next t
          ∧ SessionEnded s t .failedNoAnswer 0 ∧ t.net = s.net ∧ OnlyExchange s t))
  ∧ ∀ s : State, s.Sound →
      (s.exchange.state = .idle ∨ s.now < s.exchange.deadline → exec .sessionDeadline s = .next s)
      ∧ (s.exchange.state ≠ .idle → s.exchange.deadline ≤ s.now → ∃ t, exec .sessionDeadline s = .next t
        ∧ MessageSent s t .bye (byeBody 2 s.exchange.totals) ∧ SessionEnded s t .incomplete 0 ∧ OnlyExchange s t)

/-! ### Transmission, links and time -/

/-- LAN_EGRESS_START, UPLINK_PICK and TRANSMIT_END: an idle port with its link up starts its next pause or resume frame,
or else the head of its queue; the uplink starts the slot's class, or the first waiting one in fallback order, while its
tokens are not negative, takes eight tokens a byte and moves the pointer one slot; a GUEST queue down at the resume level
ends the pause with a resume frame on every GUEST port; an end counts the frame out and gives its buffer back, which is
reported to the stations that wait for one (R115). A pause or resume frame holds the control address, the controller,
0x8808, the operation and the quanta (R154, R155, R157-R160). The model's choices: a row not enabled does nothing (log
47); a frame's length counts its check sequence (log 1), a free value (log 49); the UPLINK port's own control frames go
before a pick (log 48); the pause operation's code and the padding (log 36); no such frame on a port whose link is down
(log 29); a port sends what is queued on it whatever its role, one that has become unassigned too (log 46). -/
def Obligations.LanSends : Prop :=
  (∀ (s : State) (k : PauseFrame), let f := s.pauseFrame k
    f.dest = 0x0180C2000001 ∧ f.source = s.net.controller ∧ f.etherType = 0x8808
      ∧ f.payload = beBytes 2 1 ++ beBytes 2 (if k = .pause then 65535 else 0) ++ zeros 42 ∧ f.length = 64)
  ∧ (∀ (p : Port) (s : State), s.Sound →
    ((s.port p).linkUp = false ∨ (s.port p).wire ≠ none ∨ ((s.port p).control = [] ∧ (s.port p).lan = []) →
      exec (.lanEgressStart p) s = .next s)
    ∧ (∀ k ks, (s.port p).linkUp = true → (s.port p).wire = none → (s.port p).control = k :: ks →
        exec (.lanEgressStart p) s = .next (s.setPort p { s.port p with control := ks, wire := some (.control k) }))
    ∧ ∀ f fs, (s.port p).linkUp = true → (s.port p).wire = none → (s.port p).control = [] → (s.port p).lan = f :: fs →
        exec (.lanEgressStart p) s = .next (s.setPort p { s.port p with lan := fs, wire := some (.buffered f) }))
  ∧ (∀ (p : Port) (s : State), s.Sound →
    ((s.port p).wire = none → exec (.transmitEnd p) s = .next s)
    ∧ ∀ w, (s.port p).wire = some w → ∃ t : State, exec (.transmitEnd p) s = .next (t.afterReturns (match w with
          | .buffered _ => 1
          | .control _ => 0)) ∧ t.setNet s.net = s
        ∧ (t.port p).wire = none ∧ (t.port p).counters = (s.port p).counters.out ∧ (t.port p).lan = (s.port p).lan
        ∧ (∀ q, q ≠ p → t.port q = s.port q) ∧ t.net.classes = s.net.classes
        ∧ t.net.freeBuffers = s.net.freeBuffers + (match w with
          | .buffered _ => 1
          | .control _ => 0))
  ∧ ∀ (s : State) (p : Port), s.Sound → s.net.uplink = some p →
    ((s.port p).linkUp = false ∨ (s.port p).wire ≠ none ∨ (s.port p).control ≠ [] ∨ s.net.tokens < 0
        ∨ (∀ c, s.net.classes.get c = []) → exec .uplinkPick s = .next s)
    ∧ ∀ c f fs, (s.port p).linkUp = true → (s.port p).wire = none → (s.port p).control = [] → 0 ≤ s.net.tokens →
        s.net.classes.get c = f :: fs →
        (c = s.slotClass ∨ (s.net.classes.get s.slotClass = []
          ∧ ∀ d, fallbackOrder.idxOf d < fallbackOrder.idxOf c → s.net.classes.get d = [])) → ∃ t,
        exec .uplinkPick s = .next t ∧ t.setNet s.net = s
        ∧ t.net.classes.get c = fs ∧ (∀ d, d ≠ c → t.net.classes.get d = s.net.classes.get d)
        ∧ (t.port p).wire = some (.buffered f) ∧ t.net.pointer = s.net.pointer + 1
        ∧ t.net.tokens = s.net.tokens - 8 * (f.length : Int) ∧ t.net.freeBuffers = s.net.freeBuffers
        ∧ (let resumes := s.net.paused = true ∧ c = .guest ∧ fs.length ≤ s.net.resumeLevel
           t.net.paused = (s.net.paused && !decide resumes)
           ∧ ∀ q, (t.port q).control = (s.port q).control
               ++ (if resumes ∧ (s.port q).role = some .guest ∧ (s.port q).linkUp = true then [s.pauseFrame .resume] else []))
        ∧ s.slotClass = (match s.clock.period with
            | .opened => s.net.day[s.net.pointer]
            | .closed => s.net.night[s.net.pointer])

/-- PHY_LINK_DOWN and PHY_LINK_UP: nothing when the link is so already; else PORT_LINK is posted; a loss frees the port's
queue and wire, every frame queued counted UNKNOWN and every buffer returned, and on the UPLINK port the class queues and
the pause too, with a resume frame on every GUEST port whose link is up, and the session open there ends LINK_DOWN, its
context emptied, both words of the session written and EXCHANGE_ENDED posted after PORT_LINK, unless the uplink counted
as down already (R139); the uplink's state goes to the Exchange Unit; every buffer returned is reported to the stations
that wait for one (R115, R141, R163). The model's choices: a repeated report is no change, and a lost link clears the
pause frames waiting (log 29); the resume frame's form (log 36); the order of the two notices (log 53); the inbox is
emptied with the session (log 24); the arbiter runs at the end of the step (log 10). -/
def Obligations.LinksReported : Prop :=
  (∀ (p : Port) (s : State), s.Sound → (s.port p).linkUp = true → exec (.phyLinkUp p) s = .next s)
  ∧ (∀ (p : Port) (s : State), s.Sound → (s.port p).linkUp = false → ∃ t, exec (.phyLinkUp p) s = .next t
    ∧ Posted s t .portLink (Port.index p) (twoParts 1 0)
    ∧ t.net = { s.net with ports := s.net.ports.set p { s.port p with linkUp := true } }
    ∧ t.exchange = (if (s.port p).role = some .uplink then { s.exchange with uplinkUp := true } else s.exchange)
    ∧ ((t.withLogOf s).setNet s.net).setExchange s.exchange = s)
  ∧ (∀ (p : Port) (s : State), s.Sound → (s.port p).linkUp = false → exec (.phyLinkDown p) s = .next s)
  ∧ ∀ (p : Port) (s : State), s.Sound → (s.port p).linkUp = true →
    let queued := s.net.classes.payment.length + s.net.classes.store.length + s.net.classes.exchange.length
      + s.net.classes.guest.length
    ((s.port p).role ≠ some .uplink → ∃ t : State, exec (.phyLinkDown p) s = .next (t.afterReturns (s.port p).held)
      ∧ Posted s t .portLink (Port.index p) (twoParts 0 0)
      ∧ t.net = { s.net with
          ports := s.net.ports.set p { s.port p with
            linkUp := false, control := [], lan := [], wire := none
            counters := (s.port p).counters.drops .unknown (s.port p).lan.length }
          freeBuffers := s.net.freeBuffers + (s.port p).held }
      ∧ (t.withLogOf s).setNet s.net = s)
    ∧ ((s.port p).role = some .uplink → ∃ t : State, exec (.phyLinkDown p) s = .next (t.afterReturns ((s.port p).held + queued))
      ∧ t.port p = { s.port p with
          linkUp := false, control := [], lan := [], wire := none
          counters := (s.port p).counters.drops .unknown ((s.port p).lan.length + queued) }
      ∧ (∀ q, q ≠ p → t.port q = { s.port q with
          control := (s.port q).control ++ (if s.net.paused = true ∧ (s.port q).role = some .guest ∧ (s.port q).linkUp = true
            then [s.pauseFrame .resume] else []) })
      ∧ { t.net with ports := s.net.ports } = { s.net with
          classes := ⟨[], [], [], []⟩, paused := false, freeBuffers := s.net.freeBuffers + (s.port p).held + queued }
      ∧ OnlyExchange s t
      ∧ (s.exchange.state = .idle ∨ s.exchange.uplinkUp = false → t.exchange = { s.exchange with uplinkUp := false }
          ∧ Posted s t .portLink (Port.index p) (twoParts 0 0))
      ∧ (s.exchange.state ≠ .idle → s.exchange.uplinkUp = true →
          EmptiedTo { s.exchange with uplinkUp := false, lastOutcome := .linkDown } t.exchange .idle
          ∧ t.exchange.datagrams = s.exchange.datagrams ∧ t.storeWord offSession = 0 ∧ t.storeWord offOutcome = 7
          ∧ PostedAll s t [(.portLink, Port.index p, twoParts 0 0), (.exchangeEnded, 0, twoParts 7 0)]))

/-- MILLISECOND_STEP and the set times: the count rises by 1, the pacer takes R tokens up to D, a set time of day
advances in the status block and the times it reaches fall due; the open and close times switch the period that differs,
and a close empties the GUEST queue and the guest table, each buffer returned reported to the stations that wait for one
(R115), and ends a pause with a resume frame on every GUEST port whose link is up; the window start starts a session that
ends at the window end, and with the uplink down ends at once LINK_DOWN (R126, R139, R158, R173, R176, R178, R180-R183,
R160). The model's choices: a set time waits to be acted on, and acts once (log 12); the arbiter runs at the end of the
step (log 10); the resume frame's form (log 36), and none on a port whose link is down (log 29); the guest session count
is written also when there was no session (log 61); a session's start and end empty the inbox (log 24); next to cut
stands at 0 until the upload (log 25); what the HELLO's headers hold (log 16), and how a HELLO that does not fit counts
(log 27, log 44). -/
def Obligations.TimePasses : Prop :=
  (∀ s : State, s.Sound → ∃ t, exec .millisecondStep s = .next t ∧ t.clock.count = s.clock.count + 1
    ∧ t.net = { s.net with tokens := min (s.net.tokens + s.net.rate) s.net.depth }
    ∧ t.clock.base = s.clock.base ∧ t.clock.period = s.clock.period ∧ t.clock.mode = s.clock.mode
    ∧ ((t.setStore s.store).setNet s.net).setClock s.clock = s
    ∧ (s.clock.base = none → t.store = s.store ∧ t.clock = { s.clock with count := s.clock.count + 1 })
    ∧ ∀ b, s.clock.base = some b →
        let x := b.timeAt (s.clock.count + 1)
        t.storeWord offDay = BitVec.ofNat 32 x.1 ∧ t.storeWord offMsOfDay = BitVec.ofNat 32 x.2
        ∧ x.2 = (b.ms + (s.clock.count + 1 - b.count)) % 86400000
        ∧ x.1 = (b.day + (b.ms + (s.clock.count + 1 - b.count)) / 86400000) % 65536
        ∧ t.clock.windowDue = (s.clock.windowDue || x.2 == s.clock.windowStart)
        ∧ (∀ o c, s.clock.mode = .scheduled o c → t.clock.openDue = (s.clock.openDue || x.2 == o)
            ∧ t.clock.closeDue = (s.clock.closeDue || x.2 == c)))
  ∧ (∀ s : State, s.Sound →
    (s.clock.openDue = false → exec .openTimeReached s = .next s)
    ∧ (s.clock.openDue = true → s.clock.period = .opened →
        exec .openTimeReached s = .next (s.setClock { s.clock with openDue := false }))
    ∧ (s.clock.openDue = true → s.clock.period = .closed → ∃ t, exec .openTimeReached s = .next t
      ∧ t.clock = { s.clock with openDue := false, period := .opened } ∧ t.storeWord offPeriod = 1
      ∧ Posted s t .periodChanged 0 (twoParts 1 2) ∧ (t.withLogOf s).setClock s.clock = s))
  ∧ (∀ s : State, s.Sound →
    (s.clock.closeDue = false → exec .closeTimeReached s = .next s)
    ∧ (s.clock.closeDue = true → s.clock.period = .closed →
        exec .closeTimeReached s = .next (s.setClock { s.clock with closeDue := false }))
    ∧ (s.clock.closeDue = true → s.clock.period = .opened →
        let n := s.net.classes.guest.length
        ∃ t : State, exec .closeTimeReached s = .next (t.afterReturns n)
      ∧ t.clock = { s.clock with closeDue := false, period := .closed } ∧ t.storeWord offPeriod = 0
      ∧ Posted s t .periodChanged 0 (twoParts 0 2) ∧ t.guests = { s.guests with sessions := [] }
      ∧ t.storeWord offGuests = 0
      ∧ { t.net with ports := s.net.ports } = { s.net with
          classes := { s.net.classes with guest := [] }, paused := false, freeBuffers := s.net.freeBuffers + n }
      ∧ (∀ q, t.port q = { s.port q with
          counters := if s.net.uplink = some q then (s.port q).counters.drops .guest n else (s.port q).counters
          control := (s.port q).control ++ (if s.net.paused = true ∧ (s.port q).role = some .guest
            ∧ (s.port q).linkUp = true then [s.pauseFrame .resume] else []) })
      ∧ (((t.withLogOf s).setClock s.clock).setNet s.net).setGuests s.guests = s))
  ∧ ∀ s : State, s.Sound →
    (s.clock.windowDue = false → exec .windowStartReached s = .next s)
    ∧ (s.clock.windowDue = true → s.exchange.paramsSet = false ∨ s.exchange.state ≠ .idle →
        exec .windowStartReached s = .next (s.setClock { s.clock with windowDue := false }))
    ∧ ∀ b, s.clock.windowDue = true → s.exchange.paramsSet = true → s.exchange.state = .idle →
        s.clock.base = some b → s.clock.windowEnd < 86400000 →
        let deadline := s.now + (if s.clock.windowEnd = s.clock.windowStart then 86400000
          else (s.clock.windowEnd + 86400000 - (b.timeAt s.now).2) % 86400000)
        (s.exchange.uplinkUp = true → ∃ t, exec .windowStartReached s = .next t
          ∧ EmptiedTo { s.exchange with deadline := deadline, tries := 1, nextToCut := 0 }
              { t.exchange with resend := none } .opening
          ∧ t.exchange.resend = some (s.now + s.exchange.retransmit)
          ∧ MessageSent s t .hello (beBytes 4 s.journal.acked ++ beBytes 1 s.journal.fresh.toNat
              ++ beBytes 4 s.exchange.lastBatch)
          ∧ t.clock = { s.clock with windowDue := false } ∧ t.storeWord offSession = 1
          ∧ OnlyExchange (s.setClock t.clock) t)
        ∧ (s.exchange.uplinkUp = false → ∃ t, exec .windowStartReached s = .next t
          ∧ SessionEnded (s.setExchange { s.exchange with deadline := deadline, tries := 0, nextToCut := 0 }) t .linkDown 0
          ∧ t.net = s.net ∧ t.clock = { s.clock with windowDue := false } ∧ OnlyExchange (s.setClock t.clock) t)

/-- STATION_AGING, GUEST_TIME_LIMIT and GUEST_IDLE_REMOVAL: a station record 300 s old is removed, an ADMITTED session
at its time limit lapses EXPIRED with its notice, any other session 120 s silent is removed with the count; what has
not reached its time, or is not there, is left (R153, R171, R172, R164). That an expiry before its time does nothing
is the model's choice (log 11). -/
def Obligations.EntriesExpire : Prop :=
  ∀ (a : MacAddr) (s : State), s.Sound → s.TablesBounded →
    (s.stationRecord a = none → exec (.stationAging a) s = .next s)
    ∧ (∀ x, s.stationRecord a = some x →
        (s.now < x.lastSeen + 300000 → exec (.stationAging a) s = .next s)
        ∧ (x.lastSeen + 300000 ≤ s.now → ∃ t, exec (.stationAging a) s = .next t ∧ t.stationRecord a = none
          ∧ (∀ b, b ≠ a → t.stationRecord b = s.stationRecord b)
          ∧ { t.net with stations := s.net.stations } = s.net ∧ t.setNet s.net = s))
    ∧ (s.session a = none → exec (.guestTimeLimit a) s = .next s ∧ exec (.guestIdleRemoval a) s = .next s)
    ∧ ∀ g, s.session a = some g →
        (g.phase ≠ .admitted ∨ s.now < g.admittedAt + 1000 * g.timeLimit → exec (.guestTimeLimit a) s = .next s)
        ∧ (g.phase = .admitted → g.admittedAt + 1000 * g.timeLimit ≤ s.now → ∃ t, exec (.guestTimeLimit a) s = .next t
          ∧ t.session a = some { g with phase := .lapsed, lapse := .expired }
          ∧ (∀ b, b ≠ a → t.session b = s.session b)
          ∧ Posted s t .guestLapsed (addressSubject a) (twoParts 2 (g.used / 1048576))
          ∧ (t.withLogOf s).setGuests s.guests = s)
        ∧ (g.phase = .admitted ∨ s.now < g.lastSeen + 120000 → exec (.guestIdleRemoval a) s = .next s)
        ∧ (g.phase ≠ .admitted → g.lastSeen + 120000 ≤ s.now → ∃ t, exec (.guestIdleRemoval a) s = .next t
          ∧ t.session a = none ∧ (∀ b, b ≠ a → t.session b = s.session b)
          ∧ t.storeWord offGuests = BitVec.ofNat 32 (s.guests.sessions.length - 1)
          ∧ (t.withLogOf s).setGuests s.guests = s)

/-! ### What every step keeps -/

/-- Every step keeps both memories in their canonical form and leaves no arbiter run owed. -/
def Obligations.MemoryKept : Prop :=
  ∀ s t : State, s.MemoryWf → s.Settled → step s = .next t → t.MemoryWf ∧ t.Settled

/-- Every step keeps the buffer account: free buffers plus buffers held are 4,096 (R154). -/
def Obligations.BuffersKept : Prop := ∀ s t : State, s.BuffersAdd → step s = .next t → t.BuffersAdd

/-- Every step keeps the unread notices at 256 or fewer (R199, R200); and every step keeps items and labels in agreement
while version numbers do not wrap: each item's list, its outstanding and stale counts, and its versions against the labels
on it; what a bound label has confirmed is the item's current or pending version, and an IDLE label shows its target (R3,
R5-R7, R14, R77, R78, R81, R84, R85). -/
def Obligations.LogKept : Prop :=
  (∀ s t : State, s.LogBounded → step s = .next t → t.LogBounded)
  ∧ ∀ s t : State, s.TablesBounded → s.ItemsAgree → (∀ e ∈ s.price.items, e.2.lastVersion < 4294967295) →
      step s = .next t → t.ItemsAgree

/-- Every step keeps every table keyed and within its size: items 65,536, labels 32,768, templates numbered 0 to 255, base
stations 32 with distinct ids, learned stations 1,024, guest sessions 512 (R1, R76, R79, R105, R153, R164). -/
def Obligations.TablesKept : Prop := ∀ s t : State, s.TablesBounded → step s = .next t → t.TablesBounded

/-- Every step keeps what an ADMITTED session has used within its budget, the guest table and the GUEST class queue empty
while CLOSED, and what is in flight at a base station within its credit, with nothing in flight at a LOST one (R105, R107,
R109, R114, R160, R168, R173). -/
def Obligations.GuestsKept : Prop :=
  (∀ s t : State, s.GuestsWithinBudget → s.ClosedEmpty → step s = .next t → t.GuestsWithinBudget ∧ t.ClosedEmpty)
  ∧ ∀ s t : State, s.TablesBounded → s.CreditKept → step s = .next t → t.CreditKept

/-- Every step keeps the pacer's count between −12,144 and D (R158), and the Journal Unit's working state: the head a unit of
the area, the acknowledged sequence below the next, no more units used and reserved than there are, a release's end above
the one and below the other, and nothing appended or released before the scan has ended (R59, R62, R65, R68, R73). -/
def Obligations.PacerAndJournalKept : Prop :=
  (∀ s t : State, s.PacerBounded → 12144 ≤ s.net.depth → step s = .next t → t.PacerBounded ∧ 12144 ≤ t.net.depth)
  ∧ ∀ s t : State, s.JournalSound → step s = .next t → t.JournalSound
end

