-- ==== Sys2Proof/Laws/Memory.lean ====
section
/-! SUPPORT. Laws/Memory.lean: maps and memories keep their canonical form, and a read gives what was written. -/

namespace Sys2Proof.Machine

/-! ### Maps -/

theorem Table.mem_put {α : Type} {t : Table α} {k : Nat} {x : α} {e : Nat × α} (h : e ∈ Table.put t k x) :
    e = (k, x) ∨ e ∈ t := by
  induction t with
  | nil => simpa [Table.put] using h
  | cons y t ih =>
    obtain ⟨a, v⟩ := y
    simp only [Table.put] at h
    split at h
    · simpa using h
    · split at h
      · rcases List.mem_cons.mp h with h | h
        · exact .inl h
        · exact .inr (List.mem_cons_of_mem _ h)
      · rcases List.mem_cons.mp h with h | h
        · exact .inr (h ▸ List.mem_cons_self)
        · exact (ih h).imp id (List.mem_cons_of_mem _)

theorem Table.mem_del {α : Type} {t : Table α} {k : Nat} {e : Nat × α} (h : e ∈ Table.del t k) : e ∈ t := by
  induction t with
  | nil => simp [Table.del] at h
  | cons y t ih =>
    obtain ⟨a, v⟩ := y
    simp only [Table.del] at h
    split at h
    · exact List.mem_cons_of_mem _ h
    · rcases List.mem_cons.mp h with h | h
      · exact h ▸ List.mem_cons_self
      · exact List.mem_cons_of_mem _ (ih h)

/-- Setting a record keeps the keys strictly rising. -/
theorem Table.put_rising {α : Type} {t : Table α} (k : Nat) (x : α) (h : Table.rising t) :
    Table.rising (Table.put t k x) := by
  induction t with
  | nil => simp [Table.put, Table.rising]
  | cons y t ih =>
    obtain ⟨a, v⟩ := y
    have ⟨h1, h2⟩ := List.pairwise_cons.mp h
    simp only [Table.put]
    split
    · rename_i hk
      refine List.pairwise_cons.mpr ⟨?_, h⟩
      intro e he
      rcases List.mem_cons.mp he with rfl | he
      · exact hk
      · exact hk.trans (h1 e he)
    · split
      · rename_i hk
        subst hk
        exact List.pairwise_cons.mpr ⟨h1, h2⟩
      · refine List.pairwise_cons.mpr ⟨?_, ih h2⟩
        intro e he
        rcases Table.mem_put he with rfl | he
        · simp only; omega
        · exact h1 e he

/-- Taking a record out keeps the keys strictly rising. -/
theorem Table.del_rising {α : Type} {t : Table α} (k : Nat) (h : Table.rising t) : Table.rising (Table.del t k) := by
  induction t with
  | nil => simp [Table.del, Table.rising]
  | cons y t ih =>
    obtain ⟨a, v⟩ := y
    have ⟨h1, h2⟩ := List.pairwise_cons.mp h
    simp only [Table.del]
    split
    · exact h2
    · exact List.pairwise_cons.mpr ⟨fun e he => h1 e (Table.mem_del he), ih h2⟩

/-- A record set is found under its key. -/
@[simp] theorem Table.find_put_same {α : Type} (t : Table α) (k : Nat) (x : α) :
    Table.find (Table.put t k x) k = some x := by
  induction t with
  | nil => simp [Table.put, Table.find]
  | cons y t ih =>
    obtain ⟨a, v⟩ := y
    simp only [Table.put]
    split
    · simp [Table.find]
    · split
      · simp [Table.find]
      · rename_i h
        simp [Table.find, Ne.symm h, ih]

/-- A record set under one key leaves every other key's record. -/
theorem Table.find_put_other {α : Type} (t : Table α) {k j : Nat} (x : α) (h : j ≠ k) :
    Table.find (Table.put t k x) j = Table.find t j := by
  induction t with
  | nil => simp [Table.put, Table.find, h.symm]
  | cons y t ih =>
    obtain ⟨a, v⟩ := y
    simp only [Table.put]
    split
    · simp [Table.find, h.symm]
    · split
      · rename_i hk
        subst hk
        simp [Table.find, h.symm]
      · simp only [Table.find, ih]

/-- A record taken out leaves every other key's record. -/
theorem Table.find_del_other {α : Type} (t : Table α) {k j : Nat} (h : j ≠ k) :
    Table.find (Table.del t k) j = Table.find t j := by
  induction t with
  | nil => rfl
  | cons y t ih =>
    obtain ⟨a, v⟩ := y
    simp only [Table.del]
    split
    · rename_i hk
      subst hk
      simp [Table.find, h.symm]
    · simp only [Table.find, ih]

/-- A key below every key of a map has no record. -/
theorem Table.find_none_of_lt {α : Type} {t : Table α} {k : Nat} (h : ∀ e ∈ t, k < e.1) : Table.find t k = none := by
  induction t with
  | nil => rfl
  | cons y t ih =>
    obtain ⟨a, v⟩ := y
    have := h (a, v) List.mem_cons_self
    simp only [Table.find]
    split
    · simp only at this; omega
    · exact ih (fun e he => h e (List.mem_cons_of_mem _ he))

/-- A record taken out of a map with rising keys is found no more. -/
theorem Table.find_del_same {α : Type} {t : Table α} (k : Nat) (h : Table.rising t) :
    Table.find (Table.del t k) k = none := by
  induction t with
  | nil => rfl
  | cons y t ih =>
    obtain ⟨a, v⟩ := y
    have ⟨h1, h2⟩ := List.pairwise_cons.mp h
    simp only [Table.del]
    split
    · rename_i hk
      subst hk
      exact Table.find_none_of_lt h1
    · rename_i hk
      simp [Table.find, hk, ih h2]

/-! ### Memories -/

/-- Writing a byte keeps the canonical form. -/
theorem Memory.write_wf {m : Memory} (a : Nat) (b : Byte) (h : m.wf) : (m.write a b).wf := by
  unfold Memory.write
  split
  · exact ⟨Table.del_rising a h.1, fun c hc => h.2 c (Table.mem_del hc)⟩
  · rename_i hb
    refine ⟨Table.put_rising a b h.1, fun c hc => ?_⟩
    rcases Table.mem_put hc with rfl | hc
    · exact hb
    · exact h.2 c hc

/-- Writing bytes keeps the canonical form. -/
theorem Memory.writeBytes_wf {m : Memory} (a : Nat) (bs : List Byte) (h : m.wf) : (m.writeBytes a bs).wf := by
  induction bs generalizing m a with
  | nil => exact h
  | cons b bs ih => exact ih (a + 1) (Memory.write_wf a b h)

/-- Writing a word keeps the canonical form. -/
theorem Memory.setWord_wf {m : Memory} (a : Nat) (v : Word) (h : m.wf) : (m.setWord a v).wf :=
  Memory.writeBytes_wf a _ h

/-- Clearing a range keeps the canonical form. -/
theorem Memory.clear_wf {m : Memory} (lo hi : Nat) (h : m.wf) : (m.clear lo hi).wf :=
  ⟨h.1.filter _, fun c hc => h.2 c (List.mem_of_mem_filter hc)⟩

/-- A byte written is read back. -/
theorem Memory.read_write_same {m : Memory} (a : Nat) (b : Byte) (h : m.wf) : (m.write a b).read a = b := by
  unfold Memory.write Memory.read
  split
  · rename_i hb
    rw [Table.find_del_same a h.1, hb]
    rfl
  · rw [Table.find_put_same]
    rfl

/-- A byte written leaves every other byte. -/
theorem Memory.read_write_other (m : Memory) {a x : Nat} (b : Byte) (h : x ≠ a) : (m.write a b).read x = m.read x := by
  unfold Memory.write Memory.read
  split
  · rw [Table.find_del_other m h]
  · rw [Table.find_put_other m b h]

/-- Bytes written leave every byte outside them. -/
theorem Memory.read_writeBytes_outside (m : Memory) {a x : Nat} (bs : List Byte) (h : x < a ∨ a + bs.length ≤ x) :
    (m.writeBytes a bs).read x = m.read x := by
  induction bs generalizing m a with
  | nil => rfl
  | cons b bs ih =>
    simp only [List.length_cons] at h
    rw [Memory.writeBytes, ih (m.write a b) (by omega), Memory.read_write_other m b (by omega)]

/-- Bytes written are read back. -/
theorem Memory.read_writeBytes_inside {m : Memory} (a : Nat) (bs : List Byte) (h : m.wf) (i : Nat) (hi : i < bs.length) :
    (m.writeBytes a bs).read (a + i) = bs[i] := by
  induction bs generalizing m a i with
  | nil => simp at hi
  | cons b bs ih =>
    rw [Memory.writeBytes]
    cases i with
    | zero =>
      rw [Memory.read_writeBytes_outside _ bs (by omega)]
      simpa using Memory.read_write_same a b h
    | succ i =>
      have := ih (a + 1) (Memory.write_wf a b h) i (by simpa using hi)
      simpa [Nat.add_assoc, Nat.add_comm 1 i] using this

/-- A range of bytes written is read back whole. -/
theorem Memory.readBytes_writeBytes {m : Memory} (a : Nat) (bs : List Byte) (h : m.wf) :
    (m.writeBytes a bs).readBytes a bs.length = bs := by
  induction bs generalizing m a with
  | nil => rfl
  | cons b bs ih =>
    rw [List.length_cons, Memory.readBytes]
    congr 1
    · exact Memory.read_writeBytes_inside a (b :: bs) h 0 (by simp)
    · rw [Memory.writeBytes]
      exact ih (a + 1) (Memory.write_wf a b h)

/-- A range of bytes read is untouched by bytes written outside it. -/
theorem Memory.readBytes_writeBytes_outside (m : Memory) {a x n : Nat} (bs : List Byte)
    (h : x + n ≤ a ∨ a + bs.length ≤ x) : (m.writeBytes a bs).readBytes x n = m.readBytes x n := by
  induction n generalizing x with
  | zero => rfl
  | succ n ih =>
    rw [Memory.readBytes, Memory.readBytes, ih (x := x + 1) (by omega),
      Memory.read_writeBytes_outside m bs (by omega)]

@[simp] theorem leBytes_length (n v : Nat) : (leBytes n v).length = n := by
  induction n generalizing v with
  | zero => rfl
  | succ n ih => simp [leBytes, ih]

@[simp] theorem beBytes_length (n v : Nat) : (beBytes n v).length = n := by simp [beBytes]

/-- A number's bytes give the number back, within their width. -/
theorem leNat_leBytes (n v : Nat) : leNat (leBytes n v) = v % 256 ^ n := by
  induction n generalizing v with
  | zero => simp [leBytes, leNat, Nat.mod_one]
  | succ n ih =>
    simp only [leBytes, leNat, ih, BitVec.toNat_ofNat]
    rw [show (2 : Nat) ^ 8 = 256 from rfl, Nat.pow_succ, Nat.mul_comm (256 ^ n) 256, Nat.mod_mul]

/-- The big-endian bytes give the number back too. -/
theorem beNat_beBytes (n v : Nat) : beNat (beBytes n v) = v % 256 ^ n := by
  simp [beNat, beBytes, leNat_leBytes]

/-- A word written is read back. -/
theorem Memory.word_setWord {m : Memory} (a : Nat) (v : Word) (h : m.wf) : (m.setWord a v).word a = v := by
  unfold Memory.word Memory.setWord
  have := Memory.readBytes_writeBytes a (leBytes 4 v.toNat) h
  rw [leBytes_length] at this
  rw [this, leNat_leBytes]
  apply BitVec.eq_of_toNat_eq
  simp
  omega

/-- A word read is untouched by a word written elsewhere. -/
theorem Memory.word_setWord_other (m : Memory) {a x : Nat} (v : Word) (h : x + 4 ≤ a ∨ a + 4 ≤ x) :
    (m.setWord a v).word x = m.word x := by
  unfold Memory.word Memory.setWord
  rw [Memory.readBytes_writeBytes_outside m _ (by simpa using h)]

end Sys2Proof.Machine
end

