-- ==== Sys2Proof/Laws/State.lean ====
section
/-! SUPPORT. Laws/State.lean: what replacing one field of State leaves in every field. -/

namespace Sys2Proof.Machine

@[simp] theorem State.setPowered_powered (s : State) (x : Bool) : (s.setPowered x).powered = x := rfl
@[simp] theorem State.setPowered_store (s : State) (x : Bool) : (s.setPowered x).store = s.store := rfl
@[simp] theorem State.setPowered_backed (s : State) (x : Bool) : (s.setPowered x).backed = s.backed := rfl
@[simp] theorem State.setPowered_requests (s : State) (x : Bool) : (s.setPowered x).requests = s.requests := rfl
@[simp] theorem State.setPowered_price (s : State) (x : Bool) : (s.setPowered x).price = s.price := rfl
@[simp] theorem State.setPowered_tills (s : State) (x : Bool) : (s.setPowered x).tills = s.tills := rfl
@[simp] theorem State.setPowered_journal (s : State) (x : Bool) : (s.setPowered x).journal = s.journal := rfl
@[simp] theorem State.setPowered_labels (s : State) (x : Bool) : (s.setPowered x).labels = s.labels := rfl
@[simp] theorem State.setPowered_link (s : State) (x : Bool) : (s.setPowered x).link = s.link := rfl
@[simp] theorem State.setPowered_exchange (s : State) (x : Bool) : (s.setPowered x).exchange = s.exchange := rfl
@[simp] theorem State.setPowered_net (s : State) (x : Bool) : (s.setPowered x).net = s.net := rfl
@[simp] theorem State.setPowered_guests (s : State) (x : Bool) : (s.setPowered x).guests = s.guests := rfl
@[simp] theorem State.setPowered_clock (s : State) (x : Bool) : (s.setPowered x).clock = s.clock := rfl
@[simp] theorem State.setPowered_host (s : State) (x : Bool) : (s.setPowered x).host = s.host := rfl
@[simp] theorem State.setPowered_freeIndex (s : State) (x : Bool) : (s.setPowered x).freeIndex = s.freeIndex := rfl
@[simp] theorem State.setPowered_pending (s : State) (x : Bool) : (s.setPowered x).pending = s.pending := rfl

@[simp] theorem State.setStore_powered (s : State) (x : Memory) : (s.setStore x).powered = s.powered := rfl
@[simp] theorem State.setStore_store (s : State) (x : Memory) : (s.setStore x).store = x := rfl
@[simp] theorem State.setStore_backed (s : State) (x : Memory) : (s.setStore x).backed = s.backed := rfl
@[simp] theorem State.setStore_requests (s : State) (x : Memory) : (s.setStore x).requests = s.requests := rfl
@[simp] theorem State.setStore_price (s : State) (x : Memory) : (s.setStore x).price = s.price := rfl
@[simp] theorem State.setStore_tills (s : State) (x : Memory) : (s.setStore x).tills = s.tills := rfl
@[simp] theorem State.setStore_journal (s : State) (x : Memory) : (s.setStore x).journal = s.journal := rfl
@[simp] theorem State.setStore_labels (s : State) (x : Memory) : (s.setStore x).labels = s.labels := rfl
@[simp] theorem State.setStore_link (s : State) (x : Memory) : (s.setStore x).link = s.link := rfl
@[simp] theorem State.setStore_exchange (s : State) (x : Memory) : (s.setStore x).exchange = s.exchange := rfl
@[simp] theorem State.setStore_net (s : State) (x : Memory) : (s.setStore x).net = s.net := rfl
@[simp] theorem State.setStore_guests (s : State) (x : Memory) : (s.setStore x).guests = s.guests := rfl
@[simp] theorem State.setStore_clock (s : State) (x : Memory) : (s.setStore x).clock = s.clock := rfl
@[simp] theorem State.setStore_host (s : State) (x : Memory) : (s.setStore x).host = s.host := rfl
@[simp] theorem State.setStore_freeIndex (s : State) (x : Memory) : (s.setStore x).freeIndex = s.freeIndex := rfl
@[simp] theorem State.setStore_pending (s : State) (x : Memory) : (s.setStore x).pending = s.pending := rfl

@[simp] theorem State.setBacked_powered (s : State) (x : Memory) : (s.setBacked x).powered = s.powered := rfl
@[simp] theorem State.setBacked_store (s : State) (x : Memory) : (s.setBacked x).store = s.store := rfl
@[simp] theorem State.setBacked_backed (s : State) (x : Memory) : (s.setBacked x).backed = x := rfl
@[simp] theorem State.setBacked_requests (s : State) (x : Memory) : (s.setBacked x).requests = s.requests := rfl
@[simp] theorem State.setBacked_price (s : State) (x : Memory) : (s.setBacked x).price = s.price := rfl
@[simp] theorem State.setBacked_tills (s : State) (x : Memory) : (s.setBacked x).tills = s.tills := rfl
@[simp] theorem State.setBacked_journal (s : State) (x : Memory) : (s.setBacked x).journal = s.journal := rfl
@[simp] theorem State.setBacked_labels (s : State) (x : Memory) : (s.setBacked x).labels = s.labels := rfl
@[simp] theorem State.setBacked_link (s : State) (x : Memory) : (s.setBacked x).link = s.link := rfl
@[simp] theorem State.setBacked_exchange (s : State) (x : Memory) : (s.setBacked x).exchange = s.exchange := rfl
@[simp] theorem State.setBacked_net (s : State) (x : Memory) : (s.setBacked x).net = s.net := rfl
@[simp] theorem State.setBacked_guests (s : State) (x : Memory) : (s.setBacked x).guests = s.guests := rfl
@[simp] theorem State.setBacked_clock (s : State) (x : Memory) : (s.setBacked x).clock = s.clock := rfl
@[simp] theorem State.setBacked_host (s : State) (x : Memory) : (s.setBacked x).host = s.host := rfl
@[simp] theorem State.setBacked_freeIndex (s : State) (x : Memory) : (s.setBacked x).freeIndex = s.freeIndex := rfl
@[simp] theorem State.setBacked_pending (s : State) (x : Memory) : (s.setBacked x).pending = s.pending := rfl

@[simp] theorem State.setRequests_powered (s : State) (x : RequestUnit) : (s.setRequests x).powered = s.powered := rfl
@[simp] theorem State.setRequests_store (s : State) (x : RequestUnit) : (s.setRequests x).store = s.store := rfl
@[simp] theorem State.setRequests_backed (s : State) (x : RequestUnit) : (s.setRequests x).backed = s.backed := rfl
@[simp] theorem State.setRequests_requests (s : State) (x : RequestUnit) : (s.setRequests x).requests = x := rfl
@[simp] theorem State.setRequests_price (s : State) (x : RequestUnit) : (s.setRequests x).price = s.price := rfl
@[simp] theorem State.setRequests_tills (s : State) (x : RequestUnit) : (s.setRequests x).tills = s.tills := rfl
@[simp] theorem State.setRequests_journal (s : State) (x : RequestUnit) : (s.setRequests x).journal = s.journal := rfl
@[simp] theorem State.setRequests_labels (s : State) (x : RequestUnit) : (s.setRequests x).labels = s.labels := rfl
@[simp] theorem State.setRequests_link (s : State) (x : RequestUnit) : (s.setRequests x).link = s.link := rfl
@[simp] theorem State.setRequests_exchange (s : State) (x : RequestUnit) : (s.setRequests x).exchange = s.exchange := rfl
@[simp] theorem State.setRequests_net (s : State) (x : RequestUnit) : (s.setRequests x).net = s.net := rfl
@[simp] theorem State.setRequests_guests (s : State) (x : RequestUnit) : (s.setRequests x).guests = s.guests := rfl
@[simp] theorem State.setRequests_clock (s : State) (x : RequestUnit) : (s.setRequests x).clock = s.clock := rfl
@[simp] theorem State.setRequests_host (s : State) (x : RequestUnit) : (s.setRequests x).host = s.host := rfl
@[simp] theorem State.setRequests_freeIndex (s : State) (x : RequestUnit) : (s.setRequests x).freeIndex = s.freeIndex := rfl
@[simp] theorem State.setRequests_pending (s : State) (x : RequestUnit) : (s.setRequests x).pending = s.pending := rfl

@[simp] theorem State.setPrice_powered (s : State) (x : PriceEngine) : (s.setPrice x).powered = s.powered := rfl
@[simp] theorem State.setPrice_store (s : State) (x : PriceEngine) : (s.setPrice x).store = s.store := rfl
@[simp] theorem State.setPrice_backed (s : State) (x : PriceEngine) : (s.setPrice x).backed = s.backed := rfl
@[simp] theorem State.setPrice_requests (s : State) (x : PriceEngine) : (s.setPrice x).requests = s.requests := rfl
@[simp] theorem State.setPrice_price (s : State) (x : PriceEngine) : (s.setPrice x).price = x := rfl
@[simp] theorem State.setPrice_tills (s : State) (x : PriceEngine) : (s.setPrice x).tills = s.tills := rfl
@[simp] theorem State.setPrice_journal (s : State) (x : PriceEngine) : (s.setPrice x).journal = s.journal := rfl
@[simp] theorem State.setPrice_labels (s : State) (x : PriceEngine) : (s.setPrice x).labels = s.labels := rfl
@[simp] theorem State.setPrice_link (s : State) (x : PriceEngine) : (s.setPrice x).link = s.link := rfl
@[simp] theorem State.setPrice_exchange (s : State) (x : PriceEngine) : (s.setPrice x).exchange = s.exchange := rfl
@[simp] theorem State.setPrice_net (s : State) (x : PriceEngine) : (s.setPrice x).net = s.net := rfl
@[simp] theorem State.setPrice_guests (s : State) (x : PriceEngine) : (s.setPrice x).guests = s.guests := rfl
@[simp] theorem State.setPrice_clock (s : State) (x : PriceEngine) : (s.setPrice x).clock = s.clock := rfl
@[simp] theorem State.setPrice_host (s : State) (x : PriceEngine) : (s.setPrice x).host = s.host := rfl
@[simp] theorem State.setPrice_freeIndex (s : State) (x : PriceEngine) : (s.setPrice x).freeIndex = s.freeIndex := rfl
@[simp] theorem State.setPrice_pending (s : State) (x : PriceEngine) : (s.setPrice x).pending = s.pending := rfl

@[simp] theorem State.setTills_powered (s : State) (x : TillService) : (s.setTills x).powered = s.powered := rfl
@[simp] theorem State.setTills_store (s : State) (x : TillService) : (s.setTills x).store = s.store := rfl
@[simp] theorem State.setTills_backed (s : State) (x : TillService) : (s.setTills x).backed = s.backed := rfl
@[simp] theorem State.setTills_requests (s : State) (x : TillService) : (s.setTills x).requests = s.requests := rfl
@[simp] theorem State.setTills_price (s : State) (x : TillService) : (s.setTills x).price = s.price := rfl
@[simp] theorem State.setTills_tills (s : State) (x : TillService) : (s.setTills x).tills = x := rfl
@[simp] theorem State.setTills_journal (s : State) (x : TillService) : (s.setTills x).journal = s.journal := rfl
@[simp] theorem State.setTills_labels (s : State) (x : TillService) : (s.setTills x).labels = s.labels := rfl
@[simp] theorem State.setTills_link (s : State) (x : TillService) : (s.setTills x).link = s.link := rfl
@[simp] theorem State.setTills_exchange (s : State) (x : TillService) : (s.setTills x).exchange = s.exchange := rfl
@[simp] theorem State.setTills_net (s : State) (x : TillService) : (s.setTills x).net = s.net := rfl
@[simp] theorem State.setTills_guests (s : State) (x : TillService) : (s.setTills x).guests = s.guests := rfl
@[simp] theorem State.setTills_clock (s : State) (x : TillService) : (s.setTills x).clock = s.clock := rfl
@[simp] theorem State.setTills_host (s : State) (x : TillService) : (s.setTills x).host = s.host := rfl
@[simp] theorem State.setTills_freeIndex (s : State) (x : TillService) : (s.setTills x).freeIndex = s.freeIndex := rfl
@[simp] theorem State.setTills_pending (s : State) (x : TillService) : (s.setTills x).pending = s.pending := rfl

@[simp] theorem State.setJournal_powered (s : State) (x : Journal) : (s.setJournal x).powered = s.powered := rfl
@[simp] theorem State.setJournal_store (s : State) (x : Journal) : (s.setJournal x).store = s.store := rfl
@[simp] theorem State.setJournal_backed (s : State) (x : Journal) : (s.setJournal x).backed = s.backed := rfl
@[simp] theorem State.setJournal_requests (s : State) (x : Journal) : (s.setJournal x).requests = s.requests := rfl
@[simp] theorem State.setJournal_price (s : State) (x : Journal) : (s.setJournal x).price = s.price := rfl
@[simp] theorem State.setJournal_tills (s : State) (x : Journal) : (s.setJournal x).tills = s.tills := rfl
@[simp] theorem State.setJournal_journal (s : State) (x : Journal) : (s.setJournal x).journal = x := rfl
@[simp] theorem State.setJournal_labels (s : State) (x : Journal) : (s.setJournal x).labels = s.labels := rfl
@[simp] theorem State.setJournal_link (s : State) (x : Journal) : (s.setJournal x).link = s.link := rfl
@[simp] theorem State.setJournal_exchange (s : State) (x : Journal) : (s.setJournal x).exchange = s.exchange := rfl
@[simp] theorem State.setJournal_net (s : State) (x : Journal) : (s.setJournal x).net = s.net := rfl
@[simp] theorem State.setJournal_guests (s : State) (x : Journal) : (s.setJournal x).guests = s.guests := rfl
@[simp] theorem State.setJournal_clock (s : State) (x : Journal) : (s.setJournal x).clock = s.clock := rfl
@[simp] theorem State.setJournal_host (s : State) (x : Journal) : (s.setJournal x).host = s.host := rfl
@[simp] theorem State.setJournal_freeIndex (s : State) (x : Journal) : (s.setJournal x).freeIndex = s.freeIndex := rfl
@[simp] theorem State.setJournal_pending (s : State) (x : Journal) : (s.setJournal x).pending = s.pending := rfl

@[simp] theorem State.setLabels_powered (s : State) (x : LabelService) : (s.setLabels x).powered = s.powered := rfl
@[simp] theorem State.setLabels_store (s : State) (x : LabelService) : (s.setLabels x).store = s.store := rfl
@[simp] theorem State.setLabels_backed (s : State) (x : LabelService) : (s.setLabels x).backed = s.backed := rfl
@[simp] theorem State.setLabels_requests (s : State) (x : LabelService) : (s.setLabels x).requests = s.requests := rfl
@[simp] theorem State.setLabels_price (s : State) (x : LabelService) : (s.setLabels x).price = s.price := rfl
@[simp] theorem State.setLabels_tills (s : State) (x : LabelService) : (s.setLabels x).tills = s.tills := rfl
@[simp] theorem State.setLabels_journal (s : State) (x : LabelService) : (s.setLabels x).journal = s.journal := rfl
@[simp] theorem State.setLabels_labels (s : State) (x : LabelService) : (s.setLabels x).labels = x := rfl
@[simp] theorem State.setLabels_link (s : State) (x : LabelService) : (s.setLabels x).link = s.link := rfl
@[simp] theorem State.setLabels_exchange (s : State) (x : LabelService) : (s.setLabels x).exchange = s.exchange := rfl
@[simp] theorem State.setLabels_net (s : State) (x : LabelService) : (s.setLabels x).net = s.net := rfl
@[simp] theorem State.setLabels_guests (s : State) (x : LabelService) : (s.setLabels x).guests = s.guests := rfl
@[simp] theorem State.setLabels_clock (s : State) (x : LabelService) : (s.setLabels x).clock = s.clock := rfl
@[simp] theorem State.setLabels_host (s : State) (x : LabelService) : (s.setLabels x).host = s.host := rfl
@[simp] theorem State.setLabels_freeIndex (s : State) (x : LabelService) : (s.setLabels x).freeIndex = s.freeIndex := rfl
@[simp] theorem State.setLabels_pending (s : State) (x : LabelService) : (s.setLabels x).pending = s.pending := rfl

@[simp] theorem State.setLink_powered (s : State) (x : StationLink) : (s.setLink x).powered = s.powered := rfl
@[simp] theorem State.setLink_store (s : State) (x : StationLink) : (s.setLink x).store = s.store := rfl
@[simp] theorem State.setLink_backed (s : State) (x : StationLink) : (s.setLink x).backed = s.backed := rfl
@[simp] theorem State.setLink_requests (s : State) (x : StationLink) : (s.setLink x).requests = s.requests := rfl
@[simp] theorem State.setLink_price (s : State) (x : StationLink) : (s.setLink x).price = s.price := rfl
@[simp] theorem State.setLink_tills (s : State) (x : StationLink) : (s.setLink x).tills = s.tills := rfl
@[simp] theorem State.setLink_journal (s : State) (x : StationLink) : (s.setLink x).journal = s.journal := rfl
@[simp] theorem State.setLink_labels (s : State) (x : StationLink) : (s.setLink x).labels = s.labels := rfl
@[simp] theorem State.setLink_link (s : State) (x : StationLink) : (s.setLink x).link = x := rfl
@[simp] theorem State.setLink_exchange (s : State) (x : StationLink) : (s.setLink x).exchange = s.exchange := rfl
@[simp] theorem State.setLink_net (s : State) (x : StationLink) : (s.setLink x).net = s.net := rfl
@[simp] theorem State.setLink_guests (s : State) (x : StationLink) : (s.setLink x).guests = s.guests := rfl
@[simp] theorem State.setLink_clock (s : State) (x : StationLink) : (s.setLink x).clock = s.clock := rfl
@[simp] theorem State.setLink_host (s : State) (x : StationLink) : (s.setLink x).host = s.host := rfl
@[simp] theorem State.setLink_freeIndex (s : State) (x : StationLink) : (s.setLink x).freeIndex = s.freeIndex := rfl
@[simp] theorem State.setLink_pending (s : State) (x : StationLink) : (s.setLink x).pending = s.pending := rfl

@[simp] theorem State.setExchange_powered (s : State) (x : Exchange) : (s.setExchange x).powered = s.powered := rfl
@[simp] theorem State.setExchange_store (s : State) (x : Exchange) : (s.setExchange x).store = s.store := rfl
@[simp] theorem State.setExchange_backed (s : State) (x : Exchange) : (s.setExchange x).backed = s.backed := rfl
@[simp] theorem State.setExchange_requests (s : State) (x : Exchange) : (s.setExchange x).requests = s.requests := rfl
@[simp] theorem State.setExchange_price (s : State) (x : Exchange) : (s.setExchange x).price = s.price := rfl
@[simp] theorem State.setExchange_tills (s : State) (x : Exchange) : (s.setExchange x).tills = s.tills := rfl
@[simp] theorem State.setExchange_journal (s : State) (x : Exchange) : (s.setExchange x).journal = s.journal := rfl
@[simp] theorem State.setExchange_labels (s : State) (x : Exchange) : (s.setExchange x).labels = s.labels := rfl
@[simp] theorem State.setExchange_link (s : State) (x : Exchange) : (s.setExchange x).link = s.link := rfl
@[simp] theorem State.setExchange_exchange (s : State) (x : Exchange) : (s.setExchange x).exchange = x := rfl
@[simp] theorem State.setExchange_net (s : State) (x : Exchange) : (s.setExchange x).net = s.net := rfl
@[simp] theorem State.setExchange_guests (s : State) (x : Exchange) : (s.setExchange x).guests = s.guests := rfl
@[simp] theorem State.setExchange_clock (s : State) (x : Exchange) : (s.setExchange x).clock = s.clock := rfl
@[simp] theorem State.setExchange_host (s : State) (x : Exchange) : (s.setExchange x).host = s.host := rfl
@[simp] theorem State.setExchange_freeIndex (s : State) (x : Exchange) : (s.setExchange x).freeIndex = s.freeIndex := rfl
@[simp] theorem State.setExchange_pending (s : State) (x : Exchange) : (s.setExchange x).pending = s.pending := rfl

@[simp] theorem State.setNet_powered (s : State) (x : Forwarding) : (s.setNet x).powered = s.powered := rfl
@[simp] theorem State.setNet_store (s : State) (x : Forwarding) : (s.setNet x).store = s.store := rfl
@[simp] theorem State.setNet_backed (s : State) (x : Forwarding) : (s.setNet x).backed = s.backed := rfl
@[simp] theorem State.setNet_requests (s : State) (x : Forwarding) : (s.setNet x).requests = s.requests := rfl
@[simp] theorem State.setNet_price (s : State) (x : Forwarding) : (s.setNet x).price = s.price := rfl
@[simp] theorem State.setNet_tills (s : State) (x : Forwarding) : (s.setNet x).tills = s.tills := rfl
@[simp] theorem State.setNet_journal (s : State) (x : Forwarding) : (s.setNet x).journal = s.journal := rfl
@[simp] theorem State.setNet_labels (s : State) (x : Forwarding) : (s.setNet x).labels = s.labels := rfl
@[simp] theorem State.setNet_link (s : State) (x : Forwarding) : (s.setNet x).link = s.link := rfl
@[simp] theorem State.setNet_exchange (s : State) (x : Forwarding) : (s.setNet x).exchange = s.exchange := rfl
@[simp] theorem State.setNet_net (s : State) (x : Forwarding) : (s.setNet x).net = x := rfl
@[simp] theorem State.setNet_guests (s : State) (x : Forwarding) : (s.setNet x).guests = s.guests := rfl
@[simp] theorem State.setNet_clock (s : State) (x : Forwarding) : (s.setNet x).clock = s.clock := rfl
@[simp] theorem State.setNet_host (s : State) (x : Forwarding) : (s.setNet x).host = s.host := rfl
@[simp] theorem State.setNet_freeIndex (s : State) (x : Forwarding) : (s.setNet x).freeIndex = s.freeIndex := rfl
@[simp] theorem State.setNet_pending (s : State) (x : Forwarding) : (s.setNet x).pending = s.pending := rfl

@[simp] theorem State.setGuests_powered (s : State) (x : GuestUnit) : (s.setGuests x).powered = s.powered := rfl
@[simp] theorem State.setGuests_store (s : State) (x : GuestUnit) : (s.setGuests x).store = s.store := rfl
@[simp] theorem State.setGuests_backed (s : State) (x : GuestUnit) : (s.setGuests x).backed = s.backed := rfl
@[simp] theorem State.setGuests_requests (s : State) (x : GuestUnit) : (s.setGuests x).requests = s.requests := rfl
@[simp] theorem State.setGuests_price (s : State) (x : GuestUnit) : (s.setGuests x).price = s.price := rfl
@[simp] theorem State.setGuests_tills (s : State) (x : GuestUnit) : (s.setGuests x).tills = s.tills := rfl
@[simp] theorem State.setGuests_journal (s : State) (x : GuestUnit) : (s.setGuests x).journal = s.journal := rfl
@[simp] theorem State.setGuests_labels (s : State) (x : GuestUnit) : (s.setGuests x).labels = s.labels := rfl
@[simp] theorem State.setGuests_link (s : State) (x : GuestUnit) : (s.setGuests x).link = s.link := rfl
@[simp] theorem State.setGuests_exchange (s : State) (x : GuestUnit) : (s.setGuests x).exchange = s.exchange := rfl
@[simp] theorem State.setGuests_net (s : State) (x : GuestUnit) : (s.setGuests x).net = s.net := rfl
@[simp] theorem State.setGuests_guests (s : State) (x : GuestUnit) : (s.setGuests x).guests = x := rfl
@[simp] theorem State.setGuests_clock (s : State) (x : GuestUnit) : (s.setGuests x).clock = s.clock := rfl
@[simp] theorem State.setGuests_host (s : State) (x : GuestUnit) : (s.setGuests x).host = s.host := rfl
@[simp] theorem State.setGuests_freeIndex (s : State) (x : GuestUnit) : (s.setGuests x).freeIndex = s.freeIndex := rfl
@[simp] theorem State.setGuests_pending (s : State) (x : GuestUnit) : (s.setGuests x).pending = s.pending := rfl

@[simp] theorem State.setClock_powered (s : State) (x : Clock) : (s.setClock x).powered = s.powered := rfl
@[simp] theorem State.setClock_store (s : State) (x : Clock) : (s.setClock x).store = s.store := rfl
@[simp] theorem State.setClock_backed (s : State) (x : Clock) : (s.setClock x).backed = s.backed := rfl
@[simp] theorem State.setClock_requests (s : State) (x : Clock) : (s.setClock x).requests = s.requests := rfl
@[simp] theorem State.setClock_price (s : State) (x : Clock) : (s.setClock x).price = s.price := rfl
@[simp] theorem State.setClock_tills (s : State) (x : Clock) : (s.setClock x).tills = s.tills := rfl
@[simp] theorem State.setClock_journal (s : State) (x : Clock) : (s.setClock x).journal = s.journal := rfl
@[simp] theorem State.setClock_labels (s : State) (x : Clock) : (s.setClock x).labels = s.labels := rfl
@[simp] theorem State.setClock_link (s : State) (x : Clock) : (s.setClock x).link = s.link := rfl
@[simp] theorem State.setClock_exchange (s : State) (x : Clock) : (s.setClock x).exchange = s.exchange := rfl
@[simp] theorem State.setClock_net (s : State) (x : Clock) : (s.setClock x).net = s.net := rfl
@[simp] theorem State.setClock_guests (s : State) (x : Clock) : (s.setClock x).guests = s.guests := rfl
@[simp] theorem State.setClock_clock (s : State) (x : Clock) : (s.setClock x).clock = x := rfl
@[simp] theorem State.setClock_host (s : State) (x : Clock) : (s.setClock x).host = s.host := rfl
@[simp] theorem State.setClock_freeIndex (s : State) (x : Clock) : (s.setClock x).freeIndex = s.freeIndex := rfl
@[simp] theorem State.setClock_pending (s : State) (x : Clock) : (s.setClock x).pending = s.pending := rfl

@[simp] theorem State.setHost_powered (s : State) (x : HostSide) : (s.setHost x).powered = s.powered := rfl
@[simp] theorem State.setHost_store (s : State) (x : HostSide) : (s.setHost x).store = s.store := rfl
@[simp] theorem State.setHost_backed (s : State) (x : HostSide) : (s.setHost x).backed = s.backed := rfl
@[simp] theorem State.setHost_requests (s : State) (x : HostSide) : (s.setHost x).requests = s.requests := rfl
@[simp] theorem State.setHost_price (s : State) (x : HostSide) : (s.setHost x).price = s.price := rfl
@[simp] theorem State.setHost_tills (s : State) (x : HostSide) : (s.setHost x).tills = s.tills := rfl
@[simp] theorem State.setHost_journal (s : State) (x : HostSide) : (s.setHost x).journal = s.journal := rfl
@[simp] theorem State.setHost_labels (s : State) (x : HostSide) : (s.setHost x).labels = s.labels := rfl
@[simp] theorem State.setHost_link (s : State) (x : HostSide) : (s.setHost x).link = s.link := rfl
@[simp] theorem State.setHost_exchange (s : State) (x : HostSide) : (s.setHost x).exchange = s.exchange := rfl
@[simp] theorem State.setHost_net (s : State) (x : HostSide) : (s.setHost x).net = s.net := rfl
@[simp] theorem State.setHost_guests (s : State) (x : HostSide) : (s.setHost x).guests = s.guests := rfl
@[simp] theorem State.setHost_clock (s : State) (x : HostSide) : (s.setHost x).clock = s.clock := rfl
@[simp] theorem State.setHost_host (s : State) (x : HostSide) : (s.setHost x).host = x := rfl
@[simp] theorem State.setHost_freeIndex (s : State) (x : HostSide) : (s.setHost x).freeIndex = s.freeIndex := rfl
@[simp] theorem State.setHost_pending (s : State) (x : HostSide) : (s.setHost x).pending = s.pending := rfl

@[simp] theorem State.setFreeIndex_powered (s : State) (x : Nat) : (s.setFreeIndex x).powered = s.powered := rfl
@[simp] theorem State.setFreeIndex_store (s : State) (x : Nat) : (s.setFreeIndex x).store = s.store := rfl
@[simp] theorem State.setFreeIndex_backed (s : State) (x : Nat) : (s.setFreeIndex x).backed = s.backed := rfl
@[simp] theorem State.setFreeIndex_requests (s : State) (x : Nat) : (s.setFreeIndex x).requests = s.requests := rfl
@[simp] theorem State.setFreeIndex_price (s : State) (x : Nat) : (s.setFreeIndex x).price = s.price := rfl
@[simp] theorem State.setFreeIndex_tills (s : State) (x : Nat) : (s.setFreeIndex x).tills = s.tills := rfl
@[simp] theorem State.setFreeIndex_journal (s : State) (x : Nat) : (s.setFreeIndex x).journal = s.journal := rfl
@[simp] theorem State.setFreeIndex_labels (s : State) (x : Nat) : (s.setFreeIndex x).labels = s.labels := rfl
@[simp] theorem State.setFreeIndex_link (s : State) (x : Nat) : (s.setFreeIndex x).link = s.link := rfl
@[simp] theorem State.setFreeIndex_exchange (s : State) (x : Nat) : (s.setFreeIndex x).exchange = s.exchange := rfl
@[simp] theorem State.setFreeIndex_net (s : State) (x : Nat) : (s.setFreeIndex x).net = s.net := rfl
@[simp] theorem State.setFreeIndex_guests (s : State) (x : Nat) : (s.setFreeIndex x).guests = s.guests := rfl
@[simp] theorem State.setFreeIndex_clock (s : State) (x : Nat) : (s.setFreeIndex x).clock = s.clock := rfl
@[simp] theorem State.setFreeIndex_host (s : State) (x : Nat) : (s.setFreeIndex x).host = s.host := rfl
@[simp] theorem State.setFreeIndex_freeIndex (s : State) (x : Nat) : (s.setFreeIndex x).freeIndex = x := rfl
@[simp] theorem State.setFreeIndex_pending (s : State) (x : Nat) : (s.setFreeIndex x).pending = s.pending := rfl

@[simp] theorem State.setPending_powered (s : State) (x : List Instr) : (s.setPending x).powered = s.powered := rfl
@[simp] theorem State.setPending_store (s : State) (x : List Instr) : (s.setPending x).store = s.store := rfl
@[simp] theorem State.setPending_backed (s : State) (x : List Instr) : (s.setPending x).backed = s.backed := rfl
@[simp] theorem State.setPending_requests (s : State) (x : List Instr) : (s.setPending x).requests = s.requests := rfl
@[simp] theorem State.setPending_price (s : State) (x : List Instr) : (s.setPending x).price = s.price := rfl
@[simp] theorem State.setPending_tills (s : State) (x : List Instr) : (s.setPending x).tills = s.tills := rfl
@[simp] theorem State.setPending_journal (s : State) (x : List Instr) : (s.setPending x).journal = s.journal := rfl
@[simp] theorem State.setPending_labels (s : State) (x : List Instr) : (s.setPending x).labels = s.labels := rfl
@[simp] theorem State.setPending_link (s : State) (x : List Instr) : (s.setPending x).link = s.link := rfl
@[simp] theorem State.setPending_exchange (s : State) (x : List Instr) : (s.setPending x).exchange = s.exchange := rfl
@[simp] theorem State.setPending_net (s : State) (x : List Instr) : (s.setPending x).net = s.net := rfl
@[simp] theorem State.setPending_guests (s : State) (x : List Instr) : (s.setPending x).guests = s.guests := rfl
@[simp] theorem State.setPending_clock (s : State) (x : List Instr) : (s.setPending x).clock = s.clock := rfl
@[simp] theorem State.setPending_host (s : State) (x : List Instr) : (s.setPending x).host = s.host := rfl
@[simp] theorem State.setPending_freeIndex (s : State) (x : List Instr) : (s.setPending x).freeIndex = s.freeIndex := rfl
@[simp] theorem State.setPending_pending (s : State) (x : List Instr) : (s.setPending x).pending = x := rfl

@[simp] theorem State.setPowered_self (s : State) : s.setPowered s.powered = s := rfl
@[simp] theorem State.setPowered_setPowered (s : State) (x y : Bool) : (s.setPowered x).setPowered y = s.setPowered y := rfl
@[simp] theorem State.setStore_self (s : State) : s.setStore s.store = s := rfl
@[simp] theorem State.setStore_setStore (s : State) (x y : Memory) : (s.setStore x).setStore y = s.setStore y := rfl
@[simp] theorem State.setBacked_self (s : State) : s.setBacked s.backed = s := rfl
@[simp] theorem State.setBacked_setBacked (s : State) (x y : Memory) : (s.setBacked x).setBacked y = s.setBacked y := rfl
@[simp] theorem State.setRequests_self (s : State) : s.setRequests s.requests = s := rfl
@[simp] theorem State.setRequests_setRequests (s : State) (x y : RequestUnit) : (s.setRequests x).setRequests y = s.setRequests y := rfl
@[simp] theorem State.setPrice_self (s : State) : s.setPrice s.price = s := rfl
@[simp] theorem State.setPrice_setPrice (s : State) (x y : PriceEngine) : (s.setPrice x).setPrice y = s.setPrice y := rfl
@[simp] theorem State.setTills_self (s : State) : s.setTills s.tills = s := rfl
@[simp] theorem State.setTills_setTills (s : State) (x y : TillService) : (s.setTills x).setTills y = s.setTills y := rfl
@[simp] theorem State.setJournal_self (s : State) : s.setJournal s.journal = s := rfl
@[simp] theorem State.setJournal_setJournal (s : State) (x y : Journal) : (s.setJournal x).setJournal y = s.setJournal y := rfl
@[simp] theorem State.setLabels_self (s : State) : s.setLabels s.labels = s := rfl
@[simp] theorem State.setLabels_setLabels (s : State) (x y : LabelService) : (s.setLabels x).setLabels y = s.setLabels y := rfl
@[simp] theorem State.setLink_self (s : State) : s.setLink s.link = s := rfl
@[simp] theorem State.setLink_setLink (s : State) (x y : StationLink) : (s.setLink x).setLink y = s.setLink y := rfl
@[simp] theorem State.setExchange_self (s : State) : s.setExchange s.exchange = s := rfl
@[simp] theorem State.setExchange_setExchange (s : State) (x y : Exchange) : (s.setExchange x).setExchange y = s.setExchange y := rfl
@[simp] theorem State.setNet_self (s : State) : s.setNet s.net = s := rfl
@[simp] theorem State.setNet_setNet (s : State) (x y : Forwarding) : (s.setNet x).setNet y = s.setNet y := rfl
@[simp] theorem State.setGuests_self (s : State) : s.setGuests s.guests = s := rfl
@[simp] theorem State.setGuests_setGuests (s : State) (x y : GuestUnit) : (s.setGuests x).setGuests y = s.setGuests y := rfl
@[simp] theorem State.setClock_self (s : State) : s.setClock s.clock = s := rfl
@[simp] theorem State.setClock_setClock (s : State) (x y : Clock) : (s.setClock x).setClock y = s.setClock y := rfl
@[simp] theorem State.setHost_self (s : State) : s.setHost s.host = s := rfl
@[simp] theorem State.setHost_setHost (s : State) (x y : HostSide) : (s.setHost x).setHost y = s.setHost y := rfl
@[simp] theorem State.setFreeIndex_self (s : State) : s.setFreeIndex s.freeIndex = s := rfl
@[simp] theorem State.setFreeIndex_setFreeIndex (s : State) (x y : Nat) : (s.setFreeIndex x).setFreeIndex y = s.setFreeIndex y := rfl
@[simp] theorem State.setPending_self (s : State) : s.setPending s.pending = s := rfl
@[simp] theorem State.setPending_setPending (s : State) (x y : List Instr) : (s.setPending x).setPending y = s.setPending y := rfl

end Sys2Proof.Machine
end

