-- ==== Sys2Proof/Laws/Ops.lean ====
section
/-! SUPPORT. Laws/Ops.lean: what each shared operation leaves alone, and what the queues, the cause set, the notice log
and a chain's own fields are after it. -/

namespace Sys2Proof.Machine

/-! ### A word of the common store written (R189) -/

@[simp] theorem State.writeWord_powered (s : State) (o : Nat) (v : Word) : (s.writeWord o v).powered = s.powered := rfl
@[simp] theorem State.writeWord_backed (s : State) (o : Nat) (v : Word) : (s.writeWord o v).backed = s.backed := rfl
@[simp] theorem State.writeWord_requests (s : State) (o : Nat) (v : Word) : (s.writeWord o v).requests = s.requests := rfl
@[simp] theorem State.writeWord_price (s : State) (o : Nat) (v : Word) : (s.writeWord o v).price = s.price := rfl
@[simp] theorem State.writeWord_tills (s : State) (o : Nat) (v : Word) : (s.writeWord o v).tills = s.tills := rfl
@[simp] theorem State.writeWord_journal (s : State) (o : Nat) (v : Word) : (s.writeWord o v).journal = s.journal := rfl
@[simp] theorem State.writeWord_labels (s : State) (o : Nat) (v : Word) : (s.writeWord o v).labels = s.labels := rfl
@[simp] theorem State.writeWord_link (s : State) (o : Nat) (v : Word) : (s.writeWord o v).link = s.link := rfl
@[simp] theorem State.writeWord_exchange (s : State) (o : Nat) (v : Word) : (s.writeWord o v).exchange = s.exchange := rfl
@[simp] theorem State.writeWord_net (s : State) (o : Nat) (v : Word) : (s.writeWord o v).net = s.net := rfl
@[simp] theorem State.writeWord_guests (s : State) (o : Nat) (v : Word) : (s.writeWord o v).guests = s.guests := rfl
@[simp] theorem State.writeWord_clock (s : State) (o : Nat) (v : Word) : (s.writeWord o v).clock = s.clock := rfl
@[simp] theorem State.writeWord_host (s : State) (o : Nat) (v : Word) : (s.writeWord o v).host = s.host := rfl
@[simp] theorem State.writeWord_freeIndex (s : State) (o : Nat) (v : Word) : (s.writeWord o v).freeIndex = s.freeIndex := rfl
@[simp] theorem State.writeWord_pending (s : State) (o : Nat) (v : Word) : (s.writeWord o v).pending = s.pending := rfl

/-! ### Bytes of the common store written (R189) -/

@[simp] theorem State.writeStore_powered (s : State) (o : Nat) (b : List Byte) : (s.writeStore o b).powered = s.powered := rfl
@[simp] theorem State.writeStore_backed (s : State) (o : Nat) (b : List Byte) : (s.writeStore o b).backed = s.backed := rfl
@[simp] theorem State.writeStore_requests (s : State) (o : Nat) (b : List Byte) : (s.writeStore o b).requests = s.requests := rfl
@[simp] theorem State.writeStore_price (s : State) (o : Nat) (b : List Byte) : (s.writeStore o b).price = s.price := rfl
@[simp] theorem State.writeStore_tills (s : State) (o : Nat) (b : List Byte) : (s.writeStore o b).tills = s.tills := rfl
@[simp] theorem State.writeStore_journal (s : State) (o : Nat) (b : List Byte) : (s.writeStore o b).journal = s.journal := rfl
@[simp] theorem State.writeStore_labels (s : State) (o : Nat) (b : List Byte) : (s.writeStore o b).labels = s.labels := rfl
@[simp] theorem State.writeStore_link (s : State) (o : Nat) (b : List Byte) : (s.writeStore o b).link = s.link := rfl
@[simp] theorem State.writeStore_exchange (s : State) (o : Nat) (b : List Byte) : (s.writeStore o b).exchange = s.exchange := rfl
@[simp] theorem State.writeStore_net (s : State) (o : Nat) (b : List Byte) : (s.writeStore o b).net = s.net := rfl
@[simp] theorem State.writeStore_guests (s : State) (o : Nat) (b : List Byte) : (s.writeStore o b).guests = s.guests := rfl
@[simp] theorem State.writeStore_clock (s : State) (o : Nat) (b : List Byte) : (s.writeStore o b).clock = s.clock := rfl
@[simp] theorem State.writeStore_host (s : State) (o : Nat) (b : List Byte) : (s.writeStore o b).host = s.host := rfl
@[simp] theorem State.writeStore_freeIndex (s : State) (o : Nat) (b : List Byte) : (s.writeStore o b).freeIndex = s.freeIndex := rfl
@[simp] theorem State.writeStore_pending (s : State) (o : Nat) (b : List Byte) : (s.writeStore o b).pending = s.pending := rfl

/-! ### A status word written (R190) -/

@[simp] theorem State.status_powered (s : State) (o v : Nat) : (s.status o v).powered = s.powered := rfl
@[simp] theorem State.status_backed (s : State) (o v : Nat) : (s.status o v).backed = s.backed := rfl
@[simp] theorem State.status_requests (s : State) (o v : Nat) : (s.status o v).requests = s.requests := rfl
@[simp] theorem State.status_price (s : State) (o v : Nat) : (s.status o v).price = s.price := rfl
@[simp] theorem State.status_tills (s : State) (o v : Nat) : (s.status o v).tills = s.tills := rfl
@[simp] theorem State.status_journal (s : State) (o v : Nat) : (s.status o v).journal = s.journal := rfl
@[simp] theorem State.status_labels (s : State) (o v : Nat) : (s.status o v).labels = s.labels := rfl
@[simp] theorem State.status_link (s : State) (o v : Nat) : (s.status o v).link = s.link := rfl
@[simp] theorem State.status_exchange (s : State) (o v : Nat) : (s.status o v).exchange = s.exchange := rfl
@[simp] theorem State.status_net (s : State) (o v : Nat) : (s.status o v).net = s.net := rfl
@[simp] theorem State.status_guests (s : State) (o v : Nat) : (s.status o v).guests = s.guests := rfl
@[simp] theorem State.status_clock (s : State) (o v : Nat) : (s.status o v).clock = s.clock := rfl
@[simp] theorem State.status_host (s : State) (o v : Nat) : (s.status o v).host = s.host := rfl
@[simp] theorem State.status_freeIndex (s : State) (o v : Nat) : (s.status o v).freeIndex = s.freeIndex := rfl
@[simp] theorem State.status_pending (s : State) (o v : Nat) : (s.status o v).pending = s.pending := rfl

/-! ### A cause raised (R201, R202) -/

@[simp] theorem State.raise_powered (s : State) (c : Cause) : (s.raise c).powered = s.powered := rfl
@[simp] theorem State.raise_store (s : State) (c : Cause) : (s.raise c).store = s.store := rfl
@[simp] theorem State.raise_backed (s : State) (c : Cause) : (s.raise c).backed = s.backed := rfl
@[simp] theorem State.raise_price (s : State) (c : Cause) : (s.raise c).price = s.price := rfl
@[simp] theorem State.raise_tills (s : State) (c : Cause) : (s.raise c).tills = s.tills := rfl
@[simp] theorem State.raise_journal (s : State) (c : Cause) : (s.raise c).journal = s.journal := rfl
@[simp] theorem State.raise_labels (s : State) (c : Cause) : (s.raise c).labels = s.labels := rfl
@[simp] theorem State.raise_link (s : State) (c : Cause) : (s.raise c).link = s.link := rfl
@[simp] theorem State.raise_exchange (s : State) (c : Cause) : (s.raise c).exchange = s.exchange := rfl
@[simp] theorem State.raise_net (s : State) (c : Cause) : (s.raise c).net = s.net := rfl
@[simp] theorem State.raise_guests (s : State) (c : Cause) : (s.raise c).guests = s.guests := rfl
@[simp] theorem State.raise_clock (s : State) (c : Cause) : (s.raise c).clock = s.clock := rfl
@[simp] theorem State.raise_freeIndex (s : State) (c : Cause) : (s.raise c).freeIndex = s.freeIndex := rfl
@[simp] theorem State.raise_pending (s : State) (c : Cause) : (s.raise c).pending = s.pending := rfl

/-- Bytes written by the part (R189). -/
@[simp] theorem State.writeStore_store (s : State) (o : Nat) (b : List Byte) :
    (s.writeStore o b).store = s.store.writeBytes o b := rfl

/-- A word written by the part (R189). -/
@[simp] theorem State.writeWord_store (s : State) (o : Nat) (v : Word) :
    (s.writeWord o v).store = s.store.setWord o v := rfl

/-- A status word written (R190). -/
@[simp] theorem State.status_store (s : State) (o v : Nat) :
    (s.status o v).store = s.store.setWord o (BitVec.ofNat 32 v) := rfl

/-- Raising a cause adds its bit to the cause set and leaves the rest of the Request Unit (R201). -/
theorem State.raise_requests (s : State) (c : Cause) :
    (s.raise c).requests = { s.requests with causes := s.requests.causes ||| c.bit } := rfl

/-- A raised cause is pending (R201). -/
theorem State.raise_pending_cause (s : State) (c : Cause) : (s.raise c).requests.causes &&& c.bit ≠ 0 := by
  show (s.requests.causes ||| c.bit) &&& c.bit ≠ 0
  intro h
  have hc : (s.requests.causes ||| c.bit) &&& c.bit = c.bit := by
    ext i hi
    simp only [BitVec.getElem_and, BitVec.getElem_or]
    cases s.requests.causes[i] <;> cases c.bit[i] <;> rfl
  rw [hc] at h
  cases c <;> exact absurd h (by decide)

/-! ### A notice posted (R199) -/

@[simp] theorem State.post_powered (s : State) (k : NoticeKind) (x d : Nat) : (s.post k x d).powered = s.powered := by
  unfold State.post; dsimp only; split <;> (try split) <;> simp
@[simp] theorem State.post_backed (s : State) (k : NoticeKind) (x d : Nat) : (s.post k x d).backed = s.backed := by
  unfold State.post; dsimp only; split <;> (try split) <;> simp
@[simp] theorem State.post_price (s : State) (k : NoticeKind) (x d : Nat) : (s.post k x d).price = s.price := by
  unfold State.post; dsimp only; split <;> (try split) <;> simp
@[simp] theorem State.post_tills (s : State) (k : NoticeKind) (x d : Nat) : (s.post k x d).tills = s.tills := by
  unfold State.post; dsimp only; split <;> (try split) <;> simp
@[simp] theorem State.post_journal (s : State) (k : NoticeKind) (x d : Nat) : (s.post k x d).journal = s.journal := by
  unfold State.post; dsimp only; split <;> (try split) <;> simp
@[simp] theorem State.post_labels (s : State) (k : NoticeKind) (x d : Nat) : (s.post k x d).labels = s.labels := by
  unfold State.post; dsimp only; split <;> (try split) <;> simp
@[simp] theorem State.post_link (s : State) (k : NoticeKind) (x d : Nat) : (s.post k x d).link = s.link := by
  unfold State.post; dsimp only; split <;> (try split) <;> simp
@[simp] theorem State.post_exchange (s : State) (k : NoticeKind) (x d : Nat) : (s.post k x d).exchange = s.exchange := by
  unfold State.post; dsimp only; split <;> (try split) <;> simp
@[simp] theorem State.post_net (s : State) (k : NoticeKind) (x d : Nat) : (s.post k x d).net = s.net := by
  unfold State.post; dsimp only; split <;> (try split) <;> simp
@[simp] theorem State.post_guests (s : State) (k : NoticeKind) (x d : Nat) : (s.post k x d).guests = s.guests := by
  unfold State.post; dsimp only; split <;> (try split) <;> simp
@[simp] theorem State.post_clock (s : State) (k : NoticeKind) (x d : Nat) : (s.post k x d).clock = s.clock := by
  unfold State.post; dsimp only; split <;> (try split) <;> simp
@[simp] theorem State.post_freeIndex (s : State) (k : NoticeKind) (x d : Nat) : (s.post k x d).freeIndex = s.freeIndex := by
  unfold State.post; dsimp only; split <;> (try split) <;> simp
@[simp] theorem State.post_pending (s : State) (k : NoticeKind) (x d : Nat) : (s.post k x d).pending = s.pending := by
  unfold State.post; dsimp only; split <;> (try split) <;> simp

/-- The Request Unit after a post (R199, R200): the read count accepted, then W one higher with NOTICE pending, and LOG_FULL
where the log has become full; or the dropped count one higher. -/
theorem State.post_requests (s : State) (k : NoticeKind) (x d : Nat) :
    (s.post k x d).requests =
      let a := acceptedRead s.requests.written s.requests.accepted (s.storeWord offReadCount)
      let w := s.requests.written
      if w - a < 256 then
        { s.requests with
          accepted := a, written := w + 1
          causes := if w + 1 - a = 256 then s.requests.causes ||| Cause.notice.bit ||| Cause.logFull.bit
            else s.requests.causes ||| Cause.notice.bit }
      else { s.requests with accepted := a, dropped := s.requests.dropped + 1 } := by
  unfold State.post
  dsimp only
  simp only [State.setRequests_requests]
  by_cases h1 : s.requests.written
      - acceptedRead s.requests.written s.requests.accepted (s.storeWord offReadCount) < 256
  · by_cases h2 : s.requests.written + 1
        - acceptedRead s.requests.written s.requests.accepted (s.storeWord offReadCount) = 256
    · simp only [h1, h2, ↓reduceIte, State.raise_requests, State.status_requests, State.setRequests_requests,
        State.writeStore_requests]
    · simp only [h1, h2, ↓reduceIte, State.raise_requests, State.status_requests, State.setRequests_requests,
        State.writeStore_requests]
  · simp only [h1, ↓reduceIte, State.status_requests, State.setRequests_requests]

/-- The common store after a post (R199): the entry and W written, or the dropped count. -/
theorem State.post_store (s : State) (k : NoticeKind) (x d : Nat) :
    (s.post k x d).store =
      let w := s.requests.written
      if w - acceptedRead w s.requests.accepted (s.storeWord offReadCount) < 256 then
        (s.store.writeBytes (offLog + 32 * (w.toNat % 256)) (noticeBytes k x d s.clock.stamp)).setWord offWritten
          (BitVec.ofNat 32 (w + 1).toNat)
      else s.store.setWord offDropped (BitVec.ofNat 32 (s.requests.dropped + 1).toNat) := by
  unfold State.post
  dsimp only
  simp only [State.setRequests_requests]
  by_cases h1 : s.requests.written
      - acceptedRead s.requests.written s.requests.accepted (s.storeWord offReadCount) < 256
  · by_cases h2 : s.requests.written + 1
        - acceptedRead s.requests.written s.requests.accepted (s.storeWord offReadCount) = 256
    · simp only [h1, h2, ↓reduceIte, State.raise_store, State.status_store, State.setRequests_store,
        State.writeStore_store, State.setRequests_clock]
    · simp only [h1, h2, ↓reduceIte, State.raise_store, State.status_store, State.setRequests_store,
        State.writeStore_store, State.setRequests_clock]
  · simp only [h1, ↓reduceIte, State.status_store, State.setRequests_store]

/-- A post writes only the notice log, W and the dropped count (R199). -/
theorem State.post_read (s : State) (k : NoticeKind) (x d : Nat) (a : Nat)
    (h : ¬ (0x28 ≤ a ∧ a < 0x30)) (h' : ¬ (0x1000 ≤ a ∧ a < 0x3000)) : (s.post k x d).store.read a = s.store.read a := by
  have hw : ∀ (m : Memory) (o : Nat) (v : Word), o = 0x28 ∨ o = 0x2C → (m.setWord o v).read a = m.read a := by
    intro m o v ho
    refine Memory.read_writeBytes_outside _ _ ?_
    rw [leBytes_length]
    omega
  have hl : ∀ (m : Memory) (n : Nat) (b : List Byte), b.length ≤ 32 →
      (m.writeBytes (0x1000 + 32 * (n % 256)) b).read a = m.read a :=
    fun m n b hb => Memory.read_writeBytes_outside _ _ (by omega)
  rw [State.post_store]
  dsimp only
  split
  · rw [hw _ offWritten _ (.inl rfl)]
    exact hl _ _ _ (by simp [noticeBytes, zeros])
  · exact hw _ offDropped _ (.inr rfl)

/-- A post keeps the canonical form of the common store. -/
theorem State.post_wf {s : State} (k : NoticeKind) (x d : Nat) (h : s.store.wf) : (s.post k x d).store.wf := by
  rw [State.post_store]
  dsimp only
  split
  · exact Memory.setWord_wf _ _ (Memory.writeBytes_wf _ _ h)
  · exact Memory.setWord_wf _ _ h

/-! ### A drop counted (R162) -/

@[simp] theorem State.countDrop_powered (s : State) (p : Port) (r : DropReason) : (s.countDrop p r).powered = s.powered := rfl
@[simp] theorem State.countDrop_store (s : State) (p : Port) (r : DropReason) : (s.countDrop p r).store = s.store := rfl
@[simp] theorem State.countDrop_backed (s : State) (p : Port) (r : DropReason) : (s.countDrop p r).backed = s.backed := rfl
@[simp] theorem State.countDrop_requests (s : State) (p : Port) (r : DropReason) : (s.countDrop p r).requests = s.requests := rfl
@[simp] theorem State.countDrop_price (s : State) (p : Port) (r : DropReason) : (s.countDrop p r).price = s.price := rfl
@[simp] theorem State.countDrop_tills (s : State) (p : Port) (r : DropReason) : (s.countDrop p r).tills = s.tills := rfl
@[simp] theorem State.countDrop_journal (s : State) (p : Port) (r : DropReason) : (s.countDrop p r).journal = s.journal := rfl
@[simp] theorem State.countDrop_labels (s : State) (p : Port) (r : DropReason) : (s.countDrop p r).labels = s.labels := rfl
@[simp] theorem State.countDrop_link (s : State) (p : Port) (r : DropReason) : (s.countDrop p r).link = s.link := rfl
@[simp] theorem State.countDrop_exchange (s : State) (p : Port) (r : DropReason) : (s.countDrop p r).exchange = s.exchange := rfl
@[simp] theorem State.countDrop_guests (s : State) (p : Port) (r : DropReason) : (s.countDrop p r).guests = s.guests := rfl
@[simp] theorem State.countDrop_clock (s : State) (p : Port) (r : DropReason) : (s.countDrop p r).clock = s.clock := rfl
@[simp] theorem State.countDrop_host (s : State) (p : Port) (r : DropReason) : (s.countDrop p r).host = s.host := rfl
@[simp] theorem State.countDrop_freeIndex (s : State) (p : Port) (r : DropReason) : (s.countDrop p r).freeIndex = s.freeIndex := rfl
@[simp] theorem State.countDrop_pending (s : State) (p : Port) (r : DropReason) : (s.countDrop p r).pending = s.pending := rfl

/-! ### Drops counted (R162) -/

@[simp] theorem State.countDrops_powered (s : State) (p : Port) (r : DropReason) (n : Nat) : (s.countDrops p r n).powered = s.powered := rfl
@[simp] theorem State.countDrops_store (s : State) (p : Port) (r : DropReason) (n : Nat) : (s.countDrops p r n).store = s.store := rfl
@[simp] theorem State.countDrops_backed (s : State) (p : Port) (r : DropReason) (n : Nat) : (s.countDrops p r n).backed = s.backed := rfl
@[simp] theorem State.countDrops_requests (s : State) (p : Port) (r : DropReason) (n : Nat) : (s.countDrops p r n).requests = s.requests := rfl
@[simp] theorem State.countDrops_price (s : State) (p : Port) (r : DropReason) (n : Nat) : (s.countDrops p r n).price = s.price := rfl
@[simp] theorem State.countDrops_tills (s : State) (p : Port) (r : DropReason) (n : Nat) : (s.countDrops p r n).tills = s.tills := rfl
@[simp] theorem State.countDrops_journal (s : State) (p : Port) (r : DropReason) (n : Nat) : (s.countDrops p r n).journal = s.journal := rfl
@[simp] theorem State.countDrops_labels (s : State) (p : Port) (r : DropReason) (n : Nat) : (s.countDrops p r n).labels = s.labels := rfl
@[simp] theorem State.countDrops_link (s : State) (p : Port) (r : DropReason) (n : Nat) : (s.countDrops p r n).link = s.link := rfl
@[simp] theorem State.countDrops_exchange (s : State) (p : Port) (r : DropReason) (n : Nat) : (s.countDrops p r n).exchange = s.exchange := rfl
@[simp] theorem State.countDrops_guests (s : State) (p : Port) (r : DropReason) (n : Nat) : (s.countDrops p r n).guests = s.guests := rfl
@[simp] theorem State.countDrops_clock (s : State) (p : Port) (r : DropReason) (n : Nat) : (s.countDrops p r n).clock = s.clock := rfl
@[simp] theorem State.countDrops_host (s : State) (p : Port) (r : DropReason) (n : Nat) : (s.countDrops p r n).host = s.host := rfl
@[simp] theorem State.countDrops_freeIndex (s : State) (p : Port) (r : DropReason) (n : Nat) : (s.countDrops p r n).freeIndex = s.freeIndex := rfl
@[simp] theorem State.countDrops_pending (s : State) (p : Port) (r : DropReason) (n : Nat) : (s.countDrops p r n).pending = s.pending := rfl

/-! ### Buffers returned (R154, R115) -/

@[simp] theorem State.returnBuffers_powered (s : State) (n : Nat) : (s.returnBuffers n).powered = s.powered := rfl
@[simp] theorem State.returnBuffers_store (s : State) (n : Nat) : (s.returnBuffers n).store = s.store := rfl
@[simp] theorem State.returnBuffers_backed (s : State) (n : Nat) : (s.returnBuffers n).backed = s.backed := rfl
@[simp] theorem State.returnBuffers_requests (s : State) (n : Nat) : (s.returnBuffers n).requests = s.requests := rfl
@[simp] theorem State.returnBuffers_price (s : State) (n : Nat) : (s.returnBuffers n).price = s.price := rfl
@[simp] theorem State.returnBuffers_tills (s : State) (n : Nat) : (s.returnBuffers n).tills = s.tills := rfl
@[simp] theorem State.returnBuffers_journal (s : State) (n : Nat) : (s.returnBuffers n).journal = s.journal := rfl
@[simp] theorem State.returnBuffers_labels (s : State) (n : Nat) : (s.returnBuffers n).labels = s.labels := rfl
@[simp] theorem State.returnBuffers_exchange (s : State) (n : Nat) : (s.returnBuffers n).exchange = s.exchange := rfl
@[simp] theorem State.returnBuffers_guests (s : State) (n : Nat) : (s.returnBuffers n).guests = s.guests := rfl
@[simp] theorem State.returnBuffers_clock (s : State) (n : Nat) : (s.returnBuffers n).clock = s.clock := rfl
@[simp] theorem State.returnBuffers_host (s : State) (n : Nat) : (s.returnBuffers n).host = s.host := rfl
@[simp] theorem State.returnBuffers_freeIndex (s : State) (n : Nat) : (s.returnBuffers n).freeIndex = s.freeIndex := rfl
@[simp] theorem State.returnBuffers_pending (s : State) (n : Nat) : (s.returnBuffers n).pending = s.pending := rfl

/-- Buffers returned raise the free count and owe an arbiter call each (R154, R115). -/
theorem State.returnBuffers_net (s : State) (n : Nat) :
    (s.returnBuffers n).net = { s.net with freeBuffers := s.net.freeBuffers + n } := rfl

/-- Each buffer returned owes one arbiter call (R115). -/
theorem State.returnBuffers_link (s : State) (n : Nat) :
    (s.returnBuffers n).link = { s.link with due := s.link.due ++ List.replicate n .bufferReturned } := rfl

/-! ### A pause or resume frame given to a port (R157) -/

@[simp] theorem State.sendControl_powered (s : State) (p : Port) (k : PauseFrame) : (s.sendControl p k).powered = s.powered := by
  unfold State.sendControl; split <;> rfl
@[simp] theorem State.sendControl_store (s : State) (p : Port) (k : PauseFrame) : (s.sendControl p k).store = s.store := by
  unfold State.sendControl; split <;> rfl
@[simp] theorem State.sendControl_backed (s : State) (p : Port) (k : PauseFrame) : (s.sendControl p k).backed = s.backed := by
  unfold State.sendControl; split <;> rfl
@[simp] theorem State.sendControl_requests (s : State) (p : Port) (k : PauseFrame) : (s.sendControl p k).requests = s.requests := by
  unfold State.sendControl; split <;> rfl
@[simp] theorem State.sendControl_price (s : State) (p : Port) (k : PauseFrame) : (s.sendControl p k).price = s.price := by
  unfold State.sendControl; split <;> rfl
@[simp] theorem State.sendControl_tills (s : State) (p : Port) (k : PauseFrame) : (s.sendControl p k).tills = s.tills := by
  unfold State.sendControl; split <;> rfl
@[simp] theorem State.sendControl_journal (s : State) (p : Port) (k : PauseFrame) : (s.sendControl p k).journal = s.journal := by
  unfold State.sendControl; split <;> rfl
@[simp] theorem State.sendControl_labels (s : State) (p : Port) (k : PauseFrame) : (s.sendControl p k).labels = s.labels := by
  unfold State.sendControl; split <;> rfl
@[simp] theorem State.sendControl_link (s : State) (p : Port) (k : PauseFrame) : (s.sendControl p k).link = s.link := by
  unfold State.sendControl; split <;> rfl
@[simp] theorem State.sendControl_exchange (s : State) (p : Port) (k : PauseFrame) : (s.sendControl p k).exchange = s.exchange := by
  unfold State.sendControl; split <;> rfl
@[simp] theorem State.sendControl_guests (s : State) (p : Port) (k : PauseFrame) : (s.sendControl p k).guests = s.guests := by
  unfold State.sendControl; split <;> rfl
@[simp] theorem State.sendControl_clock (s : State) (p : Port) (k : PauseFrame) : (s.sendControl p k).clock = s.clock := by
  unfold State.sendControl; split <;> rfl
@[simp] theorem State.sendControl_host (s : State) (p : Port) (k : PauseFrame) : (s.sendControl p k).host = s.host := by
  unfold State.sendControl; split <;> rfl
@[simp] theorem State.sendControl_freeIndex (s : State) (p : Port) (k : PauseFrame) : (s.sendControl p k).freeIndex = s.freeIndex := by
  unfold State.sendControl; split <;> rfl
@[simp] theorem State.sendControl_pending (s : State) (p : Port) (k : PauseFrame) : (s.sendControl p k).pending = s.pending := by
  unfold State.sendControl; split <;> rfl

/-! ### A pause or resume frame given to every GUEST port (R157) -/

/-- Only the Forwarding Unit changes. -/
theorem State.sendControlGuest_frame (s : State) (k : PauseFrame) : (s.sendControlGuest k).setNet s.net = s := by
  have h : ∀ (ps : List Port) (t : State), t.setNet s.net = s →
      (ps.foldl (fun s p => if s.hasRole p .guest then s.sendControl p k else s) t).setNet s.net = s := by
    intro ps
    induction ps with
    | nil => intro t ht; exact ht
    | cons p ps ih =>
      intro t ht
      refine ih _ ?_
      dsimp only
      split
      · unfold State.sendControl; split
        · exact ht
        · exact ht
      · exact ht
  exact h _ _ rfl

@[simp] theorem State.sendControlGuest_powered (s : State) (k : PauseFrame) : (s.sendControlGuest k).powered = s.powered :=
  (congrArg State.powered (s.sendControlGuest_frame k) :)
@[simp] theorem State.sendControlGuest_store (s : State) (k : PauseFrame) : (s.sendControlGuest k).store = s.store :=
  (congrArg State.store (s.sendControlGuest_frame k) :)
@[simp] theorem State.sendControlGuest_backed (s : State) (k : PauseFrame) : (s.sendControlGuest k).backed = s.backed :=
  (congrArg State.backed (s.sendControlGuest_frame k) :)
@[simp] theorem State.sendControlGuest_requests (s : State) (k : PauseFrame) : (s.sendControlGuest k).requests = s.requests :=
  (congrArg State.requests (s.sendControlGuest_frame k) :)
@[simp] theorem State.sendControlGuest_price (s : State) (k : PauseFrame) : (s.sendControlGuest k).price = s.price :=
  (congrArg State.price (s.sendControlGuest_frame k) :)
@[simp] theorem State.sendControlGuest_tills (s : State) (k : PauseFrame) : (s.sendControlGuest k).tills = s.tills :=
  (congrArg State.tills (s.sendControlGuest_frame k) :)
@[simp] theorem State.sendControlGuest_journal (s : State) (k : PauseFrame) : (s.sendControlGuest k).journal = s.journal :=
  (congrArg State.journal (s.sendControlGuest_frame k) :)
@[simp] theorem State.sendControlGuest_labels (s : State) (k : PauseFrame) : (s.sendControlGuest k).labels = s.labels :=
  (congrArg State.labels (s.sendControlGuest_frame k) :)
@[simp] theorem State.sendControlGuest_link (s : State) (k : PauseFrame) : (s.sendControlGuest k).link = s.link :=
  (congrArg State.link (s.sendControlGuest_frame k) :)
@[simp] theorem State.sendControlGuest_exchange (s : State) (k : PauseFrame) : (s.sendControlGuest k).exchange = s.exchange :=
  (congrArg State.exchange (s.sendControlGuest_frame k) :)
@[simp] theorem State.sendControlGuest_guests (s : State) (k : PauseFrame) : (s.sendControlGuest k).guests = s.guests :=
  (congrArg State.guests (s.sendControlGuest_frame k) :)
@[simp] theorem State.sendControlGuest_clock (s : State) (k : PauseFrame) : (s.sendControlGuest k).clock = s.clock :=
  (congrArg State.clock (s.sendControlGuest_frame k) :)
@[simp] theorem State.sendControlGuest_host (s : State) (k : PauseFrame) : (s.sendControlGuest k).host = s.host :=
  (congrArg State.host (s.sendControlGuest_frame k) :)
@[simp] theorem State.sendControlGuest_freeIndex (s : State) (k : PauseFrame) : (s.sendControlGuest k).freeIndex = s.freeIndex :=
  (congrArg State.freeIndex (s.sendControlGuest_frame k) :)
@[simp] theorem State.sendControlGuest_pending (s : State) (k : PauseFrame) : (s.sendControlGuest k).pending = s.pending :=
  (congrArg State.pending (s.sendControlGuest_frame k) :)

/-! ### The test when a frame joins the GUEST queue (R157) -/

@[simp] theorem State.pauseTest_powered (s : State) : (s.pauseTest).powered = s.powered := by
  unfold State.pauseTest; split <;> simp
@[simp] theorem State.pauseTest_store (s : State) : (s.pauseTest).store = s.store := by
  unfold State.pauseTest; split <;> simp
@[simp] theorem State.pauseTest_backed (s : State) : (s.pauseTest).backed = s.backed := by
  unfold State.pauseTest; split <;> simp
@[simp] theorem State.pauseTest_requests (s : State) : (s.pauseTest).requests = s.requests := by
  unfold State.pauseTest; split <;> simp
@[simp] theorem State.pauseTest_price (s : State) : (s.pauseTest).price = s.price := by
  unfold State.pauseTest; split <;> simp
@[simp] theorem State.pauseTest_tills (s : State) : (s.pauseTest).tills = s.tills := by
  unfold State.pauseTest; split <;> simp
@[simp] theorem State.pauseTest_journal (s : State) : (s.pauseTest).journal = s.journal := by
  unfold State.pauseTest; split <;> simp
@[simp] theorem State.pauseTest_labels (s : State) : (s.pauseTest).labels = s.labels := by
  unfold State.pauseTest; split <;> simp
@[simp] theorem State.pauseTest_link (s : State) : (s.pauseTest).link = s.link := by
  unfold State.pauseTest; split <;> simp
@[simp] theorem State.pauseTest_exchange (s : State) : (s.pauseTest).exchange = s.exchange := by
  unfold State.pauseTest; split <;> simp
@[simp] theorem State.pauseTest_guests (s : State) : (s.pauseTest).guests = s.guests := by
  unfold State.pauseTest; split <;> simp
@[simp] theorem State.pauseTest_clock (s : State) : (s.pauseTest).clock = s.clock := by
  unfold State.pauseTest; split <;> simp
@[simp] theorem State.pauseTest_host (s : State) : (s.pauseTest).host = s.host := by
  unfold State.pauseTest; split <;> simp
@[simp] theorem State.pauseTest_freeIndex (s : State) : (s.pauseTest).freeIndex = s.freeIndex := by
  unfold State.pauseTest; split <;> simp
@[simp] theorem State.pauseTest_pending (s : State) : (s.pauseTest).pending = s.pending := by
  unfold State.pauseTest; split <;> simp

/-! ### The test when a frame leaves the GUEST queue (R157) -/

@[simp] theorem State.resumeTest_powered (s : State) : (s.resumeTest).powered = s.powered := by
  unfold State.resumeTest; split <;> simp
@[simp] theorem State.resumeTest_store (s : State) : (s.resumeTest).store = s.store := by
  unfold State.resumeTest; split <;> simp
@[simp] theorem State.resumeTest_backed (s : State) : (s.resumeTest).backed = s.backed := by
  unfold State.resumeTest; split <;> simp
@[simp] theorem State.resumeTest_requests (s : State) : (s.resumeTest).requests = s.requests := by
  unfold State.resumeTest; split <;> simp
@[simp] theorem State.resumeTest_price (s : State) : (s.resumeTest).price = s.price := by
  unfold State.resumeTest; split <;> simp
@[simp] theorem State.resumeTest_tills (s : State) : (s.resumeTest).tills = s.tills := by
  unfold State.resumeTest; split <;> simp
@[simp] theorem State.resumeTest_journal (s : State) : (s.resumeTest).journal = s.journal := by
  unfold State.resumeTest; split <;> simp
@[simp] theorem State.resumeTest_labels (s : State) : (s.resumeTest).labels = s.labels := by
  unfold State.resumeTest; split <;> simp
@[simp] theorem State.resumeTest_link (s : State) : (s.resumeTest).link = s.link := by
  unfold State.resumeTest; split <;> simp
@[simp] theorem State.resumeTest_exchange (s : State) : (s.resumeTest).exchange = s.exchange := by
  unfold State.resumeTest; split <;> simp
@[simp] theorem State.resumeTest_guests (s : State) : (s.resumeTest).guests = s.guests := by
  unfold State.resumeTest; split <;> simp
@[simp] theorem State.resumeTest_clock (s : State) : (s.resumeTest).clock = s.clock := by
  unfold State.resumeTest; split <;> simp
@[simp] theorem State.resumeTest_host (s : State) : (s.resumeTest).host = s.host := by
  unfold State.resumeTest; split <;> simp
@[simp] theorem State.resumeTest_freeIndex (s : State) : (s.resumeTest).freeIndex = s.freeIndex := by
  unfold State.resumeTest; split <;> simp
@[simp] theorem State.resumeTest_pending (s : State) : (s.resumeTest).pending = s.pending := by
  unfold State.resumeTest; split <;> simp

/-! ### A frame joining a queue (R154, R155) -/

@[simp] theorem State.join_powered (s : State) (t : Target) (f : Frame) : (s.join t f).powered = s.powered := by
  unfold State.join; dsimp only; split
  · rfl
  · split <;> simp
@[simp] theorem State.join_store (s : State) (t : Target) (f : Frame) : (s.join t f).store = s.store := by
  unfold State.join; dsimp only; split
  · rfl
  · split <;> simp
@[simp] theorem State.join_backed (s : State) (t : Target) (f : Frame) : (s.join t f).backed = s.backed := by
  unfold State.join; dsimp only; split
  · rfl
  · split <;> simp
@[simp] theorem State.join_requests (s : State) (t : Target) (f : Frame) : (s.join t f).requests = s.requests := by
  unfold State.join; dsimp only; split
  · rfl
  · split <;> simp
@[simp] theorem State.join_price (s : State) (t : Target) (f : Frame) : (s.join t f).price = s.price := by
  unfold State.join; dsimp only; split
  · rfl
  · split <;> simp
@[simp] theorem State.join_tills (s : State) (t : Target) (f : Frame) : (s.join t f).tills = s.tills := by
  unfold State.join; dsimp only; split
  · rfl
  · split <;> simp
@[simp] theorem State.join_journal (s : State) (t : Target) (f : Frame) : (s.join t f).journal = s.journal := by
  unfold State.join; dsimp only; split
  · rfl
  · split <;> simp
@[simp] theorem State.join_labels (s : State) (t : Target) (f : Frame) : (s.join t f).labels = s.labels := by
  unfold State.join; dsimp only; split
  · rfl
  · split <;> simp
@[simp] theorem State.join_link (s : State) (t : Target) (f : Frame) : (s.join t f).link = s.link := by
  unfold State.join; dsimp only; split
  · rfl
  · split <;> simp
@[simp] theorem State.join_exchange (s : State) (t : Target) (f : Frame) : (s.join t f).exchange = s.exchange := by
  unfold State.join; dsimp only; split
  · rfl
  · split <;> simp
@[simp] theorem State.join_guests (s : State) (t : Target) (f : Frame) : (s.join t f).guests = s.guests := by
  unfold State.join; dsimp only; split
  · rfl
  · split <;> simp
@[simp] theorem State.join_clock (s : State) (t : Target) (f : Frame) : (s.join t f).clock = s.clock := by
  unfold State.join; dsimp only; split
  · rfl
  · split <;> simp
@[simp] theorem State.join_host (s : State) (t : Target) (f : Frame) : (s.join t f).host = s.host := by
  unfold State.join; dsimp only; split
  · rfl
  · split <;> simp
@[simp] theorem State.join_freeIndex (s : State) (t : Target) (f : Frame) : (s.join t f).freeIndex = s.freeIndex := by
  unfold State.join; dsimp only; split
  · rfl
  · split <;> simp
@[simp] theorem State.join_pending (s : State) (t : Target) (f : Frame) : (s.join t f).pending = s.pending := by
  unfold State.join; dsimp only; split
  · rfl
  · split <;> simp

/-! ### A frame offered to a queue (R155) -/

@[simp] theorem State.offer_powered (s : State) (t : Target) (f : Frame) (p : Port) : (s.offer t f p).powered = s.powered := by
  unfold State.offer; split <;> simp
@[simp] theorem State.offer_store (s : State) (t : Target) (f : Frame) (p : Port) : (s.offer t f p).store = s.store := by
  unfold State.offer; split <;> simp
@[simp] theorem State.offer_backed (s : State) (t : Target) (f : Frame) (p : Port) : (s.offer t f p).backed = s.backed := by
  unfold State.offer; split <;> simp
@[simp] theorem State.offer_requests (s : State) (t : Target) (f : Frame) (p : Port) : (s.offer t f p).requests = s.requests := by
  unfold State.offer; split <;> simp
@[simp] theorem State.offer_price (s : State) (t : Target) (f : Frame) (p : Port) : (s.offer t f p).price = s.price := by
  unfold State.offer; split <;> simp
@[simp] theorem State.offer_tills (s : State) (t : Target) (f : Frame) (p : Port) : (s.offer t f p).tills = s.tills := by
  unfold State.offer; split <;> simp
@[simp] theorem State.offer_journal (s : State) (t : Target) (f : Frame) (p : Port) : (s.offer t f p).journal = s.journal := by
  unfold State.offer; split <;> simp
@[simp] theorem State.offer_labels (s : State) (t : Target) (f : Frame) (p : Port) : (s.offer t f p).labels = s.labels := by
  unfold State.offer; split <;> simp
@[simp] theorem State.offer_link (s : State) (t : Target) (f : Frame) (p : Port) : (s.offer t f p).link = s.link := by
  unfold State.offer; split <;> simp
@[simp] theorem State.offer_exchange (s : State) (t : Target) (f : Frame) (p : Port) : (s.offer t f p).exchange = s.exchange := by
  unfold State.offer; split <;> simp
@[simp] theorem State.offer_guests (s : State) (t : Target) (f : Frame) (p : Port) : (s.offer t f p).guests = s.guests := by
  unfold State.offer; split <;> simp
@[simp] theorem State.offer_clock (s : State) (t : Target) (f : Frame) (p : Port) : (s.offer t f p).clock = s.clock := by
  unfold State.offer; split <;> simp
@[simp] theorem State.offer_host (s : State) (t : Target) (f : Frame) (p : Port) : (s.offer t f p).host = s.host := by
  unfold State.offer; split <;> simp
@[simp] theorem State.offer_freeIndex (s : State) (t : Target) (f : Frame) (p : Port) : (s.offer t f p).freeIndex = s.freeIndex := by
  unfold State.offer; split <;> simp
@[simp] theorem State.offer_pending (s : State) (t : Target) (f : Frame) (p : Port) : (s.offer t f p).pending = s.pending := by
  unfold State.offer; split <;> simp

/-! ### A frame of the part offered to a port (R155) -/

@[simp] theorem State.offerOwn_powered (s : State) (p : Port) (f : Frame) : (s.offerOwn p f).powered = s.powered := State.offer_powered s _ f p
@[simp] theorem State.offerOwn_store (s : State) (p : Port) (f : Frame) : (s.offerOwn p f).store = s.store := State.offer_store s _ f p
@[simp] theorem State.offerOwn_backed (s : State) (p : Port) (f : Frame) : (s.offerOwn p f).backed = s.backed := State.offer_backed s _ f p
@[simp] theorem State.offerOwn_requests (s : State) (p : Port) (f : Frame) : (s.offerOwn p f).requests = s.requests := State.offer_requests s _ f p
@[simp] theorem State.offerOwn_price (s : State) (p : Port) (f : Frame) : (s.offerOwn p f).price = s.price := State.offer_price s _ f p
@[simp] theorem State.offerOwn_tills (s : State) (p : Port) (f : Frame) : (s.offerOwn p f).tills = s.tills := State.offer_tills s _ f p
@[simp] theorem State.offerOwn_journal (s : State) (p : Port) (f : Frame) : (s.offerOwn p f).journal = s.journal := State.offer_journal s _ f p
@[simp] theorem State.offerOwn_labels (s : State) (p : Port) (f : Frame) : (s.offerOwn p f).labels = s.labels := State.offer_labels s _ f p
@[simp] theorem State.offerOwn_link (s : State) (p : Port) (f : Frame) : (s.offerOwn p f).link = s.link := State.offer_link s _ f p
@[simp] theorem State.offerOwn_exchange (s : State) (p : Port) (f : Frame) : (s.offerOwn p f).exchange = s.exchange := State.offer_exchange s _ f p
@[simp] theorem State.offerOwn_guests (s : State) (p : Port) (f : Frame) : (s.offerOwn p f).guests = s.guests := State.offer_guests s _ f p
@[simp] theorem State.offerOwn_clock (s : State) (p : Port) (f : Frame) : (s.offerOwn p f).clock = s.clock := State.offer_clock s _ f p
@[simp] theorem State.offerOwn_host (s : State) (p : Port) (f : Frame) : (s.offerOwn p f).host = s.host := State.offer_host s _ f p
@[simp] theorem State.offerOwn_freeIndex (s : State) (p : Port) (f : Frame) : (s.offerOwn p f).freeIndex = s.freeIndex := State.offer_freeIndex s _ f p
@[simp] theorem State.offerOwn_pending (s : State) (p : Port) (f : Frame) : (s.offerOwn p f).pending = s.pending := State.offer_pending s _ f p

/-- A frame joined to a LAN egress queue: one buffer taken, the frame last in the queue (R154, R155). -/
theorem State.join_lan (s : State) (p : Port) (f : Frame) :
    (s.join (.lan p) f).net = { s.net with
      freeBuffers := s.net.freeBuffers - 1
      ports := s.net.ports.set p { s.port p with lan := (s.port p).lan ++ [f] } } := rfl

/-- A frame joined to a class queue other than GUEST: one buffer taken, the frame last in the queue (R154, R155). -/
theorem State.join_class (s : State) (c : UplinkClass) (f : Frame) (h : c ≠ .guest) :
    (s.join (.cls c) f).net = { s.net with
      freeBuffers := s.net.freeBuffers - 1, classes := s.net.classes.set c (s.net.classes.get c ++ [f]) } := by
  unfold State.join; dsimp only; rw [if_neg h]; rfl

/-! ### The fields of a chain (R192) -/

@[simp] theorem State.storeChain_powered (s : State) (c : Chain) (x : ChainState) : (s.storeChain c x).powered = s.powered := rfl
@[simp] theorem State.storeChain_store (s : State) (c : Chain) (x : ChainState) : (s.storeChain c x).store = s.store := rfl
@[simp] theorem State.storeChain_backed (s : State) (c : Chain) (x : ChainState) : (s.storeChain c x).backed = s.backed := rfl
@[simp] theorem State.storeChain_price (s : State) (c : Chain) (x : ChainState) : (s.storeChain c x).price = s.price := rfl
@[simp] theorem State.storeChain_tills (s : State) (c : Chain) (x : ChainState) : (s.storeChain c x).tills = s.tills := rfl
@[simp] theorem State.storeChain_journal (s : State) (c : Chain) (x : ChainState) : (s.storeChain c x).journal = s.journal := rfl
@[simp] theorem State.storeChain_labels (s : State) (c : Chain) (x : ChainState) : (s.storeChain c x).labels = s.labels := rfl
@[simp] theorem State.storeChain_link (s : State) (c : Chain) (x : ChainState) : (s.storeChain c x).link = s.link := rfl
@[simp] theorem State.storeChain_exchange (s : State) (c : Chain) (x : ChainState) : (s.storeChain c x).exchange = s.exchange := rfl
@[simp] theorem State.storeChain_net (s : State) (c : Chain) (x : ChainState) : (s.storeChain c x).net = s.net := rfl
@[simp] theorem State.storeChain_guests (s : State) (c : Chain) (x : ChainState) : (s.storeChain c x).guests = s.guests := rfl
@[simp] theorem State.storeChain_clock (s : State) (c : Chain) (x : ChainState) : (s.storeChain c x).clock = s.clock := rfl
@[simp] theorem State.storeChain_host (s : State) (c : Chain) (x : ChainState) : (s.storeChain c x).host = s.host := rfl
@[simp] theorem State.storeChain_freeIndex (s : State) (c : Chain) (x : ChainState) : (s.storeChain c x).freeIndex = s.freeIndex := rfl
@[simp] theorem State.storeChain_pending (s : State) (c : Chain) (x : ChainState) : (s.storeChain c x).pending = s.pending := rfl

/-! ### A word written when its field has changed (R192) -/

@[simp] theorem State.writeChanged_powered (s : State) (o : Nat) (v w : Word) : (s.writeChanged o v w).powered = s.powered := by
  unfold State.writeChanged; split <;> rfl
@[simp] theorem State.writeChanged_backed (s : State) (o : Nat) (v w : Word) : (s.writeChanged o v w).backed = s.backed := by
  unfold State.writeChanged; split <;> rfl
@[simp] theorem State.writeChanged_requests (s : State) (o : Nat) (v w : Word) : (s.writeChanged o v w).requests = s.requests := by
  unfold State.writeChanged; split <;> rfl
@[simp] theorem State.writeChanged_price (s : State) (o : Nat) (v w : Word) : (s.writeChanged o v w).price = s.price := by
  unfold State.writeChanged; split <;> rfl
@[simp] theorem State.writeChanged_tills (s : State) (o : Nat) (v w : Word) : (s.writeChanged o v w).tills = s.tills := by
  unfold State.writeChanged; split <;> rfl
@[simp] theorem State.writeChanged_journal (s : State) (o : Nat) (v w : Word) : (s.writeChanged o v w).journal = s.journal := by
  unfold State.writeChanged; split <;> rfl
@[simp] theorem State.writeChanged_labels (s : State) (o : Nat) (v w : Word) : (s.writeChanged o v w).labels = s.labels := by
  unfold State.writeChanged; split <;> rfl
@[simp] theorem State.writeChanged_link (s : State) (o : Nat) (v w : Word) : (s.writeChanged o v w).link = s.link := by
  unfold State.writeChanged; split <;> rfl
@[simp] theorem State.writeChanged_exchange (s : State) (o : Nat) (v w : Word) : (s.writeChanged o v w).exchange = s.exchange := by
  unfold State.writeChanged; split <;> rfl
@[simp] theorem State.writeChanged_net (s : State) (o : Nat) (v w : Word) : (s.writeChanged o v w).net = s.net := by
  unfold State.writeChanged; split <;> rfl
@[simp] theorem State.writeChanged_guests (s : State) (o : Nat) (v w : Word) : (s.writeChanged o v w).guests = s.guests := by
  unfold State.writeChanged; split <;> rfl
@[simp] theorem State.writeChanged_clock (s : State) (o : Nat) (v w : Word) : (s.writeChanged o v w).clock = s.clock := by
  unfold State.writeChanged; split <;> rfl
@[simp] theorem State.writeChanged_host (s : State) (o : Nat) (v w : Word) : (s.writeChanged o v w).host = s.host := by
  unfold State.writeChanged; split <;> rfl
@[simp] theorem State.writeChanged_freeIndex (s : State) (o : Nat) (v w : Word) : (s.writeChanged o v w).freeIndex = s.freeIndex := by
  unfold State.writeChanged; split <;> rfl
@[simp] theorem State.writeChanged_pending (s : State) (o : Nat) (v w : Word) : (s.writeChanged o v w).pending = s.pending := by
  unfold State.writeChanged; split <;> rfl

/-! ### The current word of an entry written (R192) -/

@[simp] theorem State.writeCurrent_powered (s : State) (c : Chain) : (s.writeCurrent c).powered = s.powered := rfl
@[simp] theorem State.writeCurrent_backed (s : State) (c : Chain) : (s.writeCurrent c).backed = s.backed := rfl
@[simp] theorem State.writeCurrent_requests (s : State) (c : Chain) : (s.writeCurrent c).requests = s.requests := rfl
@[simp] theorem State.writeCurrent_price (s : State) (c : Chain) : (s.writeCurrent c).price = s.price := rfl
@[simp] theorem State.writeCurrent_tills (s : State) (c : Chain) : (s.writeCurrent c).tills = s.tills := rfl
@[simp] theorem State.writeCurrent_journal (s : State) (c : Chain) : (s.writeCurrent c).journal = s.journal := rfl
@[simp] theorem State.writeCurrent_labels (s : State) (c : Chain) : (s.writeCurrent c).labels = s.labels := rfl
@[simp] theorem State.writeCurrent_link (s : State) (c : Chain) : (s.writeCurrent c).link = s.link := rfl
@[simp] theorem State.writeCurrent_exchange (s : State) (c : Chain) : (s.writeCurrent c).exchange = s.exchange := rfl
@[simp] theorem State.writeCurrent_net (s : State) (c : Chain) : (s.writeCurrent c).net = s.net := rfl
@[simp] theorem State.writeCurrent_guests (s : State) (c : Chain) : (s.writeCurrent c).guests = s.guests := rfl
@[simp] theorem State.writeCurrent_clock (s : State) (c : Chain) : (s.writeCurrent c).clock = s.clock := rfl
@[simp] theorem State.writeCurrent_host (s : State) (c : Chain) : (s.writeCurrent c).host = s.host := rfl
@[simp] theorem State.writeCurrent_freeIndex (s : State) (c : Chain) : (s.writeCurrent c).freeIndex = s.freeIndex := rfl
@[simp] theorem State.writeCurrent_pending (s : State) (c : Chain) : (s.writeCurrent c).pending = s.pending := rfl

/-! ### The fault word of an entry written (R192) -/

@[simp] theorem State.writeFault_powered (s : State) (c : Chain) : (s.writeFault c).powered = s.powered := rfl
@[simp] theorem State.writeFault_backed (s : State) (c : Chain) : (s.writeFault c).backed = s.backed := rfl
@[simp] theorem State.writeFault_requests (s : State) (c : Chain) : (s.writeFault c).requests = s.requests := rfl
@[simp] theorem State.writeFault_price (s : State) (c : Chain) : (s.writeFault c).price = s.price := rfl
@[simp] theorem State.writeFault_tills (s : State) (c : Chain) : (s.writeFault c).tills = s.tills := rfl
@[simp] theorem State.writeFault_journal (s : State) (c : Chain) : (s.writeFault c).journal = s.journal := rfl
@[simp] theorem State.writeFault_labels (s : State) (c : Chain) : (s.writeFault c).labels = s.labels := rfl
@[simp] theorem State.writeFault_link (s : State) (c : Chain) : (s.writeFault c).link = s.link := rfl
@[simp] theorem State.writeFault_exchange (s : State) (c : Chain) : (s.writeFault c).exchange = s.exchange := rfl
@[simp] theorem State.writeFault_net (s : State) (c : Chain) : (s.writeFault c).net = s.net := rfl
@[simp] theorem State.writeFault_guests (s : State) (c : Chain) : (s.writeFault c).guests = s.guests := rfl
@[simp] theorem State.writeFault_clock (s : State) (c : Chain) : (s.writeFault c).clock = s.clock := rfl
@[simp] theorem State.writeFault_host (s : State) (c : Chain) : (s.writeFault c).host = s.host := rfl
@[simp] theorem State.writeFault_freeIndex (s : State) (c : Chain) : (s.writeFault c).freeIndex = s.freeIndex := rfl
@[simp] theorem State.writeFault_pending (s : State) (c : Chain) : (s.writeFault c).pending = s.pending := rfl

/-! ### The directory entry of a chain (R192) -/

@[simp] theorem State.writeEntry_powered (s : State) (c : Chain) (x y : ChainState) : (s.writeEntry c x y).powered = s.powered := by
  simp [State.writeEntry]
@[simp] theorem State.writeEntry_backed (s : State) (c : Chain) (x y : ChainState) : (s.writeEntry c x y).backed = s.backed := by
  simp [State.writeEntry]
@[simp] theorem State.writeEntry_requests (s : State) (c : Chain) (x y : ChainState) : (s.writeEntry c x y).requests = s.requests := by
  simp [State.writeEntry]
@[simp] theorem State.writeEntry_price (s : State) (c : Chain) (x y : ChainState) : (s.writeEntry c x y).price = s.price := by
  simp [State.writeEntry]
@[simp] theorem State.writeEntry_tills (s : State) (c : Chain) (x y : ChainState) : (s.writeEntry c x y).tills = s.tills := by
  simp [State.writeEntry]
@[simp] theorem State.writeEntry_journal (s : State) (c : Chain) (x y : ChainState) : (s.writeEntry c x y).journal = s.journal := by
  simp [State.writeEntry]
@[simp] theorem State.writeEntry_labels (s : State) (c : Chain) (x y : ChainState) : (s.writeEntry c x y).labels = s.labels := by
  simp [State.writeEntry]
@[simp] theorem State.writeEntry_link (s : State) (c : Chain) (x y : ChainState) : (s.writeEntry c x y).link = s.link := by
  simp [State.writeEntry]
@[simp] theorem State.writeEntry_exchange (s : State) (c : Chain) (x y : ChainState) : (s.writeEntry c x y).exchange = s.exchange := by
  simp [State.writeEntry]
@[simp] theorem State.writeEntry_net (s : State) (c : Chain) (x y : ChainState) : (s.writeEntry c x y).net = s.net := by
  simp [State.writeEntry]
@[simp] theorem State.writeEntry_guests (s : State) (c : Chain) (x y : ChainState) : (s.writeEntry c x y).guests = s.guests := by
  simp [State.writeEntry]
@[simp] theorem State.writeEntry_clock (s : State) (c : Chain) (x y : ChainState) : (s.writeEntry c x y).clock = s.clock := by
  simp [State.writeEntry]
@[simp] theorem State.writeEntry_host (s : State) (c : Chain) (x y : ChainState) : (s.writeEntry c x y).host = s.host := by
  simp [State.writeEntry]
@[simp] theorem State.writeEntry_freeIndex (s : State) (c : Chain) (x y : ChainState) : (s.writeEntry c x y).freeIndex = s.freeIndex := by
  simp [State.writeEntry]
@[simp] theorem State.writeEntry_pending (s : State) (c : Chain) (x y : ChainState) : (s.writeEntry c x y).pending = s.pending := by
  simp [State.writeEntry]

/-! ### The host delivery queue dropped (R156) -/

@[simp] theorem State.dropDelivery_powered (s : State) : (s.dropDelivery).powered = s.powered := rfl
@[simp] theorem State.dropDelivery_backed (s : State) : (s.dropDelivery).backed = s.backed := rfl
@[simp] theorem State.dropDelivery_price (s : State) : (s.dropDelivery).price = s.price := rfl
@[simp] theorem State.dropDelivery_tills (s : State) : (s.dropDelivery).tills = s.tills := rfl
@[simp] theorem State.dropDelivery_journal (s : State) : (s.dropDelivery).journal = s.journal := rfl
@[simp] theorem State.dropDelivery_labels (s : State) : (s.dropDelivery).labels = s.labels := rfl
@[simp] theorem State.dropDelivery_exchange (s : State) : (s.dropDelivery).exchange = s.exchange := rfl
@[simp] theorem State.dropDelivery_guests (s : State) : (s.dropDelivery).guests = s.guests := rfl
@[simp] theorem State.dropDelivery_clock (s : State) : (s.dropDelivery).clock = s.clock := rfl
@[simp] theorem State.dropDelivery_host (s : State) : (s.dropDelivery).host = s.host := rfl
@[simp] theorem State.dropDelivery_freeIndex (s : State) : (s.dropDelivery).freeIndex = s.freeIndex := rfl
@[simp] theorem State.dropDelivery_pending (s : State) : (s.dropDelivery).pending = s.pending := rfl

/-! ### A chain replaced (R192, R156) -/

@[simp] theorem State.setChain_powered (s : State) (c : Chain) (x : ChainState) : (s.setChain c x).powered = s.powered := by
  unfold State.setChain; dsimp only; split <;> simp
@[simp] theorem State.setChain_backed (s : State) (c : Chain) (x : ChainState) : (s.setChain c x).backed = s.backed := by
  unfold State.setChain; dsimp only; split <;> simp
@[simp] theorem State.setChain_price (s : State) (c : Chain) (x : ChainState) : (s.setChain c x).price = s.price := by
  unfold State.setChain; dsimp only; split <;> simp
@[simp] theorem State.setChain_tills (s : State) (c : Chain) (x : ChainState) : (s.setChain c x).tills = s.tills := by
  unfold State.setChain; dsimp only; split <;> simp
@[simp] theorem State.setChain_journal (s : State) (c : Chain) (x : ChainState) : (s.setChain c x).journal = s.journal := by
  unfold State.setChain; dsimp only; split <;> simp
@[simp] theorem State.setChain_labels (s : State) (c : Chain) (x : ChainState) : (s.setChain c x).labels = s.labels := by
  unfold State.setChain; dsimp only; split <;> simp
@[simp] theorem State.setChain_exchange (s : State) (c : Chain) (x : ChainState) : (s.setChain c x).exchange = s.exchange := by
  unfold State.setChain; dsimp only; split <;> simp
@[simp] theorem State.setChain_guests (s : State) (c : Chain) (x : ChainState) : (s.setChain c x).guests = s.guests := by
  unfold State.setChain; dsimp only; split <;> simp
@[simp] theorem State.setChain_clock (s : State) (c : Chain) (x : ChainState) : (s.setChain c x).clock = s.clock := by
  unfold State.setChain; dsimp only; split <;> simp
@[simp] theorem State.setChain_host (s : State) (c : Chain) (x : ChainState) : (s.setChain c x).host = s.host := by
  unfold State.setChain; dsimp only; split <;> simp
@[simp] theorem State.setChain_freeIndex (s : State) (c : Chain) (x : ChainState) : (s.setChain c x).freeIndex = s.freeIndex := by
  unfold State.setChain; dsimp only; split <;> simp
@[simp] theorem State.setChain_pending (s : State) (c : Chain) (x : ChainState) : (s.setChain c x).pending = s.pending := by
  unfold State.setChain; dsimp only; split <;> simp

/-- A chain replaced holds what it was given, and the other chains are as they were (R192). -/
theorem State.setChain_chains (s : State) (c : Chain) (x : ChainState) :
    (s.setChain c x).requests.chains = s.requests.chains.set c x := by
  unfold State.setChain; dsimp only
  split
  · show ((s.storeChain c x).writeEntry c (s.chain c) x).requests.chains = _
    simp [State.storeChain]
  · simp [State.storeChain]

/-- A chain's share after replacing it (R192). -/
@[simp] theorem PerChain.get_set_same {α : Type} (x : PerChain α) (c : Chain) (v : α) : (x.set c v).get c = v := by
  cases c <;> rfl

/-- Another chain's share after replacing one (R192). -/
theorem PerChain.get_set_other {α : Type} (x : PerChain α) {c d : Chain} (v : α) (h : d ≠ c) :
    (x.set c v).get d = x.get d := by
  cases c <;> cases d <;> first | rfl | exact absurd rfl h

/-- A port's share after replacing it (R145). -/
@[simp] theorem PerPort.get_set_same {α : Type} (x : PerPort α) (p : Port) (v : α) : (x.set p v).get p = v := by
  cases p <;> rfl

/-- Another port's share after replacing one (R145). -/
theorem PerPort.get_set_other {α : Type} (x : PerPort α) {p q : Port} (v : α) (h : q ≠ p) :
    (x.set p v).get q = x.get q := by
  cases p <;> cases q <;> first | rfl | exact absurd rfl h

/-- A class's share after replacing it (R155). -/
@[simp] theorem PerClass.get_set_same {α : Type} (x : PerClass α) (c : UplinkClass) (v : α) : (x.set c v).get c = v := by
  cases c <;> rfl

/-- Another class's share after replacing one (R155). -/
theorem PerClass.get_set_other {α : Type} (x : PerClass α) {c d : UplinkClass} (v : α) (h : d ≠ c) :
    (x.set c v).get d = x.get d := by
  cases c <;> cases d <;> first | rfl | exact absurd rfl h

/-- The chain itself after it is replaced (R192). -/
@[simp] theorem State.setChain_chain (s : State) (c : Chain) (x : ChainState) : (s.setChain c x).chain c = x := by
  rw [State.chain, State.setChain_chains, PerChain.get_set_same]

/-- Another chain after one is replaced (R192). -/
theorem State.setChain_chain_other (s : State) {c d : Chain} (x : ChainState) (h : d ≠ c) :
    (s.setChain c x).chain d = s.chain d := by
  rw [State.chain, State.setChain_chains, PerChain.get_set_other _ _ h]; rfl

/-! ### A chain faulted (R194) -/

@[simp] theorem State.faultChain_powered (s : State) (c : Chain) (x : Word) (f : FaultCode) : (s.faultChain c x f).powered = s.powered := by
  simp [State.faultChain]
@[simp] theorem State.faultChain_backed (s : State) (c : Chain) (x : Word) (f : FaultCode) : (s.faultChain c x f).backed = s.backed := by
  simp [State.faultChain]
@[simp] theorem State.faultChain_price (s : State) (c : Chain) (x : Word) (f : FaultCode) : (s.faultChain c x f).price = s.price := by
  simp [State.faultChain]
@[simp] theorem State.faultChain_tills (s : State) (c : Chain) (x : Word) (f : FaultCode) : (s.faultChain c x f).tills = s.tills := by
  simp [State.faultChain]
@[simp] theorem State.faultChain_journal (s : State) (c : Chain) (x : Word) (f : FaultCode) : (s.faultChain c x f).journal = s.journal := by
  simp [State.faultChain]
@[simp] theorem State.faultChain_labels (s : State) (c : Chain) (x : Word) (f : FaultCode) : (s.faultChain c x f).labels = s.labels := by
  simp [State.faultChain]
@[simp] theorem State.faultChain_exchange (s : State) (c : Chain) (x : Word) (f : FaultCode) : (s.faultChain c x f).exchange = s.exchange := by
  simp [State.faultChain]
@[simp] theorem State.faultChain_guests (s : State) (c : Chain) (x : Word) (f : FaultCode) : (s.faultChain c x f).guests = s.guests := by
  simp [State.faultChain]
@[simp] theorem State.faultChain_clock (s : State) (c : Chain) (x : Word) (f : FaultCode) : (s.faultChain c x f).clock = s.clock := by
  simp [State.faultChain]
@[simp] theorem State.faultChain_freeIndex (s : State) (c : Chain) (x : Word) (f : FaultCode) : (s.faultChain c x f).freeIndex = s.freeIndex := by
  simp [State.faultChain]
@[simp] theorem State.faultChain_pending (s : State) (c : Chain) (x : Word) (f : FaultCode) : (s.faultChain c x f).pending = s.pending := by
  simp [State.faultChain]

/-! ### The state of a record written (R194) -/

@[simp] theorem State.writeRecordState_powered (s : State) (x : Nat) (r : RecordState) : (s.writeRecordState x r).powered = s.powered := rfl
@[simp] theorem State.writeRecordState_backed (s : State) (x : Nat) (r : RecordState) : (s.writeRecordState x r).backed = s.backed := rfl
@[simp] theorem State.writeRecordState_requests (s : State) (x : Nat) (r : RecordState) : (s.writeRecordState x r).requests = s.requests := rfl
@[simp] theorem State.writeRecordState_price (s : State) (x : Nat) (r : RecordState) : (s.writeRecordState x r).price = s.price := rfl
@[simp] theorem State.writeRecordState_tills (s : State) (x : Nat) (r : RecordState) : (s.writeRecordState x r).tills = s.tills := rfl
@[simp] theorem State.writeRecordState_journal (s : State) (x : Nat) (r : RecordState) : (s.writeRecordState x r).journal = s.journal := rfl
@[simp] theorem State.writeRecordState_labels (s : State) (x : Nat) (r : RecordState) : (s.writeRecordState x r).labels = s.labels := rfl
@[simp] theorem State.writeRecordState_link (s : State) (x : Nat) (r : RecordState) : (s.writeRecordState x r).link = s.link := rfl
@[simp] theorem State.writeRecordState_exchange (s : State) (x : Nat) (r : RecordState) : (s.writeRecordState x r).exchange = s.exchange := rfl
@[simp] theorem State.writeRecordState_net (s : State) (x : Nat) (r : RecordState) : (s.writeRecordState x r).net = s.net := rfl
@[simp] theorem State.writeRecordState_guests (s : State) (x : Nat) (r : RecordState) : (s.writeRecordState x r).guests = s.guests := rfl
@[simp] theorem State.writeRecordState_clock (s : State) (x : Nat) (r : RecordState) : (s.writeRecordState x r).clock = s.clock := rfl
@[simp] theorem State.writeRecordState_host (s : State) (x : Nat) (r : RecordState) : (s.writeRecordState x r).host = s.host := rfl
@[simp] theorem State.writeRecordState_freeIndex (s : State) (x : Nat) (r : RecordState) : (s.writeRecordState x r).freeIndex = s.freeIndex := rfl
@[simp] theorem State.writeRecordState_pending (s : State) (x : Nat) (r : RecordState) : (s.writeRecordState x r).pending = s.pending := rfl

/-! ### A record taken (R194) -/

@[simp] theorem State.takeRecord_powered (s : State) (c : Chain) (x : Word) : (s.takeRecord c x).powered = s.powered := by
  unfold State.takeRecord; split <;> simp
@[simp] theorem State.takeRecord_backed (s : State) (c : Chain) (x : Word) : (s.takeRecord c x).backed = s.backed := by
  unfold State.takeRecord; split <;> simp
@[simp] theorem State.takeRecord_price (s : State) (c : Chain) (x : Word) : (s.takeRecord c x).price = s.price := by
  unfold State.takeRecord; split <;> simp
@[simp] theorem State.takeRecord_tills (s : State) (c : Chain) (x : Word) : (s.takeRecord c x).tills = s.tills := by
  unfold State.takeRecord; split <;> simp
@[simp] theorem State.takeRecord_journal (s : State) (c : Chain) (x : Word) : (s.takeRecord c x).journal = s.journal := by
  unfold State.takeRecord; split <;> simp
@[simp] theorem State.takeRecord_labels (s : State) (c : Chain) (x : Word) : (s.takeRecord c x).labels = s.labels := by
  unfold State.takeRecord; split <;> simp
@[simp] theorem State.takeRecord_exchange (s : State) (c : Chain) (x : Word) : (s.takeRecord c x).exchange = s.exchange := by
  unfold State.takeRecord; split <;> simp
@[simp] theorem State.takeRecord_guests (s : State) (c : Chain) (x : Word) : (s.takeRecord c x).guests = s.guests := by
  unfold State.takeRecord; split <;> simp
@[simp] theorem State.takeRecord_clock (s : State) (c : Chain) (x : Word) : (s.takeRecord c x).clock = s.clock := by
  unfold State.takeRecord; split <;> simp
@[simp] theorem State.takeRecord_freeIndex (s : State) (c : Chain) (x : Word) : (s.takeRecord c x).freeIndex = s.freeIndex := by
  unfold State.takeRecord; split <;> simp
@[simp] theorem State.takeRecord_pending (s : State) (c : Chain) (x : Word) : (s.takeRecord c x).pending = s.pending := by
  unfold State.takeRecord; split <;> simp

/-! ### A chain going on (R196) -/

@[simp] theorem State.goTo_powered (s : State) (c : Chain) (x : Word) : (s.goTo c x).powered = s.powered := by
  unfold State.goTo; split <;> simp
@[simp] theorem State.goTo_backed (s : State) (c : Chain) (x : Word) : (s.goTo c x).backed = s.backed := by
  unfold State.goTo; split <;> simp
@[simp] theorem State.goTo_price (s : State) (c : Chain) (x : Word) : (s.goTo c x).price = s.price := by
  unfold State.goTo; split <;> simp
@[simp] theorem State.goTo_tills (s : State) (c : Chain) (x : Word) : (s.goTo c x).tills = s.tills := by
  unfold State.goTo; split <;> simp
@[simp] theorem State.goTo_journal (s : State) (c : Chain) (x : Word) : (s.goTo c x).journal = s.journal := by
  unfold State.goTo; split <;> simp
@[simp] theorem State.goTo_labels (s : State) (c : Chain) (x : Word) : (s.goTo c x).labels = s.labels := by
  unfold State.goTo; split <;> simp
@[simp] theorem State.goTo_exchange (s : State) (c : Chain) (x : Word) : (s.goTo c x).exchange = s.exchange := by
  unfold State.goTo; split <;> simp
@[simp] theorem State.goTo_guests (s : State) (c : Chain) (x : Word) : (s.goTo c x).guests = s.guests := by
  unfold State.goTo; split <;> simp
@[simp] theorem State.goTo_clock (s : State) (c : Chain) (x : Word) : (s.goTo c x).clock = s.clock := by
  unfold State.goTo; split <;> simp
@[simp] theorem State.goTo_freeIndex (s : State) (c : Chain) (x : Word) : (s.goTo c x).freeIndex = s.freeIndex := by
  unfold State.goTo; split <;> simp
@[simp] theorem State.goTo_pending (s : State) (c : Chain) (x : Word) : (s.goTo c x).pending = s.pending := by
  unfold State.goTo; split <;> simp

/-! ### Result parts written (R195) -/

/-- Only the common store changes. -/
theorem State.writeParts_frame (s : State) (x : Nat) (ps : List (Nat × List Byte)) :
    (s.writeParts x ps).setStore s.store = s := by
  have h : ∀ (ps : List (Nat × List Byte)) (t : State), t.setStore s.store = s →
      (ps.foldl (fun s p => s.writeStore (x + 32 + p.1) p.2) t).setStore s.store = s := by
    intro ps
    induction ps with
    | nil => intro t ht; exact ht
    | cons p ps ih => intro t ht; exact ih _ ht
  exact h ps s rfl

@[simp] theorem State.writeParts_powered (s : State) (x : Nat) (ps : List (Nat × List Byte)) :
    (s.writeParts x ps).powered = s.powered := (congrArg State.powered (s.writeParts_frame x ps) :)
@[simp] theorem State.writeParts_backed (s : State) (x : Nat) (ps : List (Nat × List Byte)) :
    (s.writeParts x ps).backed = s.backed := (congrArg State.backed (s.writeParts_frame x ps) :)
@[simp] theorem State.writeParts_requests (s : State) (x : Nat) (ps : List (Nat × List Byte)) :
    (s.writeParts x ps).requests = s.requests := (congrArg State.requests (s.writeParts_frame x ps) :)
@[simp] theorem State.writeParts_price (s : State) (x : Nat) (ps : List (Nat × List Byte)) :
    (s.writeParts x ps).price = s.price := (congrArg State.price (s.writeParts_frame x ps) :)
@[simp] theorem State.writeParts_tills (s : State) (x : Nat) (ps : List (Nat × List Byte)) :
    (s.writeParts x ps).tills = s.tills := (congrArg State.tills (s.writeParts_frame x ps) :)
@[simp] theorem State.writeParts_journal (s : State) (x : Nat) (ps : List (Nat × List Byte)) :
    (s.writeParts x ps).journal = s.journal := (congrArg State.journal (s.writeParts_frame x ps) :)
@[simp] theorem State.writeParts_labels (s : State) (x : Nat) (ps : List (Nat × List Byte)) :
    (s.writeParts x ps).labels = s.labels := (congrArg State.labels (s.writeParts_frame x ps) :)
@[simp] theorem State.writeParts_link (s : State) (x : Nat) (ps : List (Nat × List Byte)) :
    (s.writeParts x ps).link = s.link := (congrArg State.link (s.writeParts_frame x ps) :)
@[simp] theorem State.writeParts_exchange (s : State) (x : Nat) (ps : List (Nat × List Byte)) :
    (s.writeParts x ps).exchange = s.exchange := (congrArg State.exchange (s.writeParts_frame x ps) :)
@[simp] theorem State.writeParts_net (s : State) (x : Nat) (ps : List (Nat × List Byte)) :
    (s.writeParts x ps).net = s.net := (congrArg State.net (s.writeParts_frame x ps) :)
@[simp] theorem State.writeParts_guests (s : State) (x : Nat) (ps : List (Nat × List Byte)) :
    (s.writeParts x ps).guests = s.guests := (congrArg State.guests (s.writeParts_frame x ps) :)
@[simp] theorem State.writeParts_clock (s : State) (x : Nat) (ps : List (Nat × List Byte)) :
    (s.writeParts x ps).clock = s.clock := (congrArg State.clock (s.writeParts_frame x ps) :)
@[simp] theorem State.writeParts_host (s : State) (x : Nat) (ps : List (Nat × List Byte)) :
    (s.writeParts x ps).host = s.host := (congrArg State.host (s.writeParts_frame x ps) :)
@[simp] theorem State.writeParts_freeIndex (s : State) (x : Nat) (ps : List (Nat × List Byte)) :
    (s.writeParts x ps).freeIndex = s.freeIndex := (congrArg State.freeIndex (s.writeParts_frame x ps) :)
@[simp] theorem State.writeParts_pending (s : State) (x : Nat) (ps : List (Nat × List Byte)) :
    (s.writeParts x ps).pending = s.pending := (congrArg State.pending (s.writeParts_frame x ps) :)

/-! ### A result written (R195) -/

@[simp] theorem State.writeResult_powered (s : State) (x : Nat) (r : Reply) : (s.writeResult x r).powered = s.powered := by
  simp [State.writeResult]
@[simp] theorem State.writeResult_backed (s : State) (x : Nat) (r : Reply) : (s.writeResult x r).backed = s.backed := by
  simp [State.writeResult]
@[simp] theorem State.writeResult_requests (s : State) (x : Nat) (r : Reply) : (s.writeResult x r).requests = s.requests := by
  simp [State.writeResult]
@[simp] theorem State.writeResult_price (s : State) (x : Nat) (r : Reply) : (s.writeResult x r).price = s.price := by
  simp [State.writeResult]
@[simp] theorem State.writeResult_tills (s : State) (x : Nat) (r : Reply) : (s.writeResult x r).tills = s.tills := by
  simp [State.writeResult]
@[simp] theorem State.writeResult_journal (s : State) (x : Nat) (r : Reply) : (s.writeResult x r).journal = s.journal := by
  simp [State.writeResult]
@[simp] theorem State.writeResult_labels (s : State) (x : Nat) (r : Reply) : (s.writeResult x r).labels = s.labels := by
  simp [State.writeResult]
@[simp] theorem State.writeResult_link (s : State) (x : Nat) (r : Reply) : (s.writeResult x r).link = s.link := by
  simp [State.writeResult]
@[simp] theorem State.writeResult_exchange (s : State) (x : Nat) (r : Reply) : (s.writeResult x r).exchange = s.exchange := by
  simp [State.writeResult]
@[simp] theorem State.writeResult_net (s : State) (x : Nat) (r : Reply) : (s.writeResult x r).net = s.net := by
  simp [State.writeResult]
@[simp] theorem State.writeResult_guests (s : State) (x : Nat) (r : Reply) : (s.writeResult x r).guests = s.guests := by
  simp [State.writeResult]
@[simp] theorem State.writeResult_clock (s : State) (x : Nat) (r : Reply) : (s.writeResult x r).clock = s.clock := by
  simp [State.writeResult]
@[simp] theorem State.writeResult_host (s : State) (x : Nat) (r : Reply) : (s.writeResult x r).host = s.host := by
  simp [State.writeResult]
@[simp] theorem State.writeResult_freeIndex (s : State) (x : Nat) (r : Reply) : (s.writeResult x r).freeIndex = s.freeIndex := by
  simp [State.writeResult]
@[simp] theorem State.writeResult_pending (s : State) (x : Nat) (r : Reply) : (s.writeResult x r).pending = s.pending := by
  simp [State.writeResult]

/-! ### The link of a finished record read (R196) -/

@[simp] theorem State.readLink_powered (s : State) (c : Chain) (x : Nat) : (s.readLink c x).powered = s.powered := by
  unfold State.readLink; dsimp only; split <;> simp
@[simp] theorem State.readLink_backed (s : State) (c : Chain) (x : Nat) : (s.readLink c x).backed = s.backed := by
  unfold State.readLink; dsimp only; split <;> simp
@[simp] theorem State.readLink_price (s : State) (c : Chain) (x : Nat) : (s.readLink c x).price = s.price := by
  unfold State.readLink; dsimp only; split <;> simp
@[simp] theorem State.readLink_tills (s : State) (c : Chain) (x : Nat) : (s.readLink c x).tills = s.tills := by
  unfold State.readLink; dsimp only; split <;> simp
@[simp] theorem State.readLink_journal (s : State) (c : Chain) (x : Nat) : (s.readLink c x).journal = s.journal := by
  unfold State.readLink; dsimp only; split <;> simp
@[simp] theorem State.readLink_labels (s : State) (c : Chain) (x : Nat) : (s.readLink c x).labels = s.labels := by
  unfold State.readLink; dsimp only; split <;> simp
@[simp] theorem State.readLink_exchange (s : State) (c : Chain) (x : Nat) : (s.readLink c x).exchange = s.exchange := by
  unfold State.readLink; dsimp only; split <;> simp
@[simp] theorem State.readLink_guests (s : State) (c : Chain) (x : Nat) : (s.readLink c x).guests = s.guests := by
  unfold State.readLink; dsimp only; split <;> simp
@[simp] theorem State.readLink_clock (s : State) (c : Chain) (x : Nat) : (s.readLink c x).clock = s.clock := by
  unfold State.readLink; dsimp only; split <;> simp
@[simp] theorem State.readLink_freeIndex (s : State) (c : Chain) (x : Nat) : (s.readLink c x).freeIndex = s.freeIndex := by
  unfold State.readLink; dsimp only; split <;> simp
@[simp] theorem State.readLink_pending (s : State) (c : Chain) (x : Nat) : (s.readLink c x).pending = s.pending := by
  unfold State.readLink; dsimp only; split <;> simp

/-! ### A record finished (R195) -/

@[simp] theorem State.finish_powered (s : State) (c : Chain) (x : Nat) (t : Bool) (r : Reply) : (s.finish c x t r).powered = s.powered := by
  unfold State.finish; dsimp only; split <;> split <;> simp
@[simp] theorem State.finish_backed (s : State) (c : Chain) (x : Nat) (t : Bool) (r : Reply) : (s.finish c x t r).backed = s.backed := by
  unfold State.finish; dsimp only; split <;> split <;> simp
@[simp] theorem State.finish_price (s : State) (c : Chain) (x : Nat) (t : Bool) (r : Reply) : (s.finish c x t r).price = s.price := by
  unfold State.finish; dsimp only; split <;> split <;> simp
@[simp] theorem State.finish_tills (s : State) (c : Chain) (x : Nat) (t : Bool) (r : Reply) : (s.finish c x t r).tills = s.tills := by
  unfold State.finish; dsimp only; split <;> split <;> simp
@[simp] theorem State.finish_journal (s : State) (c : Chain) (x : Nat) (t : Bool) (r : Reply) : (s.finish c x t r).journal = s.journal := by
  unfold State.finish; dsimp only; split <;> split <;> simp
@[simp] theorem State.finish_labels (s : State) (c : Chain) (x : Nat) (t : Bool) (r : Reply) : (s.finish c x t r).labels = s.labels := by
  unfold State.finish; dsimp only; split <;> split <;> simp
@[simp] theorem State.finish_exchange (s : State) (c : Chain) (x : Nat) (t : Bool) (r : Reply) : (s.finish c x t r).exchange = s.exchange := by
  unfold State.finish; dsimp only; split <;> split <;> simp
@[simp] theorem State.finish_guests (s : State) (c : Chain) (x : Nat) (t : Bool) (r : Reply) : (s.finish c x t r).guests = s.guests := by
  unfold State.finish; dsimp only; split <;> split <;> simp
@[simp] theorem State.finish_clock (s : State) (c : Chain) (x : Nat) (t : Bool) (r : Reply) : (s.finish c x t r).clock = s.clock := by
  unfold State.finish; dsimp only; split <;> split <;> simp
@[simp] theorem State.finish_freeIndex (s : State) (c : Chain) (x : Nat) (t : Bool) (r : Reply) : (s.finish c x t r).freeIndex = s.freeIndex := by
  unfold State.finish; dsimp only; split <;> split <;> simp
@[simp] theorem State.finish_pending (s : State) (c : Chain) (x : Nat) (t : Bool) (r : Reply) : (s.finish c x t r).pending = s.pending := by
  unfold State.finish; dsimp only; split <;> split <;> simp

end Sys2Proof.Machine
end

