-- ==== Sys2Proof/Laws/Arbiter.lean ====
section
/-! SUPPORT. Laws/Arbiter.lean: what a run of the credit arbiter, and the making of the runs a step owes, may change:
the stations, the labels and their counts, and the queues of the ports. -/

namespace Sys2Proof.Machine

/-- Between two states only the common store, the Label Service, the Base Station Link and the Forwarding Unit have
changed. -/
def OnlyArbiter (s t : State) : Prop :=
  (((t.setStore s.store).setLabels s.labels).setLink s.link).setNet s.net = s

theorem OnlyArbiter.refl (s : State) : OnlyArbiter s s := rfl

theorem OnlyArbiter.trans {s t u : State} (h : OnlyArbiter s t) (h' : OnlyArbiter t u) : OnlyArbiter s u := by
  unfold OnlyArbiter at *
  conv_rhs => rw [← h, ← h']
  rfl

theorem OnlyArbiter.setLink {s t : State} (x : StationLink) (h : OnlyArbiter s t) : OnlyArbiter s (t.setLink x) := h

theorem OnlyArbiter.setLabels {s t : State} (x : LabelService) (h : OnlyArbiter s t) : OnlyArbiter s (t.setLabels x) := h

theorem OnlyArbiter.setNet {s t : State} (x : Forwarding) (h : OnlyArbiter s t) : OnlyArbiter s (t.setNet x) := h

theorem OnlyArbiter.setStore {s t : State} (x : Memory) (h : OnlyArbiter s t) : OnlyArbiter s (t.setStore x) := h

theorem OnlyArbiter.setDirectory {s t : State} (x : Table Label) (h : OnlyArbiter s t) :
    OnlyArbiter s (t.setDirectory x) := by
  unfold State.setDirectory; dsimp only; split
  · exact h
  · exact h

theorem OnlyArbiter.putLabel {s t : State} (l : Label) (h : OnlyArbiter s t) : OnlyArbiter s (t.putLabel l) :=
  h.setDirectory _

theorem OnlyArbiter.putStation {s t : State} (b : BaseStation) (h : OnlyArbiter s t) : OnlyArbiter s (t.putStation b) := h

theorem OnlyArbiter.leaveSet {s t : State} (l : Label) (h : OnlyArbiter s t) : OnlyArbiter s (t.leaveSet l) := by
  unfold State.leaveSet; split
  · exact h
  · split
    · exact h
    · exact h

theorem OnlyArbiter.pickNothing {s t : State} (l : Label) (h : OnlyArbiter s t) : OnlyArbiter s (t.pickNothing l) := by
  unfold State.pickNothing; dsimp only; split
  · exact (h.leaveSet l).putLabel _
  · exact h.leaveSet l

theorem OnlyArbiter.updateSent {s t : State} (l : Label) (u : Update) (tag station : Nat) (h : OnlyArbiter s t) :
    OnlyArbiter s (t.updateSent l u tag station) := by
  unfold State.updateSent; dsimp only; split
  · exact (h.leaveSet l).putLabel _
  · exact (h.leaveSet l).putLabel _

theorem OnlyArbiter.offerOwn {s t : State} (p : Port) (f : Frame) (h : OnlyArbiter s t) : OnlyArbiter s (t.offerOwn p f) := by
  unfold State.offerOwn State.offer; split
  · exact h
  · exact h

theorem OnlyArbiter.sendUpdate {s t : State} (b : BaseStation) (l : Label) (u : Update) (h : OnlyArbiter s t) :
    OnlyArbiter s (t.sendUpdate b l u) := by
  unfold State.sendUpdate; dsimp only
  exact OnlyArbiter.updateSent _ _ _ _ (OnlyArbiter.offerOwn _ _ h)

theorem OnlyArbiter.arbiterRun {s : State} (station fuel : Nat) :
    ∀ {t : State}, OnlyArbiter s t → OnlyArbiter s (State.arbiterRun station fuel t) := by
  induction fuel with
  | zero => intro t h; exact h
  | succ n ih =>
    intro t h
    unfold State.arbiterRun
    split
    · exact h
    split
    · exact h
    split
    · exact h
    split
    · exact ih h
    split
    · exact ih (OnlyArbiter.pickNothing _ h)
    split
    · exact h
    split
    · exact h
    · exact ih (h.sendUpdate _ _ _)

theorem OnlyArbiter.runArbiter {s t : State} (station : Nat) (h : OnlyArbiter s t) :
    OnlyArbiter s (t.runArbiter station) := by
  unfold State.runArbiter; split
  · exact h
  · exact h.arbiterRun _ _

theorem OnlyArbiter.bufferReturned {s t : State} (h : OnlyArbiter s t) : OnlyArbiter s t.bufferReturned := by
  unfold State.bufferReturned
  generalize t.link.table = bs
  induction bs generalizing t with
  | nil => exact h
  | cons b bs ih =>
    refine ih ?_
    dsimp only
    split
    · exact h
    · split
      · exact h.runArbiter _
      · exact h

/-- The arbiter runs a step owes change only the common store, the Label Service, the Base Station Link and the
Forwarding Unit (R113-R115; log 10). -/
theorem State.settle_only (s : State) : OnlyArbiter s s.settle := by
  unfold State.settle
  generalize s.link.due = cs
  have h : OnlyArbiter s (s.setLink { s.link with due := [] }) := rfl
  revert h
  generalize s.setLink { s.link with due := [] } = t
  intro h
  induction cs generalizing t with
  | nil => exact h
  | cons c cs ih =>
    refine ih _ ?_
    cases c with
    | station id => exact h.runArbiter id
    | bufferReturned => exact h.bufferReturned

/-- With no arbiter run owed, nothing is left to make (log 10). -/
theorem State.settle_of_none (s : State) (h : s.link.due = []) : s.settle = s := by
  unfold State.settle
  rw [h]
  show s.setLink { s.link with due := [] } = s
  conv_rhs => rw [← s.setLink_self]
  rw [← h]

end Sys2Proof.Machine
end

