-- ==== Sys2Proof/Laws/Session.lean ====
section
/-! SUPPORT. Laws/Session.lean: what sending a message of the exchange and ending a session may change, and the
queue's contents after a message whose frames all join. -/

namespace Sys2Proof.Machine

/-- Frames joined to the EXCHANGE queue one after another stand at its end in order, a buffer taken for each (R154,
R155). -/
theorem State.join_exchange_all (fs : List Frame) (s : State) :
    fs.foldl (fun s f => s.join (.cls .exchange) f) s =
      s.setNet { s.net with
        freeBuffers := s.net.freeBuffers - fs.length
        classes := s.net.classes.set .exchange (s.net.classes.exchange ++ fs) } := by
  induction fs generalizing s with
  | nil => simp [PerClass.set, State.setNet]
  | cons f fs ih =>
    rw [List.foldl_cons, ih]
    have hn := s.join_class .exchange f (by decide)
    have hs : (s.join (.cls .exchange) f) = s.setNet (s.join (.cls .exchange) f).net := rfl
    rw [hs, hn]
    simp [State.setNet, PerClass.set, PerClass.get, Nat.sub_sub, Nat.add_comm]

/-- A message sent changes only the count of datagrams and the Forwarding Unit (R124, R155). -/
theorem State.sendMessage_frame (s : State) (k : PartMessage) (b : List Byte) :
    ((s.sendMessage k b).setExchange s.exchange).setNet s.net = s := by
  unfold State.sendMessage
  dsimp only
  split
  · rw [State.join_exchange_all]; rfl
  · split
    · rfl
    · rfl

/-- A message sent is one datagram more (log 16). -/
theorem State.sendMessage_exchange (s : State) (k : PartMessage) (b : List Byte) :
    (s.sendMessage k b).exchange = { s.exchange with datagrams := s.exchange.datagrams + 1 } := by
  unfold State.sendMessage
  dsimp only
  split
  · rw [State.join_exchange_all]; rfl
  · split
    · rfl
    · rfl

/-! ### What the end of a session leaves alone (R139) -/

@[simp] theorem State.endSession_powered (s : State) (o : SessionOutcome) (n : Nat) : (s.endSession o n).powered = s.powered := by
  simp [State.endSession, State.setSession]
@[simp] theorem State.endSession_backed (s : State) (o : SessionOutcome) (n : Nat) : (s.endSession o n).backed = s.backed := by
  simp [State.endSession, State.setSession]
@[simp] theorem State.endSession_price (s : State) (o : SessionOutcome) (n : Nat) : (s.endSession o n).price = s.price := by
  simp [State.endSession, State.setSession]
@[simp] theorem State.endSession_tills (s : State) (o : SessionOutcome) (n : Nat) : (s.endSession o n).tills = s.tills := by
  simp [State.endSession, State.setSession]
@[simp] theorem State.endSession_journal (s : State) (o : SessionOutcome) (n : Nat) : (s.endSession o n).journal = s.journal := by
  simp [State.endSession, State.setSession]
@[simp] theorem State.endSession_labels (s : State) (o : SessionOutcome) (n : Nat) : (s.endSession o n).labels = s.labels := by
  simp [State.endSession, State.setSession]
@[simp] theorem State.endSession_link (s : State) (o : SessionOutcome) (n : Nat) : (s.endSession o n).link = s.link := by
  simp [State.endSession, State.setSession]
@[simp] theorem State.endSession_net (s : State) (o : SessionOutcome) (n : Nat) : (s.endSession o n).net = s.net := by
  simp [State.endSession, State.setSession]
@[simp] theorem State.endSession_guests (s : State) (o : SessionOutcome) (n : Nat) : (s.endSession o n).guests = s.guests := by
  simp [State.endSession, State.setSession]
@[simp] theorem State.endSession_clock (s : State) (o : SessionOutcome) (n : Nat) : (s.endSession o n).clock = s.clock := by
  simp [State.endSession, State.setSession]
@[simp] theorem State.endSession_freeIndex (s : State) (o : SessionOutcome) (n : Nat) : (s.endSession o n).freeIndex = s.freeIndex := by
  simp [State.endSession, State.setSession]
@[simp] theorem State.endSession_pending (s : State) (o : SessionOutcome) (n : Nat) : (s.endSession o n).pending = s.pending := by
  simp [State.endSession, State.setSession]

/-- The context after the end of a session: emptied, IDLE, the outcome recorded (R139). -/
theorem State.endSession_exchange (s : State) (o : SessionOutcome) (n : Nat) :
    (s.endSession o n).exchange = { s.exchange.emptied with state := .idle, lastOutcome := o } := by
  unfold State.endSession
  dsimp only
  rw [State.post_exchange]
  rfl

/-- When a resend takes place: in its state, with no release awaited, at its resend time or after (R127, R131). -/
theorem State.resendDue_iff (s : State) (x : SessionState) : s.resendDue x = true ↔
    s.exchange.state = x ∧ s.exchange.awaiting = none ∧ ∃ t, s.exchange.resend = some t ∧ t ≤ s.now := by
  unfold State.resendDue
  cases s.exchange.resend <;> simp [and_assoc]

end Sys2Proof.Machine
end

