-- ==== Sys2Proof/WellFormed.lean ====
section
/-! DEFINITION. WellFormed.lean: the operands a command may carry. The commands are total: an ill-formed term is
still given a next state, by the register, word or entry it names (log 32). -/

namespace Sys2Proof

/-- The operands lie in the ranges the manual gives them. -/
def Instr.wellFormed : Instr → Bool
  | .registerWriteIgnored offset _ => offset != 0x4 && offset != 0xC
  | .commandOtherValue _ value => value != 1
  | .linkWordWrite offset _ _ => offset.toNat % 4 == 0
  | .loadTemplate chain => chain == .setup || chain == .label
  | .tillSilenceExpiry till => 1 ≤ till && till ≤ 64
  | .baseStationSilence station => 1 ≤ station && station ≤ 65535
  | .updateDeadline station tag => 1 ≤ station && station ≤ 65535 && 1 ≤ tag && tag ≤ 4294967295
  | .stationAging address => address.getLsbD 40 == false
  | .guestTimeLimit address => address.getLsbD 40 == false
  | .guestIdleRemoval address => address.getLsbD 40 == false
  | .powerOn | .reset | .run | .causeRead | .causeEnableWrite _ | .startUpScan | .headWrite _ _ | .stop _
  | .setPortRoles | .setSlotTables | .setPacer | .setGuestPolicy | .setLabelParams | .setExchangeParams
  | .setClock | .setPeriodManual | .setPeriodScheduled | .setPlausibility | .loadItems | .changePrice
  | .confirmChange | .rejectChange | .setText | .removeItem | .readItem | .bindLabel | .unbindLabel
  | .setLabelTemplate | .retryLabel | .readLabel | .sendFrame | .admitGuest | .revokeGuest | .readCounts
  | .flushStations | .startExchange | .abortExchange | .readJournalState | .deliveryFill | .frameReceive _ _ _
  | .signOn | .quoteAsk | .salePut | .signOff | .bsHello | .labelSeen | .updateResult | .welcome | .jack
  | .pblock | .commit | .noMore | .byeAck | .refuse | .batchEntryApply | .appendStart | .appendEnd
  | .releaseComplete | .lanEgressStart _ | .uplinkPick | .transmitEnd _ | .phyLinkDown _ | .phyLinkUp _
  | .millisecondStep | .helloResend | .jblockResend | .pullResend | .byeResend | .serverIdleExpiry
  | .sessionDeadline | .openTimeReached | .closeTimeReached | .windowStartReached | .powerLoss => true

end Sys2Proof
end

