-- ==== Sys2Proof/Tests/Slice0.lean ====
section
/-! SUPPORT. Tests/Slice0.lean: the refusals of WellFormed, the manual's worked figures, one step of a few commands, and
for every statement with hypotheses a state and operands that meet them. -/

namespace Sys2Proof.Tests

set_option Elab.async false

open Sys2Proof Sys2Proof.Machine

/-! ### WellFormed: one ill-formed term for each check -/

theorem test_wf_register_offset : (Instr.registerWriteIgnored 0x4 0).wellFormed = false := by decide
theorem test_wf_register_enable : (Instr.registerWriteIgnored 0xC 0).wellFormed = false := by decide
theorem test_wf_command_value : (Instr.commandOtherValue .net 1).wellFormed = false := by decide
theorem test_wf_link_offset : (Instr.linkWordWrite 0x3002 0 0xF).wellFormed = false := by decide
theorem test_wf_template_chain : (Instr.loadTemplate .price).wellFormed = false := by decide
theorem test_wf_till : (Instr.tillSilenceExpiry 65).wellFormed = false := by decide
theorem test_wf_till_zero : (Instr.tillSilenceExpiry 0).wellFormed = false := by decide
theorem test_wf_station : (Instr.baseStationSilence 0).wellFormed = false := by decide
theorem test_wf_station_high : (Instr.baseStationSilence 65536).wellFormed = false := by decide
theorem test_wf_deadline_station : (Instr.updateDeadline 0 1).wellFormed = false := by decide
theorem test_wf_deadline_tag : (Instr.updateDeadline 1 0).wellFormed = false := by decide
theorem test_wf_aging_group : (Instr.stationAging 0xFFFFFFFFFFFF).wellFormed = false := by decide
theorem test_wf_limit_group : (Instr.guestTimeLimit 0x010000000000).wellFormed = false := by decide
theorem test_wf_idle_group : (Instr.guestIdleRemoval 0x010000000000).wellFormed = false := by decide
theorem test_wf_good : (Instr.linkWordWrite 0x3040 0 0xF).wellFormed = true := by decide

/-! ### The state the tests start from -/

/-- The part RUNNING and READY, nothing else set. -/
def ready : State :=
  { State.reset with requests := { RequestUnit.reset with runState := .running, startState := .ready } }

/-- The record at the start of record space, with tell set. -/
def held (kind : Nat) (body : List Byte) : RecordInHand := { offset := 0x3000, kind := kind, tell := true, body := body }

/-- A state whose chain has a record in hand. -/
def hand (s : State) (c : Chain) (kind : Nat) (body : List Byte) : State :=
  s.storeChain c { ChainState.reset with phase := .running, current := 0x3000, inHand := some (held kind body) }

/-- Bytes from numbers. -/
def bs (ns : List Nat) : List Byte := ns.map (BitVec.ofNat 8)

/-- A state with a session in a state. -/
def inSession (s : State) (x : SessionState) : State := s.setExchange { s.exchange with state := x }

/-- The state a command leads to, or the state itself. -/
def after (c : Instr) (s : State) : State :=
  match exec c s with
  | .next t => t
  | .fault _ => s
  | .refused _ => s

/-! ### Figures of the manual -/

/-- An EACH item as the worked cases of section 2.9 use it. -/
def each (base : Nat) (promo : Option Promotion) (pending : Option Version) : Item :=
  { article := 5, text := bs [77], textRevision := 0, saleKind := .each, measure := .piece, packQty := 1, refQty := 1
    current := { number := 1, base := base, promo := promo }, pending := pending, waiting := none, lastVersion := 2
    labels := [], outstanding := 0, staleCount := 0, origin := 0 }

/-- A WEIGHED item. -/
def weighed (base : Nat) : Item := { each base none none with saleKind := .weighed, measure := .gram, refQty := 1000 }

/-- Section 2.9, multi-buy against a pending version. -/
theorem test_multibuy_pending :
    [1, 2, 3, 6, 7].map (lowerOfTwo (each 120 (some ⟨3, 300⟩) (some ⟨2, 110, none⟩)))
      = [some (110, .pending), some (220, .pending), some (300, .current), some (600, .current), some (720, .current)] := by
  decide

/-- Section 2.9, a tie. -/
theorem test_tie_goes_to_current :
    [1, 2].map (lowerOfTwo (each 100 none (some ⟨2, 100, some ⟨2, 150⟩⟩))) = [some (100, .current), some (150, .pending)] := by
  decide

/-- Section 2.9, weighed lines. -/
theorem test_weighed_lines :
    [(1299, 347), (1250, 2), (199, 2)].map (fun x => lineAmount .weighed ⟨1, x.1, none⟩ x.2) = [451, 3, 0]
      ∧ validAmount .weighed ⟨1, 9999999, none⟩ 99999 = none := by decide

/-- Section 2.9, overlimit against a pending version. -/
theorem test_overlimit_pending :
    [9, 11, 13].map (lowerOfTwo (each 9999999 none (some ⟨2, 8000000, none⟩)))
      = [some (72000000, .pending), some (88000000, .pending), none] := by decide

/-- Section 2.9, unit prices. -/
theorem test_unit_prices :
    [(189, 400, 1000), (129, 330, 1000), (500, 6, 1), (5, 2, 1), (9999999, 1, 1000)].map
        (fun x => unitPriceOf { each x.1 none none with packQty := x.2.1, refQty := x.2.2 } x.1)
      = [(473, false), (391, false), (83, false), (3, false), (9999999, true)] := by decide

/-- Section 2.9, window bounds. -/
theorem test_window_bounds :
    [(249, 50, 100), (7, 50, 10), (333, 0, 0)].map (fun x => (windowLow x.2.1 x.1, windowHigh x.2.2 x.1))
      = [(124, 498), (3, 8), (333, 333)] := by decide

/-- Section 6.9, slot distance. -/
theorem test_slot_distance :
    [69700, 70000, 70100].map (slotDistance 512 1000000) = [4, 304, 404] ∧ slotDistance 512 1000125 69700 = 511 := by decide

/-- Sections 3.7 and 4.8: entries of 3 and 7 lines take 3 and 5 units; by R60 the others follow. -/
theorem test_entry_units : [1, 2, 3, 7, 255].map unitsFor = [2, 2, 3, 5, 129] := by decide

/-- R61: the CRC of the nine digits "123456789". -/
theorem test_crc_check_value : crc32 (bs [49, 50, 51, 52, 53, 54, 55, 56, 57]) = 0xCBF43926 := by decide +kernel

/-- Section 10.6: 86,398,000 ms on day 812 rolls over to day 813 after 2,000 ms, and the schedule 07:00 to 22:00. -/
theorem test_clock_rolls_over :
    (ClockBase.timeAt { day := 812, ms := 86398000, count := 10000 } 12000) = (813, 0)
      ∧ schedulePeriod 25200000 79200000 86399000 = .closed ∧ schedulePeriod 25200000 79200000 25200000 = .opened
      ∧ schedulePeriod 25200000 79200000 3000000 = .closed := by decide

/-- R116: the last tag is followed by 1. -/
theorem test_tag_wraps : tagAfter 4294967295 = 1 ∧ nextNumber 4294967295 = 1 := by decide

/-! ### One step of a few commands -/

/-- R186, R187: RUN during the scan is remembered; RESET leaves the part CHECKING and STOPPED. -/
theorem test_run_remembered :
    (after .run State.reset).requests.rememberedRun = true ∧ (after .reset ready).requests.startState = .checking := by
  decide +kernel

/-- R201, R205: FAULT and DONE pending, a read returns 1 and leaves DONE. -/
theorem test_cause_read :
    let t := after .causeRead (ready.setRequests { ready.requests with causes := 9 })
    t.host.readData = 1 ∧ t.requests.causes = 8 := by decide +kernel

/-- R202: enabling a pending cause sends one message. -/
theorem test_enable_signals :
    (after (.causeEnableWrite 0xFFFFFFFF) (ready.setRequests { ready.requests with causes := 1 })).host.interrupts = 1 := by
  decide +kernel

/-- R194: a head that is no multiple of 64 faults the chain BAD_LINK. -/
theorem test_bad_head :
    let t := after (.headWrite .price 0x3010) ready
    (t.chain .price).phase = .faulted ∧ (t.chain .price).fault = .badLink ∧ t.storeWord 0x454 = 1 := by decide +kernel

/-- R40, R195: the down percentage clamped, the record DONE with ADJUSTED, the chain parked. -/
theorem test_plausibility_clamped :
    let t := after .setPlausibility (hand ready .setup 0x0A (bs [101, 0, 5, 0]))
    t.price.down = 100 ∧ t.price.up = 5 ∧ t.store.readBytes 0x3004 5 = bs [3, 0, 0, 0, 1]
      ∧ (t.chain .setup).phase = .parked ∧ (t.chain .setup).done = 1 := by decide +kernel

/-- R15: CONFIRM_CHANGE of an article that is not there. -/
theorem test_confirm_not_found :
    (after .confirmChange (hand ready .price 0x13 (zeros 16))).store.readBytes 0x3004 4 = bs [4, 0, 0, 4] := by
  decide +kernel

/-- Section 3.7, steps 1 and 2: till 12 binds to the first station, and the second is refused. -/
theorem test_sign_on_binds :
    let f : TillFrame := { port := .p2, source := 0x0200000000AA, till := 12, message := .signOn }
    let g : TillFrame := { f with source := 0x0200000000BB }
    let t := after .signOn (after .signOn (ready.setTills { ready.tills with inbox := [f, g] }))
    (t.till 12).map TillEntry.station = some (some 0x0200000000AA) ∧ t.requests.written = 1 := by decide +kernel

/-- Section 8.8 at t = 0: P1 is taken on slot 0 and leaves 7,856 tokens. -/
theorem test_pick_pays :
    let f : Frame := { dest := 1, source := 2, etherType := 0x0800, payload := zeros 1500, check := 0 }
    let s := ready.setNet { ready.net with
      ports := ready.net.ports.set .p0 { PortState.reset with role := some .uplink, linkUp := true }
      classes := ⟨[f], [], [], []⟩, tokens := 20000, depth := 20000, rate := 1000 }
    let t := after .uplinkPick (s.setClock { s.clock with period := .opened })
    t.net.tokens = 7856 ∧ t.net.pointer = 1 ∧ t.net.classes.payment = [] := by decide +kernel

/-- R176, R158: a millisecond step counts and tops the pacer up to its depth. -/
theorem test_millisecond :
    let t := after .millisecondStep (ready.setNet { ready.net with tokens := -288, rate := 1000 })
    t.clock.count = 1 ∧ t.net.tokens = 712 := by decide +kernel

/-- R163: a link found up posts PORT_LINK with the port as subject and 1 in bits 31-24. -/
theorem test_link_up_notice :
    let t := after (.phyLinkUp .p3) ready
    t.store.readBytes 0x1000 16 = bs [17, 0, 0, 0, 3, 0, 0, 0, 0, 0, 0, 0, 0, 0, 0, 1] ∧ t.storeWord 0x28 = 1 := by
  decide +kernel

end Sys2Proof.Tests
end

