-- ==== Sys2Proof/Tests/Witness0.lean ====
section
/-! SUPPORT. Tests/Witness0.lean: for every statement with hypotheses, a state and operands that meet them, clause by
clause, at the ends of their ranges: the machine as a whole, the chains and the SETUP requests. -/

namespace Sys2Proof.Tests

set_option Elab.async false

open Sys2Proof Sys2Proof.Machine

set_option synthInstance.maxSize 4096

/-- The part with a record stored whole at an offset: link, state, kind, tell, body length. -/
def stored (s : State) (x : Nat) (state kind tell length : Nat) : State :=
  s.writeStore (x + 4) (bs [state, kind, tell, 0, 0, 0] ++ leBytes 2 length)

/-- A chain in a phase, its current at an offset, nothing in hand. -/
def chainAt (s : State) (c : Chain) (p : ChainPhase) (x : Nat) : State :=
  s.storeChain c { ChainState.reset with phase := p, current := BitVec.ofNat 32 x }

/-- A frame of 64 bytes. -/
def frame64 : Frame :=
  { dest := 0x0200000000A0, source := 0x0200000000B0, etherType := 0x0800, payload := zeros 46, check := 0 }

theorem witness_StepTakesFront : State.reset.pending = [] := by decide

theorem witness_PowerLossStops : ready.powered = true ∧ ready.requests.startState = .ready ∧ ready.journal.append = none
    ∧ ready.journal.release = none ∧ (ready.setPowered false).powered = false ∧ Instr.run ≠ .powerOn := by decide +kernel

theorem witness_PowerOnResets : (ready.setPowered false).powered = false := by decide

theorem witness_ResetClears : ready.powered = true ∧ ready.requests.startState = .ready ∧ ready.journal.append = none
    ∧ ready.journal.release = none := by decide +kernel

/-- RUN: during the scan, while RUNNING, and from STOPPED with one head word 0 and one not. -/
theorem witness_RunStarts :
    let s := (ready.setRequests { ready.requests with runState := .stopped }).writeWord (headWord .price) 0x3000
    State.reset.powered = true ∧ State.reset.requests.startState = .checking ∧ ready.requests.runState = .running
      ∧ s.powered = true ∧ s.requests.startState = .ready ∧ s.requests.runState = .stopped ∧ s.store.wf
      ∧ (s.chain .setup).phase = .off ∧ s.storeWord (headWord .setup) = 0
      ∧ (s.chain .price).phase = .off ∧ s.storeWord (headWord .price) ≠ 0 := by decide +kernel

/-- CAUSE_READ: two pending, the higher the first; none pending. -/
theorem witness_CauseReadTakesHighest :
    let s := ready.setRequests { ready.requests with causes := 24 }
    s.powered = true ∧ s.Pending .done ∧ s.Pending .delivered ∧ ¬ s.Pending .fault ∧ ¬ s.Pending .logFull
      ∧ ¬ s.Pending .notice ∧ ¬ ready.Pending .fault ∧ ¬ ready.Pending .delivered := by decide +kernel

theorem witness_RegisterWrites : ready.powered = true ∧ (0x8 : Nat) ≠ 0x4 ∧ (0x8 : Nat) ≠ 0xC := by decide

/-- The scan: an empty backed SRAM has two header copies of wrong CRC. -/
theorem witness_ScanReports_format :
    State.reset.powered = true ∧ State.reset.requests.startState = .checking ∧ State.reset.MemoryWf
      ∧ 1 ≤ State.reset.journal.alertLevel ∧ State.reset.journal.append = none
      ∧ ∀ copy, copy < 2 → crc32 (State.reset.backed.readBytes (64 * copy) 60)
          ≠ BitVec.ofNat 32 (leNat (State.reset.backed.readBytes (64 * copy + 60) 4)) := by decide +kernel

/-- Entries of 1 and of 255 lines, the last at the end of the area, a mark and a header at the ends of their ranges. -/
theorem witness_BackedFormatsReadBack :
    let line : SaleLine := { article := 5, quantity := 1, amount := 1, version := 1, basis := 0 }
    let a : Sale := { till := 1, basket := 4294967295, day := 0, ms := 0, total := 0, lines := [line] }
    let b : Sale := { a with till := 64, lines := List.replicate 255 line }
    Memory.wf [] ∧ 1 ≤ a.till ∧ b.till ≤ 64 ∧ a.basket < 4294967296 ∧ 1 ≤ a.lines.length ∧ b.lines.length ≤ 255
      ∧ 114559 + unitsFor b.lines.length ≤ 114688 ∧ (4294967295 : Nat) < 4294967296
      ∧ (114687 : Nat) < 114688 := by decide +kernel

/-- HEAD_WRITE: a good record, a bad one, DELIVERY, the last place of record space, and the checks at their ends. -/
theorem witness_HeadWriteStarts :
    let s := stored ready 0x3FFC0 1 0x12 0 32
    s.Sound ∧ s.requests.runState = .running ∧ (s.chain .price).phase = .off ∧ s.recordFault 0x3FFC0 = .noFault
      ∧ s.recordFault 0x2FC0 = .badLink ∧ s.recordFault 0x3001 = .badLink
      ∧ (stored ready 0x3FFC0 1 0x12 0 33).recordFault 0x3FFC0 = .badLength
      ∧ (stored ready 0x3000 1 0x12 0 4065).recordFault 0x3000 = .badLength
      ∧ (stored ready 0x3000 2 0x12 0 4064).recordFault 0x3000 = .notNew
      ∧ ((chainAt ready .net .faulted 0x3001).chain .net).phase = .faulted
      ∧ ((chainAt ready .net .parked 0x3000).chain .net).phase = .parked := by decide +kernel

theorem witness_StopTable :
    ready.Sound ∧ ready.requests.runState = .running
      ∧ (chainAt ready .delivery .running 0x3000).Sound
      ∧ ((chainAt ready .delivery .running 0x3000).chain .delivery).phase = .running
      ∧ ((chainAt ready .delivery .running 0x3000).chain .delivery).inHand = none
      ∧ ((hand ready .net 0x33 []).chain .net).inHand.isSome = true
      ∧ (2 : Word) ≠ 1 ∧ State.reset.Sound ∧ State.reset.requests.runState = .stopped := by decide +kernel

/-- One chain parked at the last record, and a word nobody watches. -/
theorem witness_LinkWrites :
    let s := chainAt ready .price .parked 0x3FFC0
    s.Sound ∧ s.requests.runState = .running ∧ (0x3FFC0#18).toNat % 4 = 0 ∧ recordSpace ≤ (0x3FFC0#18).toNat
      ∧ (s.chain .price).phase = .parked ∧ (s.chain .price).current.toNat = (0x3FFC0#18).toNat
      ∧ (∀ d ∈ Chain.all, d ≠ .price → (s.chain d).phase ≠ .parked)
      ∧ goodOffset 0x3FFE0 = false ∧ goodOffset 0x3000 = true
      ∧ (∀ c ∈ Chain.all, (ready.chain c).phase ≠ .parked) ∧ recordSpace ≤ (0x3000#18).toNat := by decide +kernel

/-- A frame waiting and a BUFFER record of the shortest good length, the chain to park behind it. -/
theorem witness_DeliveryFills :
    let d : Delivery := { frame := frame64, ingress := .p4, reason := .toAppliance }
    let s := stored (chainAt (ready.setNet { ready.net with delivery := [d] }) .delivery .running 0x3000) 0x3000 1 0x51 1 8
    s.Sound ∧ s.net.delivery = [d] ∧ (s.chain .delivery).phase = .running ∧ (s.chain .delivery).stopping = false
      ∧ (s.chain .delivery).current.toNat = 0x3000 ∧ s.recordFault 0x3000 = .noFault ∧ s.recordByte 0x3000 5 = 0x51
      ∧ s.recordByte 0x3000 6 = 1 ∧ s.bodyLength 0x3000 = 8 ∧ s.storeWord 0x3000 = 0
      ∧ d.frame.toBytes.length < 65536 ∧ (∀ b ∈ s.link.table, b.waitingForBuffer = false)
      ∧ ready.net.delivery = [] ∧ ready.Settled := by decide +kernel

/-- The body of a SET_PORT_ROLES: P0 UPLINK, P1 TILL, P2 LABEL, P3 GUEST, P4 as given. -/
def rolesBody (last : Nat) : List Byte :=
  bs [1, 2, 3, 4, last, 0] ++ beBytes 6 0x020000000001 ++ beBytes 6 0x020000000002 ++ beBytes 6 0x020000000003
    ++ leBytes 2 0x9B20 ++ leBytes 2 0x9B21

/-- BUSY, a role code above 5, two uplinks, and a body in form. -/
theorem witness_PortRolesSet :
    let busy := inSession (hand ready .setup 0x01 (rolesBody 5)) .closing
    InHand busy .setup Kind.setPortRoles (held 0x01 (rolesBody 5)) ∧ busy.exchange.state ≠ .idle
      ∧ InHand (hand ready .setup 0x01 (rolesBody 6)) .setup Kind.setPortRoles (held 0x01 (rolesBody 6))
      ∧ (hand ready .setup 0x01 (rolesBody 6)).exchange.state = .idle ∧ roleSettingsOf (rolesBody 6) = none
      ∧ InHand (hand ready .setup 0x01 (rolesBody 1)) .setup Kind.setPortRoles (held 0x01 (rolesBody 1))
      ∧ (roleSettingsOf (rolesBody 1)).map RoleSettings.inForm = some false
      ∧ InHand (hand ready .setup 0x01 (rolesBody 5)) .setup Kind.setPortRoles (held 0x01 (rolesBody 5))
      ∧ (roleSettingsOf (rolesBody 5)).map RoleSettings.inForm = some true := by decide +kernel

theorem witness_SlotTablesSet :
    InHand (hand ready .setup 0x02 (bs (List.replicate 64 3))) .setup Kind.setSlotTables (held 0x02 (bs (List.replicate 64 3)))
      ∧ (∀ i, i < 64 → leField (bs (List.replicate 64 3)) i 1 ≤ 3)
      ∧ InHand (hand ready .setup 0x02 (bs (List.replicate 64 4))) .setup Kind.setSlotTables
          (held 0x02 (bs (List.replicate 64 4)))
      ∧ 3 < leField (bs (List.replicate 64 4)) 63 1 := by decide +kernel

/-- A body with every field 0, and one with every field at its largest. -/
def ends : List (List Byte) := [zeros 32, bs (List.replicate 32 255)]

theorem witness_PacerSet :
    ∀ b ∈ ends, InHand (hand ready .setup 0x03 b) .setup Kind.setPacer (held 0x03 b) := by decide +kernel

theorem witness_PercentagesAndPolicySet :
    ∀ b ∈ ends, InHand (hand ready .setup 0x0A b) .setup Kind.setPlausibility (held 0x0A b)
      ∧ InHand (hand ready .setup 0x04 b) .setup Kind.setGuestPolicy (held 0x04 b) := by decide +kernel

/-- S as it is, and S changed. -/
theorem witness_LabelParamsSet :
    ∀ b ∈ ends ++ [bs [4, 0, 0, 2]], InHand (hand ready .setup 0x05 b) .setup Kind.setLabelParams (held 0x05 b)
      ∧ ready.link.slots = 512 ∧ leField (bs [4, 0, 0, 2]) 2 2 = 512 := by decide +kernel

/-- MANUAL and SCHEDULED. -/
theorem witness_ClockSet :
    ∀ b ∈ ends, InHand (hand ready .setup 0x08 b) .setup Kind.setClock (held 0x08 b) ∧ ready.clock.mode = .manual
      ∧ InHand (hand (ready.setClock { ready.clock with mode := .scheduled 0 86399999 }) .setup 0x08 b) .setup Kind.setClock
          (held 0x08 b) := by decide +kernel

/-- The body of a LOAD_TEMPLATE of 22 bytes. -/
def templateBody (id colour : Nat) : List Byte := leBytes 2 id ++ bs [255, 0, colour, 0] ++ bs (List.replicate 16 40)

/-- A label bound to article 5 with template 3, its home not known. -/
def label9 : Label :=
  { id := 9, article := some 5, template := 3, home := none, lastHeard := 0, battery := 0, signal := 0, confirmed := none
    inFlight := none, attempts := 0, again := false, blankDue := false, staleReason := .noReason, phase := .queued }

/-- The part with label 9 in its directory, template 3 loaded and an item in its table. -/
def withLabel (l : Label) (i : Item) : State :=
  (ready.setLabels { ready.labels with directory := [(9, l)], templates := [(3, Template.blank), (4, Template.blank)] }).putItem i

/-- Article 5 with label 9 bound. -/
def item9 : Item := { each 100 none none with labels := [9] }

theorem witness_TemplateLoaded :
    let s := fun id colour => hand (withLabel label9 item9) .label 0x06 (templateBody id colour)
    InHand (s 256 0) .label Kind.loadTemplate (held 0x06 (templateBody 256 0)) ∧ 255 < leField (templateBody 256 0) 0 2
      ∧ InHand (s 3 2) .label Kind.loadTemplate (held 0x06 (templateBody 3 2)) ∧ 1 < leField (templateBody 3 2) 4 1
      ∧ InHand (s 3 1) .label Kind.loadTemplate (held 0x06 (templateBody 3 1))
      ∧ (∃ e ∈ (s 3 1).labels.directory, e.2.template = leField (templateBody 3 1) 0 2)
      ∧ InHand (s 255 1) .label Kind.loadTemplate (held 0x06 (templateBody 255 1))
      ∧ (∀ e ∈ (s 255 1).labels.directory, e.2.template ≠ leField (templateBody 255 1) 0 2)
      ∧ InHand (hand ready .setup 0x06 (templateBody 0 0)) .setup Kind.loadTemplate (held 0x06 (templateBody 0 0)) := by
  decide +kernel

theorem witness_ExchangeParamsSet :
    InHand (inSession (hand ready .setup 0x07 (zeros 44)) .opening) .setup Kind.setExchangeParams (held 0x07 (zeros 44))
      ∧ (inSession ready .opening).exchange.state ≠ .idle
      ∧ InHand (hand ready .setup 0x07 (zeros 44)) .setup Kind.setExchangeParams (held 0x07 (zeros 44))
      ∧ ready.exchange.state = .idle := by decide +kernel

/-- The body of a SET_PERIOD. -/
def periodBody (mode period o c : Nat) : List Byte := bs [mode, period, 0, 0] ++ leBytes 4 o ++ leBytes 4 c ++ zeros 4

theorem witness_PeriodSet :
    let s := fun b => hand ready .setup 0x09 b
    let t := fun b => hand (ready.setClock { ready.clock with base := some { day := 0, ms := 0, count := 0 } }) .setup 0x09 b
    InHand (s (periodBody 0 1 0 0)) .setup Kind.setPeriod (held 0x09 (periodBody 0 1 0 0))
      ∧ leField (periodBody 0 1 0 0) 0 1 = 0 ∧ leField (periodBody 0 1 0 0) 1 1 ≤ 1
      ∧ InHand (s (periodBody 2 0 0 0)) .setup Kind.setPeriod (held 0x09 (periodBody 2 0 0 0))
      ∧ leField (periodBody 2 0 0 0) 0 1 ≠ 1 ∧ leField (periodBody 2 0 0 0) 0 1 ≠ 0
      ∧ 1 < leField (periodBody 0 2 0 0) 1 1
      ∧ InHand (s (periodBody 1 0 0 1)) .setup Kind.setPeriod (held 0x09 (periodBody 1 0 0 1))
      ∧ leField (periodBody 1 0 0 1) 0 1 = 1 ∧ (s []).clock.base = none
      ∧ InHand (t (periodBody 1 0 86400000 86399999)) .setup Kind.setPeriod (held 0x09 (periodBody 1 0 86400000 86399999))
      ∧ min 86399999 (leField (periodBody 1 0 86400000 86399999) 4 4)
          = min 86399999 (leField (periodBody 1 0 86400000 86399999) 8 4)
      ∧ InHand (t (periodBody 1 0 0 86399999)) .setup Kind.setPeriod (held 0x09 (periodBody 1 0 0 86399999))
      ∧ (t []).clock.base = some { day := 0, ms := 0, count := 0 }
      ∧ min 86399999 (leField (periodBody 1 0 0 86399999) 4 4)
          ≠ min 86399999 (leField (periodBody 1 0 0 86399999) 8 4) := by decide +kernel

end Sys2Proof.Tests
end

