-- ==== Sys2Proof/Tests/Witness1.lean ====
section
/-! SUPPORT. Tests/Witness1.lean: states and operands that meet the hypotheses of the statements about prices, labels, the
NET and EXCHANGE requests and frames from the network. -/

namespace Sys2Proof.Tests

set_option Elab.async false

open Sys2Proof Sys2Proof.Machine

set_option synthInstance.maxSize 4096

/-! ### Price arithmetic and items -/

theorem witness_LineAmounts :
    (⟨1, 120, some ⟨3, 300⟩⟩ : Version).promo = some ⟨3, 300⟩ ∧ promoValid .each 120 ⟨3, 300⟩ = true ∧ (3 : Nat) ≤ 3
      ∧ (each 120 none none).pending = none
      ∧ (each 120 none (some ⟨2, 0, none⟩)).pending = some ⟨2, 0, none⟩
      ∧ validAmount .each ⟨1, 120, none⟩ 999 = some 119880 ∧ validAmount .each ⟨2, 0, none⟩ 999 = some 0
      ∧ validAmount .each ⟨1, 9999999, none⟩ 11 = none := by decide

theorem witness_UnitPromoWindow :
    (weighed 9999999).saleKind = .weighed ∧ (9999999 : Nat) ≤ 9999999 ∧ (each 0 none none).saleKind = .each
      ∧ 1 ≤ (each 0 none none).packQty ∧ (PriceEngine.mk [] 100 0).down ≤ 100 ∧ (0 : Nat) ≤ 1 ∧ (1 : Nat) < 2 := by
  decide

/-- The bytes of one item entry: article, text length, sale kind, measure, RQ, PQ, base, T, N. -/
def entryBytes (article length kind measure rq pq base t n : Nat) : List Byte :=
  leBytes 8 article ++ leBytes 1 length ++ bs (List.replicate 24 65) ++ bs [kind, measure, 0] ++ leBytes 2 rq ++ leBytes 4 pq
    ++ leBytes 4 base ++ leBytes 4 t ++ leBytes 1 n ++ zeros 1

/-- A LOAD_ITEMS body of one entry, its count as given. -/
def loadBody (n : Nat) (e : List Byte) : List Byte := leBytes 1 n ++ zeros 3 ++ e

/-- An entry at the top of every range. -/
def topEntry : List Byte := entryBytes 99999999999999 24 0 2 1000 100000 9999999 9999999 99

/-- The results an entry's check gives, as the codes they carry. -/
def checkCode (b : List Byte) : Nat :=
  match (itemEntryOf b).check 0 with
  | .ok _ => 0
  | .error c => c.number

/-- The count 0, 33 and 2 with a body for one; one entry refused for its form, for its promotion, one there already, and
one taken. -/
theorem witness_ItemsLoaded :
    let s := fun b => hand (ready.putItem (each 100 none none)) .price 0x11 b
    InHand (s (loadBody 0 topEntry)) .price Kind.loadItems (held 0x11 (loadBody 0 topEntry))
      ∧ leField (loadBody 0 topEntry) 0 1 = 0 ∧ leField (loadBody 33 topEntry) 0 1 = 33
      ∧ (loadBody 2 topEntry).length < 4 + 52 * 2
      ∧ InHand (s (loadBody 1 topEntry)) .price Kind.loadItems (held 0x11 (loadBody 1 topEntry))
      ∧ (s (loadBody 1 topEntry)).TablesBounded ∧ leField (loadBody 1 topEntry) 0 1 = 1
      ∧ 56 ≤ (loadBody 1 topEntry).length
      ∧ checkCode topEntry = 0 ∧ checkCode (entryBytes 100000000000000 1 0 2 1 1 0 0 0) = 3
      ∧ checkCode (entryBytes 1 0 0 2 1 1 0 0 0) = 3 ∧ checkCode (entryBytes 1 1 1 2 1 1 0 0 0) = 3
      ∧ checkCode (entryBytes 1 1 0 2 1 1 100 200 2) = 11 ∧ checkCode (entryBytes 5 1 0 2 1 1 100 0 0) = 0
      ∧ (s []).item 5 ≠ none ∧ (s []).item 99999999999999 = none ∧ (s []).price.items.length + 1 ≤ 65536 := by
  decide +kernel

/-- A CHANGE_PRICE body. -/
def changeBody (article base t n flag : Nat) : List Byte :=
  leBytes 8 article ++ leBytes 4 base ++ leBytes 4 t ++ bs [n, flag] ++ zeros 10

/-- Article 5 at 100, the part with it in its table. -/
def priced (i : Item) : State := ready.putItem i

/-- The bodies a change is tried with, in the order of the clauses. -/
def changes : List (List Byte) :=
  [changeBody 5 100 0 0 2, changeBody 6 100 0 0 0, changeBody 5 10000000 0 0 0, changeBody 5 100 200 2 0,
   changeBody 5 100 0 0 0, changeBody 5 49 0 0 0, changeBody 5 50 0 0 0, changeBody 5 49 0 0 1]

/-- Every clause: an unknown flag, no article, a base too high, a promotion that saves nothing, the same price, outside the
window and at its edge, with a pending version, without labels, with labels QUEUED, IDLE and STALE. -/
theorem witness_PriceChanged :
    (∀ b ∈ changes, InHand (hand (priced (each 100 none none)) .price 0x12 b) .price Kind.changePrice (held 0x12 b)
        ∧ (hand (priced (each 100 none none)) .price 0x12 b).TablesBounded)
      ∧ (priced (each 100 none none)).item 6 = none ∧ (priced (each 100 none none)).item 5 = some (each 100 none none)
      ∧ promoPasses .each 100 (some ⟨2, 200⟩) = false ∧ promoPasses .each 100 none = true
      ∧ insideWindow ready.price 100 49 = false ∧ insideWindow ready.price 100 50 = true
      ∧ (each 100 none (some ⟨2, 90, none⟩)).pending ≠ none ∧ (each 100 none none).labels = []
      ∧ (withLabel label9 item9).TablesBounded ∧ item9.labels = [9] ∧ (withLabel label9 item9).label 9 = some label9
      ∧ ((withLabel { label9 with phase := .idle } item9).label 9).map Label.phase = some .idle
      ∧ ((withLabel { label9 with phase := .stale } item9).label 9).map Label.phase = some .stale
      ∧ label9.home = none := by decide +kernel

/-- A campaign finds every label QUEUED or SENT. -/
theorem witness_LabelsBusy : (withLabel label9 item9).LabelsBusy item9 := by
  intro id h
  have h9 : id = 9 := by simpa [item9] using h
  subst h9
  exact ⟨label9, by decide +kernel, Or.inl rfl⟩

/-- A waiting change, queried or not. -/
def waitingItem (queried : Bool) (pending : Option Version) : Item :=
  { each 100 none pending with waiting := some { base := 10, promo := none, queried := queried } }

theorem witness_WaitingDecided :
    let b := leBytes 8 5 ++ zeros 8
    let s := fun i k => hand (priced i) .price k b
    InHand (s (waitingItem false none) 0x13) .price Kind.confirmChange (held 0x13 b)
      ∧ (s (waitingItem false none) 0x13).TablesBounded
      ∧ (s (waitingItem false none) 0x13).item 5 = some (waitingItem false none)
      ∧ InHand (s (waitingItem true none) 0x13) .price Kind.confirmChange (held 0x13 b)
      ∧ (s (waitingItem true none) 0x13).item 5 = some (waitingItem true none)
      ∧ (waitingItem true none).pending = none ∧ (waitingItem true none).labels = []
      ∧ (waitingItem true (some ⟨2, 90, none⟩)).pending ≠ none
      ∧ InHand (s (waitingItem true none) 0x14) .price Kind.rejectChange (held 0x14 b)
      ∧ (s (waitingItem true none) 0x14).TablesBounded := by decide +kernel

/-- A SET_TEXT body. -/
def textBody (article n : Nat) (c : Nat) : List Byte :=
  leBytes 8 article ++ leBytes 1 n ++ bs (List.replicate 24 c) ++ zeros 3

theorem witness_TextSetItemRemoved :
    (∀ b ∈ [textBody 6 1 77, textBody 5 0 77, textBody 5 25 77, textBody 5 1 77, textBody 5 24 78],
        InHand (hand (withLabel label9 item9) .price 0x15 b) .price Kind.setText (held 0x15 b)
        ∧ (hand (withLabel label9 item9) .price 0x15 b).TablesBounded)
      ∧ (withLabel label9 item9).item 6 = none ∧ (withLabel label9 item9).item 5 = some item9
      ∧ ((textBody 5 1 77).drop 9 |>.take 24).take 1 = item9.text ∧ ((textBody 5 24 78).drop 9 |>.take 24).take 24 ≠ item9.text
      ∧ (withLabel label9 item9).label 9 = some label9 ∧ label9.phase = .queued
      ∧ InHand (hand (withLabel label9 item9) .price 0x16 (leBytes 8 5)) .price Kind.removeItem (held 0x16 (leBytes 8 5))
      ∧ item9.labels ≠ []
      ∧ InHand (hand (priced (each 100 none none)) .price 0x16 (leBytes 8 5)) .price Kind.removeItem
          (held 0x16 (leBytes 8 5)) := by decide +kernel

theorem witness_ImagesRead :
    let s := withLabel label9 item9
    (∀ n ∈ [123, 124], InHand (hand s .price 0x17 (leBytes 8 5 ++ zeros n)) .price Kind.readItem
        (held 0x17 (leBytes 8 5 ++ zeros n)))
      ∧ s.item 5 = some item9 ∧ s.item 0 = none ∧ item9.text.length ≤ 24 ∧ item9.textRevision < 65536
      ∧ item9.origin < 4294967296 ∧ item9.current.number < 4294967296 ∧ item9.labels[0]? = some 9
      ∧ (each 1 none (some ⟨2, 90, none⟩)).pending = some ⟨2, 90, none⟩
      ∧ (∀ n ∈ [51, 52], InHand (hand s .label 0x25 (leBytes 4 9 ++ zeros n)) .label Kind.readLabel
        (held 0x25 (leBytes 4 9 ++ zeros n)))
      ∧ s.label 9 = some label9 ∧ s.label 0 = none ∧ label9.lastHeard < 18446744073709551616
      ∧ (∀ n ∈ [35, 36], InHand (hand s .exchange 0x43 (zeros n)) .exchange Kind.readJournalState (held 0x43 (zeros n)))
      ∧ s.journal.acked < 4294967295 ∧ s.journal.used < 4294967296
      ∧ (∀ b ∈ [bs [2] ++ zeros 143, bs [1] ++ zeros 142, bs [1] ++ zeros 143, zeros 144],
        InHand (hand s .net 0x34 b) .net Kind.readCounts (held 0x34 b))
      ∧ InHand (hand s .net 0x35 (zeros 4)) .net Kind.flushStations (held 0x35 (zeros 4)) := by decide +kernel

/-! ### Labels -/

/-- A BIND_LABEL body. -/
def bindBody (id template article : Nat) : List Byte := leBytes 4 id ++ leBytes 2 template ++ zeros 2 ++ leBytes 8 article

/-- Article 5 with eight labels on its list, none of them in the directory. -/
def fullItem : Item := { each 100 none none with labels := [1, 2, 3, 4, 5, 6, 7, 8] }

theorem witness_LabelBound :
    (∀ b ∈ [bindBody 0 3 5, bindBody 9 3 5, bindBody 10 5 5, bindBody 10 3 5],
        InHand (hand (withLabel label9 item9) .label 0x21 b) .label Kind.bindLabel (held 0x21 b)
        ∧ (hand (withLabel label9 item9) .label 0x21 b).TablesBounded)
      ∧ (withLabel label9 item9).label 9 = some label9 ∧ (withLabel label9 item9).label 10 = none
      ∧ (withLabel label9 item9).item 5 = some item9 ∧ (withLabel label9 item9).labels.templates.find 5 = none
      ∧ (withLabel label9 item9).labels.templates.find 3 ≠ none
      ∧ (withLabel label9 item9).labels.directory.length < 32768 ∧ item9.labels.length < 8 ∧ 10 ∉ item9.labels
      ∧ (withLabel label9 fullItem).item 5 = some fullItem ∧ 8 ≤ fullItem.labels.length ∧ (withLabel label9 fullItem).label 1 = none
      ∧ (withLabel label9 fullItem).TablesBounded
      ∧ (withLabel label9 { item9 with labels := [10] }).label 10 = none ∧ (10 : Nat) ∈ [10] := by decide +kernel

/-- A base station that holds label 9's home, LOST or ACTIVE. -/
def station7 (p : StationPhase) : BaseStation :=
  { id := 7, address := 0x0200000000D0, port := .p2, bootCount := 1, credit := 4, zone := 0, phase := p, lastHeard := 0
    inFlight := [], ready := [], waitingForBuffer := false }

/-- The same state with a base station in its table. -/
def withStation (s : State) (b : BaseStation) : State := s.setLink { s.link with table := [b] }

theorem witness_LabelTurned :
    let t := fun l i c k b => hand (withLabel l i) c k b
    let b4 := leBytes 4 9
    let sent := { label9 with phase := .sent }
    let home := withStation (withLabel { label9 with home := some 7 } item9) (station7 .lost)
    let last := { each 100 none (some ⟨2, 90, none⟩) with labels := [9], outstanding := 1 }
    InHand (t label9 item9 .label 0x22 (leBytes 4 8)) .label Kind.unbindLabel (held 0x22 (leBytes 4 8))
      ∧ (withLabel label9 item9).label 8 = none ∧ (withLabel label9 item9).TablesBounded
      ∧ InHand (t label9 item9 .label 0x22 b4) .label Kind.unbindLabel (held 0x22 b4)
      ∧ (withLabel { label9 with phase := .unbinding } item9).label 9 = some { label9 with phase := .unbinding }
      ∧ (withLabel label9 item9).label 9 = some label9 ∧ label9.phase ≠ .unbinding ∧ label9.article = some 5
      ∧ (withLabel label9 item9).item 5 = some item9 ∧ 9 ∈ item9.labels ∧ item9.pending = none ∧ label9.home = none
      ∧ (withLabel sent item9).label 9 = some sent ∧ sent.phase = .sent
      ∧ InHand (hand home .label 0x22 b4) .label Kind.unbindLabel (held 0x22 b4) ∧ home.TablesBounded
      ∧ home.label 9 = some { label9 with home := some 7 } ∧ home.station 7 = some (station7 .lost)
      ∧ (∀ x ∈ home.link.table, x.id = 7 → x = station7 .lost)
      ∧ (withLabel label9 last).item 5 = some last ∧ last.outstanding = 1 ∧ last.waiting = none ∧ label9.confirmed = none
      ∧ (withLabel label9 last).TablesBounded
      ∧ (∀ n ∈ [3, 4, 5], InHand (t label9 item9 .label 0x23 (b4 ++ leBytes 2 n ++ zeros 2)) .label Kind.setLabelTemplate
          (held 0x23 (b4 ++ leBytes 2 n ++ zeros 2)))
      ∧ (withLabel label9 item9).labels.templates.find 4 ≠ none ∧ (withLabel label9 item9).labels.templates.find 5 = none
      ∧ (withLabel { label9 with phase := .idle } item9).label 9 = some { label9 with phase := .idle }
      ∧ InHand (t { label9 with phase := .stale } item9 .label 0x24 b4) .label Kind.retryLabel (held 0x24 b4)
      ∧ (withLabel { label9 with phase := .stale } item9).label 9 = some { label9 with phase := .stale } := by decide +kernel

end Sys2Proof.Tests
end

