-- ==== Sys2Proof/Tests/Witness2.lean ====
section
/-! SUPPORT. Tests/Witness2.lean: states and operands that meet the hypotheses of the statements about the NET and EXCHANGE
requests, frames, tills, the journal and base stations. -/

namespace Sys2Proof.Tests

set_option Elab.async false

open Sys2Proof Sys2Proof.Machine

set_option synthInstance.maxSize 4096

/-- A port with a role, its link as given. -/
def portOf (r : Option Role) (up : Bool) : PortState := { PortState.reset with role := r, linkUp := up }

/-- P0 UPLINK, P1 TILL, P2 LABEL, P3 GUEST, P4 OFFICE, every link up or down, one buffer free or more. -/
def network (up : Bool) (free : Nat) : State :=
  ready.setNet { ready.net with
    ports := ⟨portOf (some .uplink) up, portOf (some .till) up, portOf (some .label) up, portOf (some .guest) up,
      portOf (some .office) up⟩
    appliance := 0x020000000001, controller := 0x020000000002, gateway := 0x020000000003, freeBuffers := free }

/-- A SEND_FRAME body: egress, port, length, then the frame's destination and zeros. -/
def sendBody (egress port n : Nat) (dest : Nat) (room : Nat) : List Byte :=
  bs [egress, port] ++ leBytes 2 n ++ zeros 4 ++ (beBytes 6 dest ++ zeros (room - 6))

/-- A station unknown, and one known. -/
def stranger : Nat := 0x0200000000A0

/-- The network with one station learned on the OFFICE port, or with a guest session on the GUEST port. -/
def knows (s : State) : State := s.setStations [(stranger, { port := .p4, lastSeen := 0 })]

/-- A guest session on P3. -/
def guest (phase : GuestPhase) (used budget : Nat) : GuestSession :=
  { port := .p3, phase := phase, lapse := .noLapse, budget := budget, used := used, timeLimit := 60, admittedAt := 0
    lastSeen := 0 }

/-- A state with one guest session, the period OPEN. -/
def hosting (s : State) (g : GuestSession) : State :=
  (s.setGuests { s.guests with sessions := [(stranger, g)] }).setClock { s.clock with period := .opened }

theorem witness_FrameSent :
    (∀ b ∈ [sendBody 2 0 64 stranger 64, sendBody 0 5 64 stranger 64, sendBody 0 4 63 stranger 64,
        sendBody 0 4 1519 stranger 1519, sendBody 0 4 64 stranger 63, sendBody 0 4 64 stranger 64,
        sendBody 0 0 1518 stranger 1518, sendBody 1 0 64 stranger 64, sendBody 1 0 64 0x020000000001 64,
        sendBody 1 0 64 0x020000000003 64, sendBody 1 0 64 0xFFFFFFFFFFFF 64],
        InHand (hand (network true 5) .net 0x31 b) .net Kind.sendFrame (held 0x31 b))
      ∧ (ready.port .p4).role = none ∧ ((network true 1).port .p4).role ≠ none
      ∧ ((network true 1).port .p4).role ≠ some .uplink ∧ (network true 1).net.uplink = some .p0
      ∧ ((network true 1).port .p0).linkUp = true ∧ ((network false 1).port .p0).linkUp = false
      ∧ (network true 1).net.classes.store.length < (network true 1).net.classCaps.store
      ∧ (network true 0).net.freeBuffers = 0
      ∧ (Frame.ofBytes (((sendBody 1 0 64 stranger 64).drop 8).take 64)).dest.toNat = stranger
      ∧ (network true 1).session (BitVec.ofNat 48 stranger) = none
      ∧ (network true 1).stationRecord (BitVec.ofNat 48 stranger) = none
      ∧ (knows (network true 1)).stationRecord (BitVec.ofNat 48 stranger) = some { port := .p4, lastSeen := 0 }
      ∧ (hosting (network true 1) (guest .held 0 0)).session (BitVec.ofNat 48 stranger) = some (guest .held 0 0)
      ∧ ((network true 1).port .p3).role = some .guest ∧ isGroup 0xFFFFFFFFFFFF = true
      ∧ (∀ p ∈ Port.all, ((network true 5).port p).role = some .uplink → p = .p0)
      ∧ (∀ p ∈ Port.all, ((network true 5).port p).lan.length < ((network true 5).port p).lanCap) := by decide +kernel

/-- An ADMIT_GUEST body. -/
def admitBody (address given budget limit : Nat) : List Byte :=
  beBytes 6 address ++ bs [given, 0] ++ leBytes 4 budget ++ leBytes 4 limit ++ zeros 12

theorem witness_GuestAdmitted :
    let s := fun g b => hand (hosting ready g) .net 0x32 b
    (∀ b ∈ [admitBody 0xFFFFFFFFFFFF 0 0 0, admitBody stranger 1 1048575 0, admitBody stranger 2 0 59,
        admitBody stranger 2 0 86401, admitBody stranger 3 1048576 60, admitBody stranger 3 4294967295 86400,
        admitBody stranger 0 0 0, admitBody 0x0200000000A1 0 0 0],
        InHand (s (guest .held 0 0) b) .net Kind.admitGuest (held 0x32 b)
        ∧ InHand (hand ready .net 0x32 b) .net Kind.admitGuest (held 0x32 b))
      ∧ ready.clock.period = .closed ∧ (hosting ready (guest .held 0 0)).clock.period = .opened
      ∧ (hosting ready (guest .held 0 0)).session 0x0200000000A1 = none
      ∧ (hosting ready (guest .lapsed 9 0)).session (BitVec.ofNat 48 stranger) = some (guest .lapsed 9 0)
      ∧ (hosting ready (guest .admitted 1048576 2000000)).session (BitVec.ofNat 48 stranger)
          = some (guest .admitted 1048576 2000000)
      ∧ (1048576 : Nat) ≤ 1048576 ∧ (1048576 : Nat) < 1048577
      ∧ InHand (hand (hosting ready (guest .admitted 1 9)) .net 0x33 (beBytes 6 stranger ++ zeros 10)) .net Kind.revokeGuest
          (held 0x33 (beBytes 6 stranger ++ zeros 10))
      ∧ InHand (hand (hosting ready (guest .held 1 9)) .net 0x33 (beBytes 6 0xFFFFFFFFFFFF ++ zeros 10)) .net Kind.revokeGuest
          (held 0x33 (beBytes 6 0xFFFFFFFFFFFF ++ zeros 10)) := by decide +kernel

theorem witness_SessionStarted :
    let ok := ready.setExchange { ready.exchange with paramsSet := true }
    let up := ready.setExchange { ready.exchange with paramsSet := true, uplinkUp := true }
    (∀ n ∈ [59, 60, 14400, 14401], InHand (hand ready .exchange 0x41 (leBytes 4 n)) .exchange Kind.startExchange
        (held 0x41 (leBytes 4 n)) ∧ InHand (hand up .exchange 0x41 (leBytes 4 n)) .exchange Kind.startExchange
        (held 0x41 (leBytes 4 n)))
      ∧ ready.exchange.paramsSet = false ∧ ok.exchange.state = .idle ∧ ok.exchange.uplinkUp = false
      ∧ up.exchange.uplinkUp = true ∧ (inSession up .download).exchange.state ≠ .idle
      ∧ InHand (hand ready .exchange 0x42 []) .exchange Kind.abortExchange (held 0x42 [])
      ∧ InHand (hand (inSession up .upload) .exchange 0x42 []) .exchange Kind.abortExchange (held 0x42 []) := by
  decide +kernel

/-! ### Frames -/

/-- The bytes of a frame: destination, source, EtherType, first payload bytes, padded to a length. -/
def wire (dest source type : Nat) (first : List Byte) (n : Nat) : List Byte :=
  beBytes 6 dest ++ beBytes 6 source ++ beBytes 2 type ++ first ++ zeros (n - 14 - first.length)

theorem witness_FramesReceived :
    let s := network true 1
    let f := fun d ty first n => wire d stranger ty first n
    s.Sound ∧ State.reset.requests.runState = .stopped ∧ s.requests.runState = .running ∧ (ready.port .p1).role = none
      ∧ (s.port .p1).role = some .till
      ∧ (f 1 0x0800 [] 63).length = 63 ∧ (f 1 0x0800 [] 1519).length = 1519
      ∧ (Frame.ofBytes (f 1 0x8808 [] 64)).etherType = 0x8808
      ∧ (Frame.ofBytes (f 0x020000000002 0x9B20 [] 64)).dest = s.net.controller
      ∧ (Frame.ofBytes (f 0x020000000002 0x9B20 [] 64)).etherType = s.net.tillType
      ∧ TillMessage.parse (Frame.ofBytes (f 0x020000000002 0x9B20 (bs [1, 12]) 64)).payload = some .signOn
      ∧ TillMessage.parse (Frame.ofBytes (f 0x020000000002 0x9B20 (bs [2, 12]) 64)).payload = none
      ∧ (Frame.ofBytes (f 0x020000000002 0x9B21 [] 64)).etherType = s.net.labelType ∧ s.net.labelType ≠ s.net.tillType
      ∧ LabelMessage.parse (Frame.ofBytes (f 0x020000000002 0x9B21 (bs [1, 0, 7, 0, 1, 64, 0, 0]) 64)).payload
          = some (7, .hello 1 64 0)
      ∧ LabelMessage.parse (Frame.ofBytes (f 0x020000000002 0x9B21 (bs [1, 0, 7, 0, 1, 65, 0, 0]) 64)).payload = none
      ∧ (Frame.ofBytes (f 0x020000000003 0x0800 [] 1518)).dest = s.net.gateway ∧ s.net.gateway ≠ s.net.controller
      ∧ s.net.uplink = some .p0 ∧ (s.port .p0).linkUp = true ∧ 0 < s.net.freeBuffers
      ∧ s.net.classes.payment.length < s.net.classCaps.payment
      ∧ (Frame.ofBytes (f 0x020000000001 0x86DD [] 64)).dest = s.net.appliance
      ∧ s.stationRecord 0x020000000001 = none ∧ isGroup 0x020000000001 = false
      ∧ ((chainAt s .delivery .running 0x3000).chain .delivery).phase = .running
      ∧ (s.chain .delivery).phase ≠ .running ∧ s.net.delivery.length < 64
      ∧ s.session 0x0200000000A1 = none ∧ s.stationRecord 0x0200000000A1 = none
      ∧ (knows s).stationRecord (BitVec.ofNat 48 stranger) = some { port := .p4, lastSeen := 0 }
      ∧ (Frame.ofBytes (wire stranger 0x0200000000A1 0x0800 [] 64)).source
          ≠ (Frame.ofBytes (wire stranger 0x0200000000A1 0x0800 [] 64)).dest
      ∧ roleAllows .till (some .office) = true ∧ roleAllows .guest (some .office) = false
      ∧ (knows s).JoinsLan .p4 ∧ ¬ (knows (network false 1)).JoinsLan .p4 ∧ (knows s).Sound := by decide +kernel

theorem witness_GuestFrames :
    let s := network true 1
    let f := Frame.ofBytes (wire 0x020000000003 stranger 0x0800 [] 64)
    s.Sound ∧ s.requests.runState = .running ∧ (s.port .p3).role = some .guest
      ∧ (wire 0x020000000003 stranger 0x0800 [] 64).length = 64 ∧ f.etherType ≠ 0x8808 ∧ s.clock.period = .closed
      ∧ (hosting s (guest .held 0 0)).clock.period = .opened ∧ (hosting s (guest .held 0 0)).Sound
      ∧ isGroup f.source = false ∧ f.source ≠ s.net.controller ∧ f.source ≠ s.net.appliance ∧ f.dest = s.net.gateway
      ∧ f.dest ≠ s.net.controller ∧ s.net.uplink = some .p0 ∧ (s.port .p0).linkUp = true
      ∧ s.net.classes.guest.length < s.net.classCaps.guest ∧ s.session f.source = none
      ∧ s.guests.sessions.length < 512
      ∧ (hosting s (guest .held 0 0)).session f.source = some (guest .held 0 0)
      ∧ (hosting s (guest .admitted 1 65)).session f.source = some (guest .admitted 1 65) ∧ 1 + f.length ≤ 65
      ∧ (hosting s (guest .admitted 1 64)).session f.source = some (guest .admitted 1 64) ∧ 64 < 1 + f.length := by
  decide +kernel

/-! ### Tills and the journal -/

/-- A till frame of till id and message, from one station. -/
def tillFrame (id : Nat) (m : TillMessage) : TillFrame :=
  { port := .p1, source := 0x0200000000AA, till := id, message := m }

/-- The part with a message at the front of the till inbox and till 12 in an entry. -/
def tilled (e : TillEntry) (f : TillFrame) : State :=
  (ready.putTill 12 e).setTills { (ready.putTill 12 e).tills with inbox := [f] }

/-- Till 12 bound to a station. -/
def bound (station : MacAddr) : TillEntry :=
  { TillEntry.reset with phase := .signedOn, station := some station, port := some .p1 }

theorem witness_TillSigns :
    (∀ m ∈ [TillMessage.signOn, .signOff], ∀ id ∈ [0, 1, 12, 64, 65],
        (tilled TillEntry.reset (tillFrame id m)).Sound
        ∧ (tilled TillEntry.reset (tillFrame id m)).tills.inbox = [tillFrame id m])
      ∧ (tilled TillEntry.reset (tillFrame 12 .signOn)).till 12 = some TillEntry.reset ∧ TillEntry.reset.phase ≠ .signedOn
      ∧ (tilled (bound 0x0200000000AA) (tillFrame 12 .signOn)).till 12 = some (bound 0x0200000000AA)
      ∧ (tilled (bound 0x0200000000BB) (tillFrame 12 .signOn)).till 12 = some (bound 0x0200000000BB)
      ∧ (bound 0x0200000000BB).station ≠ some 0x0200000000AA ∧ (bound 0x0200000000AA).station = some 0x0200000000AA
      ∧ ready.till 65 = none ∧ ready.now < (bound 1).lastHeard + 900000
      ∧ (bound 1).lastHeard + 900000
          ≤ (ready.setClock { ready.clock with count := 900000 }).now := by decide +kernel

theorem witness_QuoteAnswered :
    let ask := fun q => tillFrame 12 (.quoteAsk 7 5 q)
    let s := fun i q => (tilled (bound 0x0200000000AA) (ask q)).putItem i
    let two := each 9999999 none (some ⟨2, 8000000, none⟩)
    (∀ q ∈ [0, 1, 999, 1000], (s two q).Sound ∧ (s two q).tills.inbox = [ask q]
        ∧ (s two q).till 12 = some (bound 0x0200000000AA) ∧ (s two q).item 5 = some two)
      ∧ (tilled TillEntry.reset (ask 1)).Sound ∧ (tilled TillEntry.reset (ask 1)).item 5 = none
      ∧ (tilled (bound 0x0200000000AA) (ask 1)).item 5 = none
      ∧ two.saleKind = .each ∧ (weighed 1).saleKind ≠ .each ∧ lowerOfTwo two 13 = none
      ∧ lowerOfTwo two 11 = some (88000000, .pending) ∧ lowerOfTwo (each 1 none none) 999 = some (999, .current) := by
  decide +kernel

/-- A sale line in form, and a SALE_PUT of it. -/
def line : SaleLine := { article := 99999999999999, quantity := 99999, amount := 99999999, version := 1, basis := 1 }
def put (basket ms n : Nat) : TillFrame := tillFrame 12 (.salePut basket 0 ms 1 n [line])

theorem witness_SaleTaken :
    let ctx : SaleContext := { basket := 1, station := 0x0200000000AA, port := .p1 }
    let e := bound 0x0200000000AA
    let marked := (tilled e (put 1 0 1)).setBacked ((markWrite 12 1 9).apply [])
    saleInForm 1 86399999 1 [line] = true ∧ saleInForm 1 86400000 1 [line] = false ∧ saleInForm 0 0 1 [line] = false
      ∧ saleInForm 1 0 2 [line] = false
      ∧ (tilled e (put 1 0 1)).Sound ∧ (tilled e (put 1 0 1)).tills.inbox = [put 1 0 1]
      ∧ (tilled TillEntry.reset (put 1 0 1)).till 12 = some TillEntry.reset
      ∧ (tilled { e with inFlight := some ctx } (put 1 0 1)).till 12 = some { e with inFlight := some ctx }
      ∧ ctx.basket = 1 ∧ ctx.basket ≠ 2 ∧ e.inFlight = none
      ∧ marked.Sound ∧ (marked.mark 12).1 = 1 ∧ ((tilled e (put 1 0 1)).mark 12).1 = 0 ∧ (0 : Nat) < 1
      ∧ (tilled e (put 1 0 1)).journal.append = none := by decide +kernel

/-- A sale of till 12, its append waiting or started, the till's context kept. -/
def appending (started : Bool) (reserved used next : Nat) : State :=
  let sale : Sale := { till := 12, basket := 1, day := 0, ms := 0, total := 1, lines := [line] }
  let e := { bound 0x0200000000AA with
    inFlight := some { basket := 1, station := 0x0200000000AA, port := .p1 } }
  (tilled e (put 1 0 1)).setJournal { ready.journal with
    append := some { sale := sale, started := started, reserved := reserved }, used := used, next := next }

theorem witness_AppendsRun :
    (appending false 0 114687 1).Sound ∧ (appending false 0 114687 1).journal.freeUnits < 1 + (1 + 1) / 2
      ∧ (appending false 0 0 4294967295).journal.next = 4294967295
      ∧ 1 + (1 + 1) / 2 ≤ (appending false 0 114686 1).journal.freeUnits
      ∧ (appending false 0 114686 1).journal.next ≠ 4294967295
      ∧ ((appending false 0 0 1).till 12).map (fun e => e.inFlight.isSome) = some true
      ∧ (appending true 2 0 4294967294).Sound ∧ (appending true 2 0 4294967294).journal.next < 4294967295
      ∧ (appending true 2 0 4294967294).journal.head < 114688
      ∧ (appending true 2 0 4294967294).journal.acked < (appending true 2 0 4294967294).journal.next
      ∧ (appending true 2 0 1).exchange.state ≠ .upload ∧ ready.journal.append = none := by decide +kernel

end Sys2Proof.Tests
end

