-- ==== Sys2Proof/Tests/Witness3.lean ====
section
/-! SUPPORT. Tests/Witness3.lean: states and operands that meet the hypotheses of the statements about base stations, the
nightly exchange, transmission, links, time and what every step keeps. -/

namespace Sys2Proof.Tests

set_option Elab.async false

open Sys2Proof Sys2Proof.Machine

set_option synthInstance.maxSize 4096

/-! ### Base stations -/

/-- A message at the front of the label inbox, from station 7's address or another. -/
def heardOf (s : State) (source : MacAddr) (m : LabelMessage) : State :=
  s.setLink { s.link with inbox := [{ port := .p2, source := source, station := 7, message := m }] }

theorem witness_StationHello :
    let m := LabelMessage.hello 1 64 0
    let s := heardOf ready 0x0200000000D0 m
    let full := s.setLink { s.link with table := List.replicate 32 { station7 .active with id := 8 } }
    let a := heardOf (withStation ready (station7 .active)) 0x0200000000D0 m
    let l := heardOf (withStation ready (station7 .lost)) 0x0200000000D0 m
    s.Sound ∧ s.station 7 = none ∧ s.link.table.length < 32 ∧ full.Sound ∧ full.station 7 = none
      ∧ 32 ≤ full.link.table.length ∧ a.Sound ∧ a.station 7 = some (station7 .active)
      ∧ (∀ x ∈ a.link.table, x.id = 7 → x = station7 .active) ∧ (station7 .active).address = 0x0200000000D0
      ∧ (station7 .active).address ≠ 0x0200000000D1 ∧ (station7 .active).bootCount = 1 ∧ (station7 .active).bootCount ≠ 2
      ∧ (station7 .active).inFlight = [] ∧ (station7 .active).ready = [] ∧ l.station 7 = some (station7 .lost)
      ∧ l.Sound := by decide +kernel

/-- A sighting of label 9. -/
def sight9 : Sighting := { label := 9, battery := 100, signal := 255 }

theorem witness_StationReports :
    let busy := { station7 .active with credit := 0 }
    let s := fun l => heardOf (withStation (withLabel l item9) busy) 0x0200000000D0 (.seen [sight9])
    let old := (withStation ready (station7 .active)).setClock { ready.clock with count := 30000 }
    ready.Sound ∧ ready.station 7 = none ∧ (withStation ready (station7 .active)).station 7 = some (station7 .active)
      ∧ (withStation ready (station7 .active)).now < (station7 .active).lastHeard + 30000
      ∧ old.Sound ∧ old.station 7 = some (station7 .active) ∧ (station7 .active).lastHeard + 30000 ≤ old.now
      ∧ (s { label9 with phase := .stale }).Sound ∧ (s { label9 with phase := .stale }).TablesBounded
      ∧ (s { label9 with phase := .stale }).station 7 = some busy
      ∧ (∀ x ∈ (s { label9 with phase := .stale }).link.table, x.id = 7 → x = busy)
      ∧ (s { label9 with phase := .idle }).label 9 = some { label9 with phase := .idle }
      ∧ (s { label9 with phase := .stale }).label 9 = some { label9 with phase := .stale } ∧ busy.ready = []
      ∧ busy.credit ≤ busy.costInFlight ∧ label9.confirmed = none ∧ label9.article = some 5
      ∧ (s { label9 with phase := .stale }).item 5 = some item9 ∧ 9 ∈ item9.labels
      ∧ (station7 .lost).phase = .lost ∧ ready.label 9 = none := by decide +kernel

/-- Label 9 SENT, its update of version 1 or 2 in flight at station 7 under tag 500. -/
def sent9 (version : Nat) (kind : UpdateKind) (attempts : Nat) : Label :=
  { label9 with
    phase := .sent, home := some 7, attempts := attempts
    inFlight := some { tag := 500, kind := kind, version := version, template := 3, textRevision := 0, station := 7 } }

/-- Station 7 with that update in flight. -/
def carrying : BaseStation :=
  { station7 .active with inFlight := [{ tag := 500, label := 9, kind := .fullUpdate, cost := 4, deadline := 17800 }] }

/-- A result for it at the front of the inbox. -/
def result9 (l : Label) (i : Item) (tag label : Nat) (o : UpdateOutcome) : State :=
  heardOf (withStation (withLabel l i) carrying) 0x0200000000D0 (.result tag label o)

/-- Article 5 in a campaign of one label, and of two. -/
def campaign9 (n : Nat) : Item := { each 100 none (some ⟨2, 90, none⟩) with labels := [9], outstanding := n }

theorem witness_UpdateEnds :
    (∀ i ∈ [item9, campaign9 1, campaign9 2], ∀ o ∈ [UpdateOutcome.shown, .rejected, .noAnswer],
        (result9 (sent9 i.followed.number .fullUpdate 3) i 500 9 o).Sound
        ∧ (result9 (sent9 i.followed.number .fullUpdate 3) i 500 9 o).TablesBounded
        ∧ (result9 (sent9 i.followed.number .fullUpdate 3) i 500 9 o).item 5 = some i
        ∧ (result9 (sent9 i.followed.number .fullUpdate 3) i 500 9 o).label 9 = some (sent9 i.followed.number .fullUpdate 3)
        ∧ i.target 3 = { version := i.followed.number, template := 3, textRevision := 0 } ∧ i.waiting = none)
      ∧ (result9 (sent9 1 .fullUpdate 3) item9 500 9 .shown).station 7 = some carrying
      ∧ carrying.inFlight.find? (fun r => r.tag == 500) = carrying.inFlight.head? ∧ (∀ r ∈ carrying.inFlight, r.tag ≠ 501)
      ∧ (∀ r ∈ carrying.inFlight, r.label ≠ 8) ∧ carrying.ready = [] ∧ carrying.phase = .active
      ∧ (∀ x ∈ (result9 (sent9 1 .fullUpdate 3) item9 500 9 .shown).link.table, x.id = 7 → x = carrying)
      ∧ (sent9 1 .fullUpdate 3).again = false ∧ (sent9 1 .fullUpdate 3).confirmed = none
      ∧ (campaign9 1).outstanding = 1 ∧ 1 < (campaign9 2).outstanding
      ∧ (ready.labels.maxAttempts ≤ 3 + 1)
      ∧ ((sent9 0 .blankUpdate 0).inFlight.map InFlightUpdate.kind = some .blankUpdate)
      ∧ (result9 (sent9 1 .fullUpdate 3) item9 500 9 .shown).now < 17800
      ∧ 17800 ≤ ((result9 (sent9 1 .fullUpdate 3) item9 500 9 .shown).setClock { ready.clock with count := 17800 }).now := by
  decide +kernel

theorem witness_ArbiterRuns :
    let l := { label9 with home := some 7 }
    let b := { station7 .active with ready := [9] }
    let s := fun (n : State) (b : BaseStation) => withStation
      ((n.setLabels (withLabel l item9).labels).setPrice (withLabel l item9).price) b
    let u := buildUpdate l Template.blank item9
    (s (network true 1) b).Sound ∧ (s (network true 1) b).station 7 = some b
      ∧ (∀ x ∈ (s (network true 1) b).link.table, x.id = 7 → x = b)
      ∧ nearest 512 0 b.ready = some 9 ∧ (s (network true 1) b).label 9 = some l ∧ l.id = 9
      ∧ (s (network true 1) b).pick l = some u ∧ u.kind = .fullUpdate
      ∧ b.costInFlight + u.kind.cost ≤ b.credit
      ∧ { b with credit := 3 }.credit < { b with credit := 3 }.costInFlight + u.kind.cost
      ∧ (s (network true 0) b).net.freeBuffers = 0 ∧ (s (network true 1) b).JoinsLan .p2 ∧ l.phase = .queued
      ∧ l.home = some 7 ∧ (station7 .active).ready = [] ∧ (0 : Nat) < 512 ∧ [70000, 69700] ≠ []
      ∧ 1 ≤ (s (network true 1) b).link.nextTag ∧ (s (network true 1) b).link.inFlightCount < 4294967295 := by decide +kernel

/-! ### The nightly exchange -/

/-- A session in a state with a message at the front of its inbox. -/
def served (x : SessionState) (m : ServerMessage) : State :=
  (inSession ready x).setExchange { (inSession ready x).exchange with inbox := [m] }

/-- A journal with entries from `acked + 1` to `next - 1`. -/
def journal (s : State) (acked next : Nat) (fresh : Bool) : State :=
  s.setJournal { s.journal with acked := acked, next := next, fresh := fresh }

/-- A release in progress up to a sequence. -/
def releasing (s : State) (upTo : Nat) : State :=
  s.setJournal { s.journal with release := some { upTo := upTo, clear := true, newHead := 114687, units := 2 } }

theorem witness_UploadAcknowledged :
    let w := fun a => served .opening (.welcome a)
    let j := fun a => (served .upload (.jack a)).setExchange
      { (served .upload (.jack a)).exchange with window := [{ first := 1, last := 2 }] }
    let r := releasing (journal ready 0 2 false) 1
    (∀ a ∈ [0, 1, 2], InInbox (journal (w a) 0 2 false) (.welcome a) [] ∧ InInbox (journal (j a) 0 3 false) (.jack a) [])
      ∧ InInbox (served .closing (.welcome 0)) (.welcome 0) [] ∧ (served .closing (.welcome 0)).exchange.state ≠ .opening
      ∧ (w 0).exchange.state = .opening ∧ (w 0).exchange.window = [] ∧ (w 0).journal.release = none
      ∧ (releasing (w 0) 1).journal.release ≠ none ∧ InInbox (releasing (w 0) 1) (.welcome 0) []
      ∧ (journal (w 0) 0 1 true).journal.fresh = true ∧ (0 : Nat) + 1 = (journal (w 0) 0 1 true).journal.next
      ∧ (journal (w 0) 0 2 false).journal.acked + 1 < (journal (w 0) 0 2 false).journal.next
      ∧ (journal (w 2) 0 2 false).journal.next ≤ 2 ∧ (journal (w 1) 0 2 false).journal.acked < 1
      ∧ (j 3).newestSent < 3 ∧ 2 ≤ (j 2).newestSent ∧ (journal (j 0) 0 3 false).journal.acked < 3
      ∧ (releasing (j 1) 1).journal.release ≠ none
      ∧ r.Sound ∧ r.exchange.awaiting = none ∧ (114687 : Nat) < 114688 ∧ 1 < r.journal.next
      ∧ (let t := r.setExchange { r.exchange with awaiting := some .jack, nextToCut := 2, state := .upload }
         t.Sound ∧ t.exchange.awaiting = some .jack ∧ t.exchange.nextToCut = t.journal.next ∧ t.exchange.window = [])
      ∧ ready.journal.release = none := by decide +kernel

/-- A DOWNLOAD with a stage of `n` entries of a batch and a message. -/
def staging (batch : Option Nat) (index n : Nat) (m : ServerMessage) : State :=
  let s := served .download m
  s.setExchange { s.exchange with
    stage := { Stage.empty with
      batch := batch, nextIndex := index, entries := List.replicate n (.change 5 1 none) } }

theorem witness_BatchStaged :
    let e := BatchEntry.change 5 1 none
    let pb := fun (b i : Nat) => ServerMessage.pblock b i [e] []
    let cm := fun (n : Nat) => ServerMessage.commit 1 n 0
    InInbox (served .closing (pb 1 0)) (pb 1 0) [] ∧ (served .closing (pb 1 0)).exchange.state ≠ .download
      ∧ (∀ b ∈ [0, 1], ∀ i ∈ [0, 1, 2], InInbox (staging none 0 0 (pb b i)) (pb b i) []
          ∧ InInbox (staging (some 1) 1 8191 (pb b i)) (pb b i) [])
      ∧ (staging none 0 0 (pb 1 0)).exchange.state = .download ∧ (staging none 0 0 (pb 1 0)).exchange.applying = false
      ∧ 0 ≤ (staging none 0 0 (pb 1 0)).exchange.lastBatch ∧ (staging none 0 0 (pb 1 0)).exchange.lastBatch < 1
      ∧ (staging (some 1) 1 8191 (pb 1 1)).exchange.stage.batch = some 1
      ∧ (staging (some 2) 1 8191 (pb 1 1)).exchange.stage.batch ≠ some 1
      ∧ (staging (some 1) 1 8191 (pb 1 1)).exchange.stage.nextIndex = 1
      ∧ (staging (some 1) 1 8191 (pb 1 1)).exchange.stage.entries.length + [e].length ≤ 8192
      ∧ 8192 < (staging (some 1) 1 8192 (pb 1 1)).exchange.stage.entries.length + [e].length
      ∧ InInbox (staging (some 1) 1 1 (cm 1)) (cm 1) [] ∧ InInbox (staging (some 1) 1 1 (cm 2)) (cm 2) []
      ∧ (staging (some 1) 1 1 (cm 1)).exchange.lastAnswer = none
      ∧ ~~~ (staging (some 1) 1 1 (cm 1)).exchange.stage.crc = 0
      ∧ (staging (some 1) 1 1 (cm 2)).exchange.stage.entries.length ≠ 2
      ∧ (staging (some 1) 1 1 (cm 2)).exchange.mismatch ≠ some 1 := by decide +kernel

/-- A batch being applied, its entries as given. -/
def applying (i : Item) (es : List BatchEntry) : State :=
  let s := staging (some 1) 1 0 .noMore
  (s.setExchange { s.exchange with applying := true, rest := es }).putItem i

theorem witness_BatchEntryApplied :
    let good := BatchEntry.newItem (itemEntryOf topEntry)
    let bad := BatchEntry.newItem (itemEntryOf (entryBytes 1 0 0 2 1 1 0 0 0))
    let c := fun a b => BatchEntry.change a b none
    (∀ e ∈ [good, bad, c 6 1, c 5 10000000, c 5 100, c 5 49, c 5 50],
        (applying (each 100 none none) [e, bad]).Sound ∧ (applying (each 100 none none) [e, bad]).TablesBounded
        ∧ (applying (each 100 none none) [e, bad]).exchange.rest = [e, bad])
      ∧ (applying item9 [bad]).exchange.applying = true ∧ (applying item9 [bad]).exchange.stage.batch = some 1
      ∧ ready.exchange.applying = false ∧ (applying item9 []).exchange.rest = []
      ∧ checkCode topEntry = 0 ∧ checkCode (entryBytes 1 0 0 2 1 1 0 0 0) = 3
      ∧ (applying (each 100 none none) []).item 99999999999999 = none ∧ (applying (each 100 none none) []).item 6 = none
      ∧ (applying (each 100 none none) []).item 5 = some (each 100 none none)
      ∧ (applying (each 100 none none) []).price.items.length < 65536
      ∧ insideWindow ready.price 100 49 = false ∧ insideWindow ready.price 100 50 = true := by decide +kernel

theorem witness_SessionCloses :
    (∀ x ∈ [SessionState.opening, .upload, .download, .closing], InInbox (served x .noMore) .noMore []
        ∧ InInbox (served x .byeAck) .byeAck [] ∧ InInbox (served x (.refuse 255)) (.refuse 255) [])
      ∧ (applying item9 []).exchange.state = .download ∧ (applying item9 []).exchange.applying = true
      ∧ InInbox (applying item9 []) .noMore [] ∧ (served .download .noMore).exchange.applying = false := by decide +kernel

/-- A session with its resend time at 2,000 ms, the count as given. -/
def timed (x : SessionState) (now tries : Nat) : State :=
  let s := inSession ready x
  (s.setExchange { s.exchange with
    resend := some 2000, tries := tries, deadline := 30000, window := [{ first := 1, last := 1 }] }).setClock
      { s.clock with count := now }

theorem witness_SessionTimes :
    (∀ x ∈ [SessionState.opening, .upload, .download, .closing], (timed x 1999 6).Sound ∧ (timed x 1999 6).now < 2000
        ∧ (timed x 2000 6).exchange.maxTries ≤ (timed x 2000 6).exchange.tries
        ∧ (timed x 2000 5).exchange.tries < (timed x 2000 5).exchange.maxTries ∧ 2000 ≤ (timed x 2000 5).now
        ∧ (timed x 2000 5).exchange.resend = some 2000 ∧ (timed x 2000 5).exchange.window = [{ first := 1, last := 1 }]
        ∧ (timed x 30000 1).exchange.deadline ≤ (timed x 30000 1).now ∧ (timed x 29999 1).now < 30000
        ∧ (timed x 30000 1).exchange.state ≠ .idle)
      ∧ ready.exchange.resend = none ∧ ready.exchange.state = .idle
      ∧ (timed .download 30000 1).exchange.serverHeard + 1000 * (timed .download 30000 1).exchange.idleLimit
          ≤ (timed .download 30000 1).now
      ∧ (timed .download 29999 1).now
          < (timed .download 29999 1).exchange.serverHeard + 1000 * (timed .download 29999 1).exchange.idleLimit
      ∧ (timed .download 30000 1).exchange.applying = false := by decide +kernel

/-! ### Transmission, links, time, expiries -/

/-- The network with a port's control list, queue and wire as given. -/
def sending (control : List Frame) (lan : List Frame) (w : Option OnWire) (classes : PerClass (List Frame)) : State :=
  let s := network true 9
  s.setNet { s.net with
    ports := s.net.ports.set .p0 { s.net.ports.p0 with control := control, lan := lan, wire := w }, classes := classes
    tokens := 0 }

theorem witness_LanSends :
    let none4 : PerClass (List Frame) := ⟨[], [], [], []⟩
    let some4 : PerClass (List Frame) := ⟨[], [], [], [frame64]⟩
    (sending [] [] none none4).Sound ∧ ((sending [frame64] [] none none4).port .p0).control = [frame64]
      ∧ ((sending [] [frame64] none none4).port .p0).lan = [frame64] ∧ ((sending [] [] none none4).port .p0).wire = none
      ∧ ((sending [] [] none none4).port .p0).linkUp = true
      ∧ ((sending [] [] (some (.buffered frame64)) none4).port .p0).wire = some (.buffered frame64)
      ∧ ((sending [] [] (some (.control frame64)) none4).port .p0).wire = some (.control frame64)
      ∧ (∀ b ∈ (sending [] [] none none4).link.table, b.waitingForBuffer = false)
      ∧ (sending [] [] none some4).net.uplink = some .p0 ∧ 0 ≤ (sending [] [] none some4).net.tokens
      ∧ (sending [] [] none some4).net.classes.get .guest = [frame64]
      ∧ (sending [] [] none some4).slotClass = .exchange
      ∧ (sending [] [] none some4).net.classes.get .exchange = []
      ∧ (∀ d ∈ [UplinkClass.payment, .store, .exchange], (sending [] [] none some4).net.classes.get d = [])
      ∧ (sending [] [] none ⟨[], [], [frame64], []⟩).net.classes.get .exchange = [frame64] := by decide +kernel

theorem witness_LinksReported :
    (network true 1).Sound ∧ ((network true 1).port .p4).linkUp = true ∧ (network false 1).Sound
      ∧ ((network false 1).port .p4).linkUp = false ∧ ((network true 1).port .p4).role ≠ some .uplink
      ∧ ((network true 1).port .p0).role = some .uplink
      ∧ (∀ b ∈ (network true 1).link.table, b.waitingForBuffer = false) ∧ (network true 1).exchange.state = .idle
      ∧ (let s := (network true 1).setExchange { ready.exchange with state := .upload, uplinkUp := true }
         s.Sound ∧ s.exchange.state ≠ .idle ∧ s.exchange.uplinkUp = true ∧ (s.port .p0).linkUp = true) := by decide +kernel

/-- A clock set to 23:59:59.999 of day 65,535. -/
def atMidnight (c : Clock) : State :=
  (network true 1).setClock { c with base := some { day := 65535, ms := 86399999, count := 0 } }

theorem witness_TimePasses :
    let c := ready.clock
    let due : Clock := { c with openDue := true, closeDue := true, windowDue := true, mode := .scheduled 0 1 }
    ready.Sound ∧ ready.clock.base = none ∧ (atMidnight due).Sound
      ∧ (atMidnight due).clock.base = some { day := 65535, ms := 86399999, count := 0 }
      ∧ ready.clock.openDue = false ∧ ready.clock.closeDue = false ∧ ready.clock.windowDue = false
      ∧ (atMidnight due).clock.openDue = true ∧ (atMidnight due).clock.period = .closed
      ∧ (atMidnight { due with period := .opened }).clock.period = .opened
      ∧ (atMidnight { due with period := .opened }).Sound
      ∧ (atMidnight { due with period := .opened }).net.uplink = some .p0
      ∧ (∀ b ∈ (atMidnight { due with period := .opened }).link.table, b.waitingForBuffer = false)
      ∧ (atMidnight due).exchange.paramsSet = false
      ∧ (let s := (atMidnight due).setExchange { ready.exchange with paramsSet := true, uplinkUp := true }
         s.Sound ∧ s.exchange.paramsSet = true ∧ s.exchange.state = .idle ∧ s.exchange.uplinkUp = true
           ∧ s.clock.windowDue = true ∧ s.clock.windowEnd < 86400000) := by decide +kernel

theorem witness_EntriesExpire :
    let s := fun n g => (hosting (knows ready) g).setClock { ready.clock with count := n, period := .opened }
    (∀ n ∈ [59999, 60000, 119999, 120000, 299999, 300000], ∀ p ∈ [GuestPhase.held, .admitted, .lapsed],
        (s n (guest p 1 2)).Sound ∧ (s n (guest p 1 2)).TablesBounded
        ∧ (s n (guest p 1 2)).session (BitVec.ofNat 48 stranger) = some (guest p 1 2) ∧ (s n (guest p 1 2)).now = n
        ∧ (s n (guest p 1 2)).stationRecord (BitVec.ofNat 48 stranger) = some { port := .p4, lastSeen := 0 })
      ∧ ready.Sound ∧ ready.TablesBounded ∧ ready.session 1 = none ∧ ready.stationRecord 1 = none
      ∧ (guest .admitted 1 2).admittedAt + 1000 * (guest .admitted 1 2).timeLimit = 60000 := by decide +kernel

/-! ### What every step keeps -/

/-- Reset meets every invariant, and steps to a next state. -/
theorem witness_Kept :
    (State.reset.MemoryWf ∧ State.reset.Settled ∧ State.reset.BuffersAdd ∧ State.reset.LogBounded
      ∧ State.reset.TablesBounded ∧ State.reset.GuestsWithinBudget ∧ State.reset.ClosedEmpty ∧ State.reset.PacerBounded
      ∧ 12144 ≤ State.reset.net.depth) ∧ step State.reset = .next State.reset := by
  refine ⟨⟨by decide +kernel, by decide +kernel, by decide +kernel, by decide +kernel, by decide +kernel, by decide +kernel,
    by decide +kernel, ⟨by decide, by decide, ?_⟩, by decide⟩, rfl⟩
  intro c f h
  cases c <;> simp [State.reset, Forwarding.reset, PerClass.get] at h

end Sys2Proof.Tests
end

