-- ==== Sys2Proof/Tests/Witness4.lean ====
section
/-! SUPPORT. Tests/Witness4.lean: more states and operands that meet the hypotheses of the statements: the kept journal of
a scan, the requests' common step, deliveries, a port's loss of its role, labels whose stations cannot send and can,
exchange datagrams, group frames, guests, the ends of updates and the batch. -/

namespace Sys2Proof.Tests

set_option Elab.async false

open Sys2Proof Sys2Proof.Machine

set_option synthInstance.maxSize 4096

/-! ### The scan -/

/-- A header of generation 1 over an empty area. -/
def header1 (next : Nat) : Header := { generation := 1, head := 0, acked := 0, next := next, fresh := true }

/-- The backed SRAM with that header in copy 0. -/
def headed (next : Nat) : Memory := Memory.writeBytes [] 0 (header1 next).bytes

/-- A structure closed by the CRC of its first 60 bytes gives both back. -/
theorem closed_fields (body : List Byte) (c : Word) (h : body.length = 60) :
    (body ++ leBytes 4 c.toNat).take 60 = body ∧ leField (body ++ leBytes 4 c.toNat) 60 4 = c.toNat := by
  constructor
  · rw [← h, List.take_left]
  · unfold leField fieldBytes
    rw [← h, List.drop_left, List.take_of_length_le (by simp), leNat_leBytes]
    omega

/-- Copy 0 of `headed` is valid, whatever the format mark is. -/
theorem header1_valid (next : Nat) (h : 0 < next) (hn : next < 4294967296) :
    Header.ofBytes (header1 next).bytes = some (header1 next) := by
  have e : ∀ n v : Nat, v < 256 ^ n → leNat (leBytes n v) = v := fun n v hv => by
    rw [leNat_leBytes, Nat.mod_eq_of_lt hv]
  have m : Config.formatMark.toNat < 256 ^ 4 := Config.formatMark.isLt
  let body := leBytes 4 Config.formatMark.toNat ++ leBytes 4 1 ++ leBytes 4 0 ++ leBytes 4 0 ++ leBytes 4 next
    ++ leBytes 1 1 ++ zeros 39
  have hb : (header1 next).bytes = body ++ leBytes 4 (crc32 body).toNat := rfl
  have hl : body.length = 60 := by simp [body, zeros]
  obtain ⟨h1, h2⟩ := closed_fields body (crc32 body) hl
  have hp : ∀ off n : Nat, off + n ≤ 60 → leField (body ++ leBytes 4 (crc32 body).toNat) off n = leField body off n := by
    intro off n h
    unfold leField fieldBytes
    rw [List.drop_append_of_le_length (by omega), List.take_append_of_le_length (by simp; omega)]
  have f0 : leField body 0 4 = Config.formatMark.toNat := e 4 _ m
  have f4 : leField body 4 4 = 1 := by rfl
  have f8 : leField body 8 4 = 0 := by rfl
  have f12 : leField body 12 4 = 0 := by rfl
  have f16 : leField body 16 4 = next := e 4 _ hn
  have f20 : leField body 20 1 = 1 := by rfl
  rw [hb]
  unfold Header.ofBytes
  simp [h1, h2, hp, f0, f4, f8, f12, f16, f20, journalUnits, header1, h]

theorem header1_length (next : Nat) : (header1 next).bytes.length = 64 := by simp [Header.bytes, zeros]

theorem headed_copy0 (next : Nat) : (headed next).readBytes (headerAddr 0) 64 = (header1 next).bytes := by
  have := Memory.readBytes_writeBytes (m := []) 0 (header1 next).bytes (by decide)
  rw [header1_length next] at this
  exact this

theorem headed_outside (next a n : Nat) (h : 64 ≤ a) : (headed next).readBytes a n = Memory.readBytes [] a n :=
  Memory.readBytes_writeBytes_outside [] _ (Or.inr (by rw [header1_length]; omega))

theorem copy1_invalid : Header.ofBytes (Memory.readBytes [] (headerAddr 1) 64) = none := by
  unfold Header.ofBytes
  rw [if_pos]
  decide +kernel

theorem newest_of_copy0 (m : Memory) (h : Header) (h0 : Header.ofBytes (m.readBytes (headerAddr 0) 64) = some h)
    (h1 : Header.ofBytes (m.readBytes (headerAddr 1) 64) = none) : newestHeader m = some (h, 0) := by
  unfold newestHeader
  rw [h0, h1]

/-- The newest header of `headed` is that of copy 0. -/
theorem headed_newest (next : Nat) (h : 0 < next) (hn : next < 4294967296) :
    newestHeader (headed next) = some (header1 next, 0) :=
  newest_of_copy0 _ _ ((congrArg Header.ofBytes (headed_copy0 next)).trans (header1_valid next h hn))
    ((congrArg Header.ofBytes (headed_outside next (headerAddr 1) 64 (Nat.le_refl 64))).trans copy1_invalid)

/-- No entry stands in the area of `headed`. -/
theorem headed_walk (next : Nat) : WalkFinds (headed next) (header1 next).head ((header1 next).acked + 1) 0 [] := by
  intro e h
  have h1 := h.1
  rw [headed_outside next _ _ (by show 64 ≤ unitAddr 0 + 19; decide)] at h1
  exact absurd (show 1 ≤ leNat (Memory.readBytes [] (unitAddr 0 + 19) 1) from h1) (by decide)

/-- The part at the start of its scan with `headed` in its backed SRAM. -/
def starting (next : Nat) : State := State.reset.setBacked (headed next)

theorem starting_wf (next : Nat) : (starting next).MemoryWf :=
  ⟨by show State.reset.store.wf; decide, by show (headed next).wf; exact Memory.writeBytes_wf 0 _ (by decide)⟩

/-- The scan's kept journal: a header with no entries behind it, whose walk comes to its next sequence; and one whose
walk stops short of it. -/
theorem witness_ScanReports_walk :
    (starting 1).MemoryWf ∧ newestHeader (headed 1) = some (header1 1, 0)
      ∧ WalkFinds (headed 1) (header1 1).head ((header1 1).acked + 1) 0 [] ∧ (header1 1).next ≤ (header1 1).acked + 1 + 0
      ∧ newestHeader (headed 2) = some (header1 2, 0)
      ∧ WalkFinds (headed 2) (header1 2).head ((header1 2).acked + 1) 0 [] ∧ (header1 2).acked + 1 + 0 < (header1 2).next :=
  ⟨starting_wf 1, headed_newest 1 (by decide) (by decide), headed_walk 1, by decide, headed_newest 2 (by decide) (by decide),
    headed_walk 2, by decide⟩
/-! ### Chains and SETUP -/

/-- The entry of an OFF chain holds its fields before a head write. -/
theorem witness_HeadWriteStarts_entry :
    ready.storeWord (dirEntry .price + 8) = BitVec.ofNat 32 (ready.chain .price).phase.code
      ∧ ready.storeWord (dirEntry .price + 16) = (ready.chain .price).done
      ∧ ready.storeWord (offChainStates + 4 * Chain.index .price) = BitVec.ofNat 32 (ready.chain .price).phase.code := by
  decide +kernel

/-- Delivery's chain RUNNING on the record at 0x3000, of a kind and a body length, its link as given, two frames waiting. -/
def delivering (kind length link : Nat) : State :=
  let d : Delivery := { frame := frame64, ingress := .p4, reason := .toAppliance }
  (stored (chainAt (ready.setNet { ready.net with delivery := [d, d] }) .delivery .running 0x3000) 0x3000 1 kind 0
    length).writeWord 0x3000 (BitVec.ofNat 32 link)

/-- A link to a next record, room for the descriptor alone, a record too short, of a bad kind, not NEW, and a chain that is
stopping. -/
theorem witness_DeliveryFills_link :
    (delivering 0x51 8 0x3040).Sound ∧ (delivering 0x51 8 0x3040).storeWord 0x3000 ≠ 0
      ∧ (delivering 0x51 8 0x3040).recordFault 0x3000 = .noFault
      ∧ ((delivering 0x51 8 0x3040).readRecord 0x3000).kind = 0x51 ∧ (delivering 0x51 8 0x3040).bodyLength 0x3000 = 8
      ∧ (delivering 0x51 7 0).Sound ∧ (delivering 0x51 7 0).recordFault 0x3000 = .noFault
      ∧ ((delivering 0x51 7 0).readRecord 0x3000).kind = 0x51 ∧ (delivering 0x51 7 0).bodyLength 0x3000 < 8
      ∧ (delivering 0x50 8 0).recordFault 0x3000 = .noFault ∧ ((delivering 0x50 8 0).readRecord 0x3000).kind ≠ 0x51
      ∧ (delivering 0x51 4065 0).recordFault 0x3000 ≠ .noFault
      ∧ (delivering 0x51 7 0).net.delivery ≠ [] ∧ ((delivering 0x51 7 0).chain .delivery).phase = .running
      ∧ ((delivering 0x51 7 0).chain .delivery).current.toNat = 0x3000
      ∧ (let s := (delivering 0x51 8 0).storeChain .delivery { (delivering 0x51 8 0).chain .delivery with stopping := true }
         s.Sound ∧ (s.chain .delivery).stopping = true ∧ (s.chain .delivery).phase = .running) := by decide +kernel

/-- Roles that take UPLINK, TILL, LABEL and GUEST from the ports that have them, and give UPLINK and GUEST to others, while
the uplink is paused, a till is signed on, a station is ACTIVE and a guest is there. -/
theorem witness_PortRolesSet_cleanUp :
    let b := bs [5, 1, 5, 5, 4, 0] ++ (rolesBody 5).drop 6
    let n := (withStation (hosting (network true 9) (guest .held 0 0)) (station7 .active)).setNet
      { (network true 9).net with paused := true }
    let s := hand (n.setTills { n.tills with entries := n.tills.entries.set 11 { TillEntry.reset with phase := .signedOn, port := some .p1 } }) .setup 0x01 b
    InHand s .setup Kind.setPortRoles (held 0x01 b) ∧ s.exchange.state = .idle
      ∧ (roleSettingsOf b).map RoleSettings.inForm = some true
      ∧ (∀ x ∈ s.link.table, x.waitingForBuffer = false ∧ x.inFlight = []) ∧ s.net.paused = true
      ∧ (s.port .p3).role = some .guest ∧ (s.port .p3).linkUp = true ∧ s.net.uplink = some .p0 := by decide +kernel

/-- Nothing in hand; a kind of no chain, of another row, and a body too short, in hand. -/
theorem witness_SlotTablesSet_step1 :
    requestRow .setPacer = some (.setup, Kind.setPacer) ∧ ready.Sound ∧ (ready.chain .setup).inHand = none
      ∧ (∀ e ∈ [(0x11, zeros 32), (0x02, zeros 64), (0x03, zeros 31)],
          (hand ready .setup e.1 e.2).Sound ∧ ((hand ready .setup e.1 e.2).chain .setup).inHand = some (held e.1 e.2)
          ∧ ((hand ready .setup e.1 e.2).chain .setup).phase = .running ∧ goodOffset 0x3000 = true
          ∧ 32 + e.2.length ≤ 4096 ∧ 0x3000 + 32 + e.2.length ≤ storeEnd)
      ∧ 0x11 ∉ chainKinds .setup ∧ 0x02 ∈ chainKinds .setup ∧ 0x02 ≠ Kind.setPacer.code
      ∧ (held 0x03 (zeros 31)).kind = Kind.setPacer.code ∧ (zeros 31).length < Kind.setPacer.fixed := by decide +kernel

/-- S changed with two ACTIVE stations at one port, and with one at a port whose link is down. -/
theorem witness_LabelParamsSet_stations :
    let b := bs [4, 0, 64, 0]
    let s := fun up => (hand (network up 2) .setup 0x05 b).setLink { ready.link with
      table := [station7 .active, { station7 .active with id := 8 }] }
    InHand (s true) .setup Kind.setLabelParams (held 0x05 b) ∧ 64 ≠ (s true).link.slots
      ∧ ((s true).link.table.filter (fun b => b.phase == .active)).length ≤ (s true).net.freeBuffers
      ∧ ((s true).port .p2).linkUp = true ∧ ((s true).port .p2).lan.length + 2 ≤ ((s true).port .p2).lanCap
      ∧ (let d := withStation (s false) (station7 .active)
         InHand d .setup Kind.setLabelParams (held 0x05 b)
         ∧ d.link.table.filter (fun b => b.phase == .active) = [station7 .active]) := by decide +kernel

/-- A set time due at a SET_CLOCK, each of the three; both orders of open and close time. -/
theorem witness_ClockSet_due :
    let b := leBytes 4 1 ++ leBytes 4 15
    let s := fun o c w => hand (ready.setClock { ready.clock with
      mode := .scheduled 10 20, openDue := o, closeDue := c, windowDue := w }) .setup 0x08 b
    InHand (s true false false) .setup Kind.setClock (held 0x08 b) ∧ (s true false false).clock.openDue = true
      ∧ InHand (s false true false) .setup Kind.setClock (held 0x08 b) ∧ (s false true false).clock.openDue = false
      ∧ (s false true false).clock.closeDue = true
      ∧ (∀ x ∈ (s false true false).link.table, x.waitingForBuffer = false)
      ∧ InHand (s false false true) .setup Kind.setClock (held 0x08 b) ∧ (s false false true).clock.windowDue = true
      ∧ (s false false true).clock.closeDue = false ∧ (s false false false).clock.mode = .scheduled 10 20 ∧ (10 : Nat) < 20
      ∧ InHand (hand (ready.setClock { ready.clock with mode := .scheduled 20 10 }) .setup 0x08 b) .setup Kind.setClock
          (held 0x08 b) := by decide +kernel

/-! ### Labels whose stations cannot send, and can -/

/-- A second label of article 5. -/
def item910 : Item := { item9 with labels := [9, 10] }

/-- Labels 9 and 10 of article 5, at home at stations that cannot send: one LOST, one without credit. -/
def quietShelf (p q : LabelPhase) : State :=
  let s := withLabel { label9 with home := some 7, phase := p } item910
  (s.setLabels { s.labels with
    directory := s.labels.directory ++ [(10, { label9 with id := 10, home := some 8, phase := q })] }).setLink
    { ready.link with table := [station7 .lost, { station7 .active with id := 8, credit := 0 }] }

theorem witness_NoSends :
    (∀ b ∈ [changeBody 5 110 0 0 0], InHand (hand (quietShelf .idle .stale) .price 0x12 b) .price Kind.changePrice (held 0x12 b)
        ∧ (hand (quietShelf .idle .stale) .price 0x12 b).TablesBounded ∧ (hand (quietShelf .idle .stale) .price 0x12 b).NoSends)
      ∧ (quietShelf .idle .stale).item 5 = some item910 ∧ item910.labels.Nodup ∧ item910.labels ≠ [] ∧ item910.pending = none
      ∧ insideWindow (quietShelf .idle .stale).price 100 110 = true
      ∧ (∀ id ∈ [9, 10], ((quietShelf .idle .stale).label id).map Label.article = some (some 5)
          ∧ ((quietShelf .idle .stale).label id).map Label.confirmed = some none)
      ∧ InHand (hand (quietShelf .idle .sent) .price 0x15 (textBody 5 24 78)) .price Kind.setText (held 0x15 (textBody 5 24 78))
      ∧ (quietShelf .idle .sent).NoSends ∧ (quietShelf .idle .sent).TablesBounded
      ∧ ((textBody 5 24 78).drop 9 |>.take 24).take 24 ≠ item910.text := by decide +kernel

/-- Label 9 IDLE, its home ACTIVE with credit and room on its port. -/
theorem witness_sendsAtOnce :
    let n := network true 9
    let s := withStation ((n.setLabels (withLabel { label9 with home := some 7, phase := .idle } item9).labels).setPrice
      (withLabel label9 item9).price) (station7 .active)
    InHand (hand s .price 0x12 (changeBody 5 110 0 0 0)) .price Kind.changePrice (held 0x12 (changeBody 5 110 0 0 0))
      ∧ s.TablesBounded ∧ s.item 5 = some item9 ∧ s.label 9 = some { label9 with home := some 7, phase := .idle }
      ∧ s.labels.templates.find 3 = some Template.blank ∧ s.station 7 = some (station7 .active)
      ∧ (∀ x ∈ s.link.table, x.id = 7 → x = station7 .active) ∧ (station7 .active).ready = [] ∧ s.JoinsLan .p2
      ∧ (station7 .active).costInFlight + UpdateKind.fullUpdate.cost ≤ (station7 .active).credit
      ∧ InHand (hand s .label 0x22 (leBytes 4 9)) .label Kind.unbindLabel (held 0x22 (leBytes 4 9)) ∧ item9.pending = none
      ∧ (station7 .active).costInFlight + 1 ≤ (station7 .active).credit
      ∧ InHand (hand s .label 0x23 (leBytes 4 9 ++ leBytes 2 4 ++ zeros 2)) .label Kind.setLabelTemplate
          (held 0x23 (leBytes 4 9 ++ leBytes 2 4 ++ zeros 2))
      ∧ (let d := withStation s { station7 .active with credit := 0 }
         InHand (hand d .label 0x22 (leBytes 4 9)) .label Kind.unbindLabel (held 0x22 (leBytes 4 9)) ∧ d.TablesBounded
         ∧ d.station 7 = some { station7 .active with credit := 0 }
         ∧ ({ station7 .active with credit := 0 } : BaseStation).credit
             ≤ ({ station7 .active with credit := 0 } : BaseStation).costInFlight) := by decide +kernel

/-- A queried change that waits on a SETTLED item with an IDLE and a STALE label, and its confirmation. -/
theorem witness_WaitingDecided_campaign :
    let i := { item910 with waiting := some { base := 10, promo := none, queried := true } }
    let b := leBytes 8 5 ++ zeros 8
    let s := hand ((quietShelf .idle .stale).putItem i) .price 0x13 b
    InHand s .price Kind.confirmChange (held 0x13 b) ∧ s.TablesBounded ∧ s.item 5 = some i ∧ i.pending = none
      ∧ i.labels ≠ [] ∧ i.labels.Nodup ∧ s.NoSends
      ∧ ∀ id ∈ i.labels, (s.label id).map Label.article = some (some 5) ∧ (s.label id).map Label.confirmed = some none := by
  decide +kernel

/-! ### Frames -/

/-- A message of the server: kind, body, its CRC in place. -/
def serverBytes (kind : Nat) (body : List Byte) : List Byte :=
  let h := fun c : Word => beBytes 2 0x1D40 ++ bs [kind, 0] ++ zeros 4 ++ beBytes 4 c.toNat ++ body
  h (crc32 (h 0))

/-- An IPv4 packet of the server to the part: the fragment field, then UDP to port 4000 with a message. -/
def packet (fragment : Nat) (message : List Byte) : List Byte :=
  bs [0x45, 0] ++ beBytes 2 (28 + message.length) ++ zeros 2 ++ beBytes 2 fragment ++ bs [9, 17] ++ zeros 2 ++ zeros 3
    ++ bs [2] ++ zeros 3 ++ bs [1] ++ beBytes 2 1 ++ beBytes 2 4000 ++ beBytes 2 (8 + message.length) ++ zeros 2 ++ message

/-- The network in a session with that server. -/
def withServer (x : SessionState) : State :=
  (network true 9).setExchange { ready.exchange with state := x, ownIp := 1, serverIp := 2, udpPort := 4000 }

/-- An exchange datagram: handed over in a session, discarded without one, of no form, and a fragment. -/
theorem witness_FramesReceived_exchange :
    let p := fun fragment m => (Frame.ofBytes (wire 0x020000000002 stranger 0x0800 (packet fragment m) 100)).payload
    let good := p 0 (serverBytes 2 (beBytes 4 7))
    let udp := (good.take (beField good 2 2)).drop 20
    let message := (udp.drop 8).take (beField udp 4 2 - 8)
    (withServer .opening).Sound ∧ ((withServer .opening).port .p0).role = some .uplink
      ∧ (wire 0x020000000002 stranger 0x0800 (packet 0 (serverBytes 2 (beBytes 4 7))) 100).length = 100
      ∧ beField good 0 1 / 16 = 4 ∧ beField good 0 1 % 16 = 5 ∧ 20 ≤ good.length
      ∧ BitVec.ofNat 32 (beField good 16 4) = (withServer .opening).exchange.ownIp
      ∧ BitVec.ofNat 32 (beField good 12 4) = (withServer .opening).exchange.serverIp
      ∧ beField good 6 2 % 16384 = 0 ∧ beField good 9 1 = 17 ∧ 8 ≤ udp.length
      ∧ beField udp 2 2 = (withServer .opening).exchange.udpPort ∧ (withServer .opening).exchange.state ≠ .idle
      ∧ MessageHeaderGood (withServer .opening).exchange message
      ∧ beField message 2 1 = 2 ∧ 4 ≤ (message.drop 12).length ∧ beField (message.drop 12) 0 4 = 7
      ∧ (withServer .idle).exchange.state = .idle ∧ beField (p 0x2000 []) 6 2 % 16384 ≠ 0 := by
  simp only [MessageHeaderGood]
  decide +kernel

/-- A WELCOME, and a PBLOCK of one change. -/
theorem witness_MessageSpelled :
    let e := bs [1] ++ beBytes 8 5 ++ beBytes 4 6 ++ zeros 5
    MessageSpelled 2 (beBytes 4 7) (.welcome 7)
      ∧ MessageSpelled 6 (beBytes 4 5 ++ zeros 2 ++ bs [1] ++ e) (.pblock 5 0 [.change 5 6 none] e) :=
  ⟨⟨rfl, by decide, by decide⟩, rfl, by decide, by decide, by decide, by decide, by decide, by decide, by decide,
    ⟨_, [], (List.append_nil _).symm, ⟨by decide, by decide, by decide, by decide, by decide⟩, rfl⟩⟩

/-- A broadcast with a port of the same role up and one down, a multicast, a frame to itself, and the uplink's frames for a
guest. -/
theorem witness_FramesReceived_groups :
    let offices : PerPort PortState := ⟨portOf (some .uplink) true, portOf (some .office) true, portOf (some .office) true,
      portOf (some .guest) true, portOf (some .office) false⟩
    let s := (network true 9).setNet { (network true 9).net with ports := offices }
    let b := Frame.ofBytes (wire 0xFFFFFFFFFFFF stranger 0x0800 [] 64)
    let m := Frame.ofBytes (wire 0x010000000009 stranger 0x0800 [] 64)
    let self := Frame.ofBytes (wire stranger stranger 0x0800 [] 64)
    let g := hosting (network true 9) (guest .admitted 1 65)
    s.Sound ∧ (s.port .p1).role = some .office ∧ b.dest = 0xFFFFFFFFFFFF ∧ isGroup b.dest = true ∧ isGroup m.dest = true
      ∧ s.stationRecord b.dest = none ∧ 6 ≤ s.net.freeBuffers ∧ s.net.delivery.length < 64
      ∧ (s.chain .delivery).phase ≠ .running ∧ ((chainAt s .delivery .running 0x3000).chain .delivery).phase = .running
      ∧ (chainAt s .delivery .running 0x3000).Sound
      ∧ self.source = self.dest ∧ isGroup self.dest = false ∧ s.net.stations.length < 1024
      ∧ self.dest ≠ s.net.gateway ∧ self.dest ≠ s.net.appliance ∧ self.dest ≠ s.net.controller
      ∧ g.Sound ∧ g.session self.dest = some (guest .admitted 1 65) ∧ g.stationRecord self.dest = none
      ∧ (g.port .p3).role = some .guest ∧ g.JoinsLan .p3 ∧ ¬ (hosting (network false 9) (guest .admitted 1 65)).JoinsLan .p3
      ∧ 1 + 64 ≤ (guest .admitted 1 65).budget ∧ (guest .admitted 1 64).budget < 1 + 64
      ∧ (guest .held 0 0).phase ≠ .admitted ∧ ((hosting (network true 9) { guest .held 0 0 with port := .p4 }).port .p4).role
          ≠ some .guest := by decide +kernel

/-- Guests that send to the controller, the appliance, a group, a station and nobody; the uplink down, without buffers and
full; the join that reaches the pause level. -/
theorem witness_GuestFrames_others :
    let s := fun n => hosting n (guest .held 0 0)
    let f := fun d => Frame.ofBytes (wire d stranger 0x0800 [] 64)
    (∀ n ∈ [network true 9, network false 9, network true 0, knows (network true 9)], (s n).Sound
        ∧ (s n).session (f 1).source = some (guest .held 0 0) ∧ (s n).requests.runState = .running
        ∧ (s n).clock.period = .opened ∧ ((s n).port .p3).role = some .guest)
      ∧ ((s (network false 9)).port .p0).linkUp = false ∧ (s (network true 0)).net.freeBuffers = 0
      ∧ (f 0x020000000002).dest = (s (network true 9)).net.controller
      ∧ (f 0x020000000001).dest = (s (network true 9)).net.appliance ∧ isGroup (f 0xFFFFFFFFFFFF).dest = true
      ∧ (s (network true 9)).stationRecord (f 5).dest = none
      ∧ (s (knows (network true 9))).stationRecord (f stranger).dest = some { port := .p4, lastSeen := 0 }
      ∧ ((s (network true 9)).port .p4).role ≠ some .uplink ∧ (s (network true 9)).net.delivery.length < 64
      ∧ ((s (network true 9)).chain .delivery).phase ≠ .running
      ∧ (let p := (hosting (network true 9) (guest .admitted 1 65)).setNet { (network true 9).net with pauseLevel := 1 }
         p.Sound ∧ p.net.paused = false ∧ p.net.pauseLevel ≤ p.net.classes.guest.length + 1)
      ∧ (let c := (hosting (network true 9) (guest .held 0 0)).setNet
           { (network true 9).net with classCaps := { (network true 9).net.classCaps with guest := 0 } }
         c.Sound ∧ c.net.classCaps.guest ≤ c.net.classes.guest.length) := by decide +kernel

/-! ### Base stations and updates -/

/-- A restart and a silence with label 9's update in flight. -/
theorem witness_updateReturned :
    let s := heardOf (withStation (withLabel (sent9 1 .fullUpdate 2) item9) carrying) 0x0200000000D0 (.hello 2 3 0)
    let b := withStation (withLabel { sent9 0 .blankUpdate 2 with phase := .unbinding, article := none } item9) carrying
    s.Sound ∧ s.station 7 = some carrying ∧ (∀ x ∈ s.link.table, x.id = 7 → x = carrying) ∧ carrying.phase = .active
      ∧ carrying.bootCount ≠ 2 ∧ carrying.ready = [] ∧ carrying.inFlight.length = 1
      ∧ s.label 9 = some (sent9 1 .fullUpdate 2) ∧ (sent9 1 .fullUpdate 2).phase = .sent
      ∧ (sent9 1 .fullUpdate 2).home = some 7 ∧ (sent9 1 .fullUpdate 2).article = some 5 ∧ s.item 5 = some item9
      ∧ (sent9 1 .fullUpdate 2).confirmed = none ∧ b.Sound ∧ b.station 7 = some carrying
      ∧ (b.label 9).map Label.phase = some .unbinding := by decide +kernel

/-- An update that ends short of its target with the station's credit used up: unanswered with an attempt left, shown with
an old version, of a label that is UNBINDING, and a BLANK unanswered. -/
theorem witness_UpdateEnds_requeued :
    let b := { carrying with credit := 0 }
    let s := fun l o => (result9 l item9 500 9 o).setLink
      { (result9 l item9 500 9 o).link with table := [b] }
    (∀ l ∈ [sent9 1 .fullUpdate 0, sent9 2 .fullUpdate 0, { sent9 1 .fullUpdate 0 with phase := .unbinding, article := none },
          { sent9 0 .blankUpdate 0 with phase := .unbinding, article := none }],
        ∀ o ∈ [UpdateOutcome.shown, .rejected, .noAnswer], (s l o).Sound ∧ (s l o).TablesBounded
        ∧ (s l o).station 7 = some b ∧ (s l o).label 9 = some l ∧ l.home = some 7
        ∧ l.attempts + 1 < (s l o).labels.maxAttempts ∧ (s l o).item 5 = some item9)
      ∧ b.phase = .active ∧ b.ready = [] ∧ item9.pending = none
      ∧ b.credit ≤ ({ b with inFlight := b.inFlight.filter (fun x => x.tag != 500) } : BaseStation).costInFlight
      ∧ (sent9 1 .fullUpdate 0).confirmed ≠ some (item9.target 3)
      ∧ ({ version := 2, template := 3, textRevision := 0 } : Confirmed) ≠ item9.target 3
      ∧ (ready.labels.maxAttempts ≤ (sent9 0 .blankUpdate 3).attempts + 1) := by decide +kernel

/-! ### The exchange and transmission -/

/-- Changes of a batch that start campaigns, that change the promotion alone, and that are the last. -/
theorem witness_BatchEntryApplied_campaign :
    let e := BatchEntry.change 5 100 (some ⟨3, 250⟩)
    let s := fun es => (applying item910 es).setLabels (quietShelf .idle .stale).labels |>.setLink (quietShelf .idle .stale).link
    (∀ es ∈ [[e], [e, e]], (s es).Sound ∧ (s es).TablesBounded ∧ (s es).exchange.applying = true ∧ (s es).exchange.rest = es
        ∧ (s es).exchange.stage.batch = some 1 ∧ (s es).NoSends ∧ (s es).item 5 = some item910)
      ∧ promoPasses item910.saleKind 100 (some ⟨3, 250⟩) = true ∧ item910.current.base = 100 ∧ item910.current.promo = none
      ∧ insideWindow (s []).price 100 100 = true ∧ item910.pending = none ∧ item910.labels ≠ [] ∧ item910.labels.Nodup
      ∧ (∀ id ∈ [9, 10], ((s []).label id).map Label.article = some (some 5)
          ∧ ((s []).label id).map Label.confirmed = some none) := by decide +kernel

/-- A resend time with and without a release awaited, and a window of two blocks. -/
theorem witness_SessionTimes_awaiting :
    (∀ x ∈ [SessionState.opening, .upload, .download, .closing], (timed x 2000 5).exchange.awaiting = none)
      ∧ (let s := (timed .upload 2000 5).setExchange
           { (timed .upload 2000 5).exchange with window := [{ first := 1, last := 1 }, { first := 2, last := 3 }] }
         s.Sound ∧ s.exchange.awaiting = none ∧ s.exchange.window.length = 2)
      ∧ (let s := (timed .upload 2000 5).setExchange { (timed .upload 2000 5).exchange with awaiting := some .jack }
         s.Sound ∧ s.exchange.awaiting ≠ none ∧ s.exchange.resend = some 2000) := by decide +kernel

/-- A pick that empties the GUEST queue of a paused uplink. -/
theorem witness_LanSends_resume :
    let s := (sending [] [] none ⟨[], [], [], [frame64]⟩).setNet
      { (sending [] [] none ⟨[], [], [], [frame64]⟩).net with paused := true, resumeLevel := 0 }
    s.Sound ∧ s.net.paused = true ∧ s.net.classes.get .guest = [frame64] ∧ ([] : List Frame).length ≤ s.net.resumeLevel
      ∧ (s.port .p3).role = some .guest ∧ (s.port .p3).linkUp = true := by decide +kernel

/-- A session in UPLOAD as an append ends. -/
theorem witness_AppendsRun_upload :
    let s := inSession (appending true 2 0 4294967294) .upload
    s.Sound ∧ s.exchange.state = .upload ∧ s.journal.next < 4294967295 ∧ s.journal.head < 114688
      ∧ s.journal.acked < s.journal.next
      ∧ (s.till 12).map (fun e => e.inFlight.map SaleContext.basket) = some (some 1) := by decide +kernel

/-- A WELCOME that finds a fresh journal with nothing in it, and one that finds its own checkpoint; a JACK at the
checkpoint, and below it, with FRESH set; a release awaited by nothing, by a WELCOME and by a JACK. -/
theorem witness_UploadAcknowledged_goesOn :
    let w := fun a => served .opening (.welcome a)
    let j := fun a => (served .upload (.jack a)).setExchange
      { (served .upload (.jack a)).exchange with window := [{ first := 3, last := 4 }] }
    (InInbox (journal (w 0) 0 1 true) (.welcome 0) [] ∧ (journal (w 0) 0 1 true).journal.fresh = true)
      ∧ (InInbox (journal (w 2) 2 5 false) (.welcome 2) [] ∧ (journal (w 2) 2 5 false).journal.acked = 2)
      ∧ (w 2).exchange.state = .opening ∧ (w 2).journal.release = none
      ∧ (∀ a ∈ [1, 2], InInbox (journal (j a) 2 5 true) (.jack a) [] ∧ a ≤ (journal (j a) 2 5 true).newestSent
          ∧ a ≤ (journal (j a) 2 5 true).journal.acked)
      ∧ (journal (j 2) 2 5 true).journal.release = none ∧ (journal (j 2) 2 5 true).journal.acked < 5
      ∧ (journal (j 2) 2 5 true).journal.fresh = true ∧ (journal (j 2) 2 5 true).journal.head < 114688
      ∧ (∀ x ∈ [none, some Awaiting.welcome, some Awaiting.jack],
          let r := releasing (journal (inSession ready .upload) 0 4294967295 false) 4294967294
          let s := r.setExchange { r.exchange with awaiting := x }
          s.Sound ∧ s.exchange.awaiting = x ∧ s.journal.release.map Release.upTo = some 4294967294
            ∧ s.journal.release.map Release.newHead = some 114687 ∧ 4294967294 < s.journal.next) := by decide +kernel

/-! ### What every step keeps -/

/-- Reset meets the two invariants over tables of records. -/
theorem witness_Agree : State.reset.CreditKept ∧ State.reset.ItemsAgree
    ∧ (∀ e ∈ State.reset.price.items, e.2.lastVersion < 4294967295) := by
  refine ⟨by decide, ⟨?_, ?_⟩, by decide⟩ <;> intro e h <;> simp [State.reset, PriceEngine.reset, LabelService.reset] at h

/-- Label 9 IDLE, its item's current version confirmed. -/
def shown9 : Label :=
  { label9 with phase := .idle, home := some 7, confirmed := some { version := 1, template := 3, textRevision := 0 } }

/-- Items and labels agree where label 9 shows article 5: an amount quoted is looked for with quantity 2. -/
theorem witness_QuoteAnswered_agree :
    (withLabel shown9 item9).ItemsAgree ∧ (withLabel shown9 item9).item 5 = some item9 ∧ 9 ∈ item9.labels
      ∧ (withLabel shown9 item9).label 9 = some shown9 ∧ shown9.confirmed ≠ none
      ∧ lowerOfTwo item9 2 = some (200, .current) := by
  have hl : (withLabel shown9 item9).label 9 = some shown9 := by decide +kernel
  refine ⟨⟨?_, ?_⟩, by decide +kernel, by decide, hl, by decide, by decide⟩
  · intro e he
    have h5 : (withLabel shown9 item9).price.items = [(5, item9)] := by decide +kernel
    rw [h5] at he
    simp only [List.mem_singleton] at he
    subst he
    refine ⟨by decide, by decide, ?_, by decide +kernel, by decide, fun _ => ⟨rfl, ?_⟩, ?_⟩
    · intro id h
      have h9 : id = 9 := by simpa [item9] using h
      subst h9
      refine ⟨_, hl, rfl, ?_, ?_, fun _ => rfl, ?_⟩
      · intro c hc
        simp [shown9] at hc
        subst hc
        exact Or.inl rfl
      · intro u hu
        simp [shown9, label9] at hu
      · intro v c u hv
        simp [item9, each] at hv
    · intro w hw
      simp [item9, each] at hw
    · intro v hv
      simp [item9, each] at hv
  · intro e he
    have h9 : (withLabel shown9 item9).labels.directory = [(9, shown9)] := by decide +kernel
    rw [h9] at he
    simp only [List.mem_singleton] at he
    subst he
    refine ⟨by decide, ?_⟩
    intro a h
    have h5 : a = 5 := by simpa [shown9, label9] using h.symm
    subst h5
    refine ⟨⟨item9, by decide +kernel, by decide⟩, by decide, ?_⟩
    intro u hu
    simp [shown9, label9] at hu

/-- A state with an item, a label of it SENT in a campaign, and its update in flight meets both. -/
theorem witness_Agree_campaign :
    let s := withStation (withLabel (sent9 2 .fullUpdate 0) (campaign9 1)) carrying
    s.TablesBounded ∧ s.CreditKept ∧ s.ItemAgrees (campaign9 1) ∧ s.LabelAgrees (sent9 2 .fullUpdate 0) := by
  have hl : (withStation (withLabel (sent9 2 .fullUpdate 0) (campaign9 1)) carrying).label 9 = some (sent9 2 .fullUpdate 0) := by
    decide +kernel
  refine ⟨by decide +kernel, by decide +kernel, ⟨by decide, by decide, ?_, by decide +kernel, by decide, ?_, ?_⟩, by decide, ?_⟩
  · intro id h
    have h9 : id = 9 := by simpa [campaign9] using h
    subst h9
    refine ⟨_, hl, rfl, ?_, ?_, ?_, ?_⟩
    · intro c hc
      simp [sent9, label9] at hc
    · intro u hu
      simp [sent9] at hu
      subst hu
      exact Or.inr (by decide)
    · intro hp
      simp [sent9] at hp
    · intro v c u _ hc
      simp [sent9, label9] at hc
  · intro h
    simp [campaign9, each] at h
  · intro v h
    simp [campaign9, each] at h
    subst h
    decide +kernel
  · intro a h
    have h5 : a = 5 := by simpa [sent9, label9] using h.symm
    subst h5
    refine ⟨⟨campaign9 1, by decide +kernel, by decide⟩, by decide, ?_⟩
    intro u hu
    simp [sent9] at hu
    subst hu
    decide

end Sys2Proof.Tests
end

