-- ==== Sys2Proof/Tests/Witness5.lean ====
section
/-! SUPPORT. Tests/Witness5.lean: states and operands that meet the hypotheses of the clauses about chains going on, base
stations that wait for a buffer, the entries of a LOAD_ITEMS, campaigns that an unbind settles, sightings, picks and what an
update holds. -/

namespace Sys2Proof.Tests

set_option Elab.async false

open Sys2Proof Sys2Proof.Machine

set_option synthInstance.maxSize 4096

/-! ### Chains and the scan -/

/-- RUN with two heads apart, one at a record that passes its checks and one at a record that does not, and with DELIVERY's
head given. -/
theorem witness_RunStarts_checks :
    let s := ((((stored ready 0x3000 1 0x12 0 0).setRequests { ready.requests with runState := .stopped }).writeWord
      (headWord .price) 0x3000).writeWord (headWord .net) 0x4000).writeWord (headWord .delivery) 0x5000
    s.powered = true ∧ s.requests.startState = .ready ∧ s.requests.runState = .stopped ∧ s.store.wf
      ∧ (∀ c ∈ [Chain.price, .net, .delivery], (s.chain c).phase = .off ∧ s.storeWord (headWord c) ≠ 0)
      ∧ s.storeWord (headWord .price) = 0x3000 ∧ s.storeWord (headWord .net) = 0x4000
      ∧ (∀ d ∈ [Chain.setup, .label, .exchange], s.storeWord (headWord d) = 0)
      ∧ s.recordFault 0x3000 = .noFault ∧ s.recordFault 0x4000 ≠ .noFault := by decide +kernel

/-- The scan of a journal kept, whose alert level is not reached, with a RUN remembered; and one with no room under it. -/
theorem witness_ScanReports_remembered :
    let s := (starting 1).setRequests { (starting 1).requests with rememberedRun := true }
    s.powered = true ∧ s.requests.startState = .checking ∧ s.requests.runState = .stopped
      ∧ s.requests.rememberedRun = true ∧ 1 ≤ s.journal.alertLevel ∧ s.journal.append = none
      ∧ 0 < s.journal.alertLevel := by decide +kernel

/-- A journal area with one entry, of two units and sequence 1, at its first unit. -/
def oneEntry : Memory :=
  applyWrites [] (entryWrites 0 1 { till := 12, basket := 1, day := 0, ms := 0, total := 1, lines := [line] })

/-- The backed SRAM with that entry and the header of `header1`. -/
def headedEntry : Memory := oneEntry.writeBytes 0 (header1 1).bytes

theorem headedEntry_outside (a n : Nat) (h : 64 ≤ a) : headedEntry.readBytes a n = oneEntry.readBytes a n :=
  Memory.readBytes_writeBytes_outside _ _ (Or.inr (by rw [header1_length]; omega))

/-- The entry as the walk finds it. -/
def walked1 : WalkedEntry := { till := 12, basket := 1, sequence := 1, units := 2 }

set_option maxRecDepth 100000 in
/-- The scan of a journal that holds an entry: the newest header, the walk, and an alert level the entry's units reach. -/
theorem witness_ScanReports_level :
    newestHeader headedEntry = some (header1 1, 0) ∧ WalkFinds headedEntry 0 1 0 [walked1]
      ∧ (header1 1).next ≤ (header1 1).acked + 1 + 1 ∧ ([walked1].map WalkedEntry.units).sum = 2
      ∧ (let s := (State.reset.setBacked headedEntry).setJournal { State.reset.journal with alertLevel := 2 }
         s.powered = true ∧ s.requests.startState = .checking ∧ s.journal.append = none ∧ 1 ≤ s.journal.alertLevel
           ∧ s.journal.alertLevel ≤ 2 ∧ s.requests.written - s.offeredRead < 255) := by
  refine ⟨?_, ⟨?_, ?_⟩, by decide, by decide, by decide +kernel⟩
  · refine newest_of_copy0 _ _ ?_ ?_
    · have e := Memory.readBytes_writeBytes (m := oneEntry) 0 (header1 1).bytes (by decide +kernel)
      rw [header1_length 1] at e
      exact (congrArg Header.ofBytes e).trans (header1_valid 1 (by decide) (by decide))
    · rw [show headerAddr 1 = 64 from rfl, headedEntry_outside _ _ (Nat.le_refl 64)]
      unfold Header.ofBytes
      rw [if_pos]
      decide +kernel
  · have r : ∀ a n, headedEntry.readBytes (unitAddr 0 + a) n = oneEntry.readBytes (unitAddr 0 + a) n :=
      fun a n => headedEntry_outside _ n (by unfold unitAddr; omega)
    have r0 := r 0
    simp only [Nat.add_zero] at r0
    have u : unitBytes headedEntry 1 1 = unitBytes oneEntry 1 1 := by
      simp only [unitBytes, headedEntry_outside (unitAddr 1) 64 (by decide)]
    have e : EntryAccepted oneEntry 0 1 0 walked1 := by simp only [EntryAccepted]; decide +kernel
    simp only [EntryAccepted, r, r0]
    exact ⟨e.1, e.2.1, e.2.2.1, e.2.2.2.1, e.2.2.2.2.1, rfl, e.2.2.2.2.2.2.1, e.2.2.2.2.2.2.2.1, e.2.2.2.2.2.2.2.2.1,
      (congrArg (fun x => crc32 (oneEntry.readBytes (unitAddr 0) 60 ++ x)) u).trans e.2.2.2.2.2.2.2.2.2⟩
  · intro e h
    have h1 := h.1
    rw [headedEntry_outside _ _ (by show 64 ≤ unitAddr 2 + 19; decide)] at h1
    exact absurd (show 1 ≤ leNat (oneEntry.readBytes (unitAddr 2 + 19) 1) from h1) (by decide +kernel)

/-- The link of a parked chain, given a record that passes its checks and one that does not, both apart from the link word. -/
theorem witness_LinkWrites_good :
    let s := chainAt (stored ready 0x4000 1 0x12 0 0) .price .parked 0x3FFC0
    s.Sound ∧ s.requests.runState = .running ∧ (s.chain .price).phase = .parked
      ∧ (s.chain .price).current.toNat = (0x3FFC0#18).toNat ∧ recordSpace ≤ (0x3FFC0#18).toNat
      ∧ (∀ d ∈ Chain.all, d ≠ .price → (s.chain d).phase ≠ .parked) ∧ goodOffset 0x4000 = true ∧ goodOffset 0x5000 = true
      ∧ s.recordFault 0x4000 = .noFault ∧ s.recordFault 0x5000 ≠ .noFault ∧ 0x5000 + 32 ≤ (0x3FFC0#18).toNat := by
  decide +kernel

/-- A record in hand whose link names a record that passes its checks, one that does not, END, and itself; and a chain
that is stopping. -/
theorem witness_GoneOn :
    let s := fun link : Nat => (stored (hand ready .setup 0x03 (zeros 32)) 0x4000 1 0x03 0 32).writeWord 0x3000
      (BitVec.ofNat 32 link)
    (∀ link ∈ [0, 0x3000, 0x4000, 0x5000], InHand (s link) .setup Kind.setPacer (held 0x03 (zeros 32))
        ∧ (s link).storeWord 0x3000 = BitVec.ofNat 32 link ∧ ((s link).chain .setup).stopping = false)
      ∧ (s 0x4000).recordFault 0x4000 = .noFault ∧ (s 0x5000).recordFault 0x5000 ≠ .noFault
      ∧ (held 0x03 (zeros 32)).offset = 0x3000 ∧ 0x3000 + 32 + 32 ≤ 0x4000 := by decide +kernel

/-! ### Stations that wait for a buffer -/

/-- Station 7 ACTIVE, label 9 in its ready set, waiting for a buffer; the pool empty. -/
def waitsForBuffer : State :=
  let l := { label9 with home := some 7 }
  withStation (((network true 0).setLabels (withLabel l item9).labels).setPrice (withLabel l item9).price)
    { station7 .active with ready := [9], waitingForBuffer := true }

/-- A buffer comes back while a station waits for one: at the end of a transmission, at a delivery, at a lost link of a LAN
port and of the uplink, and at the close of the day; the table holds the station once. -/
theorem witness_afterReturns :
    let s := waitsForBuffer
    s.Sound ∧ s.TablesBounded ∧ (s.link.table.map BaseStation.id).Nodup
      ∧ s.link.table.filter (fun b => b.phase == .active && b.waitingForBuffer)
          = [{ station7 .active with ready := [9], waitingForBuffer := true }]
      ∧ (let p := s.setPort .p4 { s.port .p4 with wire := some (.buffered frame64) }
         p.Sound ∧ (p.port .p4).wire = some (.buffered frame64) ∧ (p.port .p4).linkUp = true
           ∧ (p.port .p4).role ≠ some .uplink ∧ (p.port .p4).held = 1)
      ∧ (let d : Delivery := { frame := frame64, ingress := .p4, reason := .toAppliance }
         let f := stored (chainAt (s.setNet { s.net with delivery := [d] }) .delivery .running 0x3000) 0x3000 1 0x51 0 72
         f.Sound ∧ f.net.delivery = [d] ∧ (f.chain .delivery).phase = .running
           ∧ (f.chain .delivery).current.toNat = 0x3000 ∧ f.recordFault 0x3000 = .noFault
           ∧ (f.readRecord 0x3000).kind = 0x51 ∧ 8 ≤ f.bodyLength 0x3000)
      ∧ (let u := s.setNet { s.net with paused := true, classes := ⟨[frame64], [], [], [frame64]⟩ }
         u.Sound ∧ u.net.paused = true ∧ (u.port .p0).role = some .uplink ∧ (u.port .p0).linkUp = true
           ∧ (u.port .p3).role = some .guest ∧ (u.port .p3).linkUp = true ∧ u.exchange.state = .idle
           ∧ (let c := u.setClock { u.clock with period := .opened, closeDue := true }
              c.Sound ∧ c.clock.closeDue = true ∧ c.clock.period = .opened ∧ c.net.uplink = some .p0)) := by decide +kernel

/-- The stations that wait, of a table with an ACTIVE one and a LOST one. -/
theorem witness_ArbiterRuns_table :
    let s := waitsForBuffer.setLink { waitsForBuffer.link with
      table := waitsForBuffer.link.table ++ [{ station7 .lost with id := 8 }] }
    (s.link.table.map BaseStation.id).Nodup ∧ (s.link.table.map BaseStation.id) = [7, 8] := by decide +kernel

/-! ### Entries -/

/-- Four entries: one in form, the same article again, one in the table, one out of form. -/
def fourEntries : List Byte :=
  loadBody 4 (topEntry ++ topEntry ++ entryBytes 5 1 0 2 1 1 100 0 0 ++ entryBytes 1 0 0 2 1 1 0 0 0)

theorem witness_ItemsLoaded_several :
    let s := hand (ready.putItem (each 100 none none)) .price 0x11 fourEntries
    InHand s .price Kind.loadItems (held 0x11 fourEntries) ∧ s.TablesBounded ∧ leField fourEntries 0 1 = 4
      ∧ fourEntries.length = 4 + 52 * 4
      ∧ s.loadResults [] ((List.range 4).map (fun k => itemEntryOf ((fourEntries.drop (4 + 52 * k)).take 52)))
          = [.ok, .exists_, .exists_, .badForm] := by decide +kernel

/-- A PRICE row with nothing to load. -/
theorem witness_ItemsLoaded_none :
    let b := loadBody 2 (entryBytes 5 1 0 2 1 1 100 0 0 ++ entryBytes 1 0 0 2 1 1 0 0 0)
    let s := hand (ready.putItem (each 100 none none)) .price 0x11 b
    InHand s .price Kind.loadItems (held 0x11 b) ∧ s.TablesBounded
      ∧ s.loadResults [] ((List.range 2).map (fun k => itemEntryOf ((b.drop (4 + 52 * k)).take 52))) = [.exists_, .badForm] := by
  decide +kernel

/-! ### Roles lost -/

/-- A till signed on at P1 and a station ACTIVE at P2 that hold nothing, as their ports lose TILL and LABEL. -/
theorem witness_PortRolesSet_notices :
    let b := bs [1, 5, 5, 4, 0] ++ (rolesBody 5).drop 5
    let n := withStation (network true 9) (station7 .active)
    let s := hand (n.setTills { n.tills with
      entries := n.tills.entries.set 11 { TillEntry.reset with phase := .signedOn, port := some .p1 } }) .setup 0x01 b
    InHand s .setup Kind.setPortRoles (held 0x01 b) ∧ s.exchange.state = .idle
      ∧ (roleSettingsOf b).map RoleSettings.inForm = some true ∧ (s.link.table.map BaseStation.id).Nodup
      ∧ (s.port .p1).role = some .till ∧ (s.port .p2).role = some .label
      ∧ (s.till 12).map TillEntry.phase = some .signedOn ∧ (station7 .active).phase = .active := by decide +kernel

/-! ### Labels -/

/-- Article 5 in a campaign, with label 9 and perhaps 10, a change waiting, queried or not. -/
def settling (labels : List Nat) (outstanding : Nat) (waiting : Option Bool) : Item :=
  { each 100 none (some ⟨2, 90, none⟩) with
    labels := labels, outstanding := outstanding
    waiting := waiting.map (fun q => { base := 10, promo := none, queried := q }) }

/-- A campaign an unbind leaves, with a label of it outstanding, with the label confirmed on the pending version, with the
label's update in flight, and with its home LOST or out of credit; the last label of a campaign with no change waiting, a
queried one, and one to be placed, with no label left and with one QUEUED. -/
theorem witness_LabelTurned_campaign :
    let b4 := leBytes 4 9
    let t := fun l i => hand (withLabel l i) .label 0x22 b4
    let on2 := { label9 with phase := .idle, confirmed := some { version := 2, template := 3, textRevision := 0 } }
    let two := ((withLabel label9 (settling [9, 10] 1 (some false))).setLabels
      { (withLabel label9 item9).labels with
        directory := (withLabel label9 item9).labels.directory ++ [(10, { label9 with id := 10 })] })
    (∀ x ∈ [(label9, settling [9, 10] 2 none), (on2, settling [9] 0 none), ({ label9 with phase := .sent }, settling [9, 10] 2 none),
          (label9, settling [9] 1 none), (label9, settling [9] 1 (some true)), (label9, settling [9] 1 (some false))],
        InHand (t x.1 x.2) .label Kind.unbindLabel (held 0x22 b4) ∧ (t x.1 x.2).TablesBounded
        ∧ (t x.1 x.2).label 9 = some x.1 ∧ (t x.1 x.2).item 5 = some x.2 ∧ 9 ∈ x.2.labels ∧ x.1.article = some 5
        ∧ x.1.home = none)
      ∧ on2.confirmed.map Confirmed.version = some 2 ∧ (settling [9] 0 none).pending.map Version.number = some 2
      ∧ 1 < (settling [9, 10] 2 none).outstanding ∧ (settling [9] 1 none).outstanding = 1 ∧ label9.confirmed = none
      ∧ (settling [9] 1 (some false)).labels.filter (fun x => x != 9) = []
      ∧ InHand (hand two .label 0x22 b4) .label Kind.unbindLabel (held 0x22 b4) ∧ two.TablesBounded
      ∧ two.item 5 = some (settling [9, 10] 1 (some false))
      ∧ (settling [9, 10] 1 (some false)).labels.filter (fun x => x != 9) = [10]
      ∧ two.label 10 = some { label9 with id := 10 }
      ∧ (∀ p ∈ [StationPhase.lost, .active],
          let h := withStation (withLabel { label9 with home := some 7 } (settling [9, 10] 2 none))
            { station7 p with credit := 0 }
          InHand (hand h .label 0x22 b4) .label Kind.unbindLabel (held 0x22 b4) ∧ h.TablesBounded
          ∧ h.station 7 = some { station7 p with credit := 0 }
          ∧ (∀ x ∈ h.link.table, x.id = 7 → x = { station7 p with credit := 0 })) := by decide +kernel

/-- Label 9 IDLE given another template, and STALE retried, its home ACTIVE with credit and room on its port. -/
theorem witness_LabelTurned_sent :
    let s := fun p => withStation (((network true 9).setLabels (withLabel { label9 with home := some 7, phase := p } item9).labels).setPrice
      (withLabel label9 item9).price) (station7 .active)
    let b := leBytes 4 9 ++ leBytes 2 4 ++ zeros 2
    InHand (hand (s .idle) .label 0x23 b) .label Kind.setLabelTemplate (held 0x23 b)
      ∧ InHand (hand (s .stale) .label 0x24 (leBytes 4 9)) .label Kind.retryLabel (held 0x24 (leBytes 4 9))
      ∧ (∀ p ∈ [LabelPhase.idle, .stale], (s p).TablesBounded ∧ (s p).label 9 = some { label9 with home := some 7, phase := p }
          ∧ (s p).station 7 = some (station7 .active) ∧ (∀ x ∈ (s p).link.table, x.id = 7 → x = station7 .active)
          ∧ (s p).item 5 = some item9 ∧ (s p).JoinsLan .p2
          ∧ (s p).labels.templates.find 4 = some Template.blank ∧ (s p).labels.templates.find 3 = some Template.blank)
      ∧ (station7 .active).costInFlight + (buildUpdate { label9 with template := 4 } Template.blank item9).kind.cost
          ≤ (station7 .active).credit ∧ 9 ∈ item9.labels := by decide +kernel

/-- Sightings by station 7 of a label IDLE, SENT, QUEUED there, UNBINDING with its update in flight; and of one QUEUED or
UNBINDING with its BLANK due that has no home, or waits at station 8, while station 7 has no credit. -/
theorem witness_StationReports_waiting :
    let busy := { station7 .active with credit := 0 }
    let s := fun l => (heardOf (withLabel l item9) 0x0200000000D0 (.seen [sight9])).setLink
      { (heardOf (withLabel l item9) 0x0200000000D0 (.seen [sight9])).link with
        table := [busy, { busy with id := 8, address := 0x0200000000D1, ready := [9] }] }
    let blank : Label := { label9 with phase := .unbinding, article := none, blankDue := true }
    (∀ l ∈ [{ label9 with phase := .idle }, sent9 1 .fullUpdate 0, { label9 with home := some 7 },
          { sent9 1 .fullUpdate 0 with phase := .unbinding, article := none, blankDue := true },
          label9, { label9 with home := some 8 }, blank, { blank with home := some 8 }, { blank with home := some 7 }],
        (s l).Sound ∧ (s l).TablesBounded ∧ (s l).label 9 = some l ∧ (s l).station 7 = some busy
        ∧ (∀ x ∈ (s l).link.table, x.id = 7 → x = busy) ∧ (s l).item 5 = some item9)
      ∧ busy.phase = .active ∧ busy.address = 0x0200000000D0 ∧ busy.ready = [] ∧ busy.credit ≤ busy.costInFlight
      ∧ label9.phase = .queued ∧ label9.confirmed = none ∧ label9.article = some 5 := by decide +kernel

/-! ### Picks and updates -/

/-- A pick of NOTHING for the one label ready: QUEUED at its target, and UNBINDING with its update in flight. -/
theorem witness_ArbiterRuns_nothing :
    let b := { station7 .active with ready := [9] }
    (∀ l ∈ [{ shown9 with phase := .queued }, { sent9 1 .fullUpdate 0 with phase := .unbinding, blankDue := true }],
      let s := withStation (withLabel l item9) b
      s.Sound ∧ s.TablesBounded ∧ s.station 7 = some b ∧ s.label 9 = some l ∧ s.pick l = none ∧ l.home = some 7)
      ∧ b.phase = .active := by decide +kernel

/-- Picks: a QUEUED label at its target and one short of it, a BLANK due, and an IDLE label. -/
theorem witness_ArbiterRuns_pick :
    let s := withLabel label9 item9
    label9.phase = .queued ∧ label9.article = some 5 ∧ s.item 5 = some item9
      ∧ shown9.confirmed = some { version := (item9.pending.getD item9.current).number, template := shown9.template
                                  textRevision := item9.textRevision }
      ∧ label9.confirmed ≠ some { version := 1, template := 3, textRevision := 0 }
      ∧ s.labels.templates.find label9.template = some Template.blank ∧ shown9.phase = .idle := by decide +kernel

/-- What a label shows is held as the current version while another is pending, or as the pending one; with its text raised
since, it is held no more. -/
theorem witness_ArbiterRuns_holds :
    let i := { each 100 (some ⟨3, 250⟩) (some ⟨2, 90, none⟩) with labels := [9] }
    let holds := fun (l : Label) (i : Item) (c : Confirmed) (old : Version) => c.template = l.template
      ∧ c.textRevision = i.textRevision
      ∧ c.version = old.number ∧ (old = i.current ∨ (i.current.number ≠ c.version ∧ i.pending = some old))
    holds shown9 i { version := 1, template := 3, textRevision := 0 } i.current
      ∧ holds shown9 i { version := 2, template := 3, textRevision := 0 } ⟨2, 90, none⟩
      ∧ ¬ holds shown9 { i with textRevision := 1 } { version := 1, template := 3, textRevision := 0 } i.current
      ∧ label9.confirmed = none := by decide

/-! ### Messages of the tills and the base stations -/

/-- A till's and a base station's messages, and frames that spell none: a kind, an id or a field out of range. -/
theorem witness_TillSpelled :
    TillSpelled (bs [1, 12] ++ zeros 44) .signOn
      ∧ TillSpelled (bs [3, 12] ++ beBytes 2 7 ++ beBytes 6 5 ++ beBytes 4 2 ++ zeros 32) (.quoteAsk 7 5 2)
      ∧ (∀ m, ¬ TillSpelled (bs [2, 12] ++ zeros 44) m)
      ∧ LabelSpelled (bs [1, 0, 7, 0, 1, 64, 0, 0] ++ zeros 38) 7 (.hello 1 64 0)
      ∧ LabelSpelled (bs [3, 0, 7, 1] ++ beBytes 4 9 ++ bs [100, 255] ++ zeros 36) 7 (.seen [sight9])
      ∧ (∀ id m, ¬ LabelSpelled (bs [1, 0, 7, 0, 1, 65, 0, 0] ++ zeros 38) id m) := by
  refine ⟨by simp only [TillSpelled]; decide, by simp only [TillSpelled]; decide, ?_,
    by simp only [LabelSpelled]; decide, ?_, ?_⟩
  · rintro (_ | _ | _ | _) h
    · exact absurd h.2 (by decide)
    · exact absurd h.2.1 (by decide)
    · exact absurd h.2.1 (by decide)
    · exact absurd h.2 (by decide)
  · refine ⟨by decide, by decide, by decide, by decide, by decide, by decide, by decide, ?_⟩
    intro k g h
    match k, h with
    | 0, h => obtain rfl := Option.some.inj h; decide
  · rintro id (⟨boot, credit, zone⟩ | gs | ⟨tag, label, o⟩) ⟨-, -, h⟩
    · obtain ⟨-, -, -, rfl, -, -, h⟩ := h
      exact absurd h (by decide)
    · exact absurd h.1 (by decide)
    · exact absurd h.2.1 (by decide)

/-! ### Frames -/

/-- A SEND_FRAME towards the gateway, and to a station learned on the uplink: its link up with room, STORE full, and its link
down. -/
theorem witness_FrameSent_uplink :
    let learnt := fun n : State => n.setStations [(stranger, { port := .p0, lastSeen := 0 })]
    (∀ b ∈ [sendBody 1 0 64 0x020000000003 64, sendBody 1 0 64 stranger 64], ∀ up ∈ [true, false],
        InHand (hand (learnt (network up 1)) .net 0x31 b) .net Kind.sendFrame (held 0x31 b))
      ∧ (learnt (network true 1)).stationRecord (BitVec.ofNat 48 stranger) = some { port := .p0, lastSeen := 0 }
      ∧ ((learnt (network true 1)).port .p0).role = some .uplink ∧ (network true 1).net.uplink = some .p0
      ∧ 0 < (network true 1).net.freeBuffers ∧ ((network true 1).port .p0).linkUp = true
      ∧ (network true 1).net.classes.store.length < (network true 1).net.classCaps.store
      ∧ ((network false 1).port .p0).linkUp = false
      ∧ (let f := (network true 1).setNet { (network true 1).net with
           classCaps := { (network true 1).net.classCaps with store := 0 } }
         f.Sound ∧ ¬ f.net.classes.store.length < f.net.classCaps.store) := by decide +kernel

end Sys2Proof.Tests
end

