-- ==== Sys2Proof/Tests/Witness6.lean ====
section
/-! SUPPORT. Tests/Witness6.lean: states and operands that meet the hypotheses of the clauses about writings cut short,
partial writes of watched words, a STOP on the DELIVERY chain, port roles with stations that wait, datagrams that are not the
exchange's, sessions the uplink loses and the journal's working state. -/

namespace Sys2Proof.Tests

set_option Elab.async false

open Sys2Proof Sys2Proof.Machine

set_option synthInstance.maxSize 4096

/-! ### What a reset or a power loss cuts short -/

/-- An append that has started, five pieces to write, with a release in progress; and the scan. -/
theorem witness_Interrupted :
    let s := releasing (appending true 2 0 2) 1
    s.powered = true ∧ s.backed.wf ∧ s.requests.startState = .ready ∧ s.journal.release ≠ none
      ∧ (s.journal.append.map Append.started) = some true
      ∧ (entryWrites s.journal.tail s.journal.next
          { till := 12, basket := 1, day := 0, ms := 0, total := 1, lines := [line] }).length = 2
      ∧ State.reset.powered = true ∧ State.reset.backed.wf ∧ State.reset.requests.startState = .checking := by
  decide +kernel

/-! ### Chains -/

/-- STOP on a RUNNING DELIVERY chain with no record in hand, a frame waiting and a station waiting for its buffer; and a
STOP while STOPPED. -/
theorem witness_StopTable_delivery :
    let d : Delivery := { frame := frame64, ingress := .p4, reason := .toAppliance }
    let s := chainAt (waitsForBuffer.setNet { waitsForBuffer.net with delivery := [d] }) .delivery .running 0x3000
    s.Sound ∧ s.requests.runState = .running ∧ (s.chain .delivery).phase = .running
      ∧ (s.chain .delivery).inHand = none ∧ s.net.delivery.length = 1
      ∧ s.link.table.any (fun b => b.waitingForBuffer) = true
      ∧ State.reset.Sound ∧ State.reset.requests.runState = .stopped := by decide +kernel

/-- A partial write of the link of a parked record, of PRICE's head word and of its command word, which merges to 0x4000, to
0x4000 and to 1; the read count word while RUNNING, which nobody watches; and no byte enabled. -/
theorem witness_LinkWrites_partial :
    let s := ((chainAt ready .price .parked 0x3FFC0).writeWord 0x3FFC0 0x4012).writeWord (headWord .price) 0x4012
    let merged := fun (off : BitVec 18) (v : Word) (e : BitVec 4) (w : Word) => ∀ i : Fin 4,
      (w >>> (8 * i.val)).setWidth 8
        = if e.getLsbD i then (v >>> (8 * i.val)).setWidth 8 else s.store.read (off.toNat + i)
    s.Sound ∧ s.requests.runState = .running ∧ (0x3FFC0#18).toNat % 4 = 0 ∧ recordSpace ≤ (0x3FFC0#18).toNat
      ∧ (1#4 : BitVec 4) ≠ 0 ∧ merged 0x3FFC0 0xFFFFFF00 1 0x4000 ∧ merged (BitVec.ofNat 18 (headWord .price)) 0xFF00 1 0x4000
      ∧ merged (BitVec.ofNat 18 (commandWord .price)) 0xFF01 1 1
      ∧ (BitVec.ofNat 18 (headWord .price)).toNat = headWord .price
      ∧ (BitVec.ofNat 18 (commandWord .price)).toNat = commandWord .price
      ∧ (s.chain .price).phase = .parked ∧ (s.chain .price).current.toNat = (0x3FFC0#18).toNat
      ∧ (∀ d ∈ Chain.all, d ≠ .price → (s.chain d).phase ≠ .parked) ∧ goodOffset 0x4000 = true
      ∧ (0x580#18).toNat % 4 = 0
      ∧ (∀ c ∈ Chain.all, (0x580#18).toNat ≠ headWord c ∧ (0x580#18).toNat ≠ commandWord c
          ∧ (s.chain c).current.toNat ≠ (0x580#18).toNat) := by decide +kernel

/-! ### The network -/

/-- Roles that move the UPLINK from P0 to P4 and take LABEL from P2, with guest frames queued, a station of P2 that waits for
a buffer, and an update in flight there, at its label's home. -/
theorem witness_PortRolesSet_waiting :
    let b := bs [5, 2, 5, 4, 1, 0] ++ (rolesBody 5).drop 6
    let w := waitsForBuffer.setNet { waitsForBuffer.net with classes := ⟨[], [], [], [frame64]⟩, paused := true }
    let u := withStation ((network true 0).setLabels (withLabel (sent9 1 .fullUpdate 0) item9).labels) carrying
    (∀ s ∈ [w, u], InHand (hand s .setup 0x01 b) .setup Kind.setPortRoles (held 0x01 b) ∧ s.exchange.state = .idle
        ∧ s.net.uplink = some .p0 ∧ (s.port .p2).role = some .label ∧ (s.link.table.map BaseStation.id).Nodup)
      ∧ (roleSettingsOf b).map RoleSettings.inForm = some true
      ∧ (roleSettingsOf b).map (fun q => (q.roles.get .p4, q.roles.get .p2)) = some (some .uplink, some .office)
      ∧ w.link.table.any (fun x => x.waitingForBuffer) = true
      ∧ (∀ x ∈ u.link.table, x.phase = .active ∧ (x.inFlight.map (fun r => r.label)) = [9])
      ∧ (u.label 9).bind Label.home = some 7 := by decide +kernel

/-- A datagram to the part's own address that is not the exchange's, UDP to port 4001, to the appliance and to the
controller. -/
theorem witness_FramesReceived_own :
    let s := (withServer .opening).setExchange { (withServer .opening).exchange with udpPort := 4001 }
    let frame := fun dest => wire dest stranger 0x0800 (packet 0 (serverBytes 2 (beBytes 4 7))) 100
    s.Sound ∧ (s.port .p0).role = some .uplink ∧ s.requests.runState = .running
      ∧ (∀ dest ∈ [0x020000000001, 0x020000000002], (frame dest).length = 100
        ∧ s.OwnDatagram .uplink (Frame.ofBytes (frame dest)) ∧ ¬ s.ExchangeDatagram .uplink (Frame.ofBytes (frame dest))
        ∧ (Frame.ofBytes (frame dest)).source ≠ (Frame.ofBytes (frame dest)).dest)
      ∧ (Frame.ofBytes (frame 0x020000000001)).dest = s.net.appliance
      ∧ (Frame.ofBytes (frame 0x020000000002)).dest = s.net.controller
      ∧ s.stationRecord 0x020000000001 = none ∧ s.net.delivery.length < 64
      ∧ ((chainAt s .delivery .running 0x3000).chain .delivery).phase = .running ∧ (s.chain .delivery).phase ≠ .running
      ∧ (withServer .opening).ExchangeDatagram .uplink (Frame.ofBytes (frame 0x020000000001))
      ∧ s.ExchangeDatagram .uplink (Frame.ofBytes (wire 0x020000000001 stranger 0x0800 (packet 1 []) 100)) := by
  decide +kernel

/-- The link of the UPLINK port, a session open: the uplink up, and already down. -/
theorem witness_LinksReported_session :
    let s := fun up => (network true 1).setExchange { ready.exchange with state := .upload, uplinkUp := up }
    ∀ up ∈ [true, false], (s up).Sound ∧ ((s up).port .p0).linkUp = true ∧ ((s up).port .p0).role = some .uplink
      ∧ (s up).exchange.state ≠ .idle ∧ (s up).exchange.uplinkUp = up := by decide +kernel

/-- The window's start with the uplink down, and the close of the day with no UPLINK port. -/
theorem witness_TimePasses_uplink :
    let due : Clock := { ready.clock with closeDue := true, windowDue := true, period := .opened }
    let s := (atMidnight due).setExchange { ready.exchange with paramsSet := true }
    let c := (ready.setClock due)
    s.Sound ∧ s.clock.windowDue = true ∧ s.exchange.paramsSet = true ∧ s.exchange.state = .idle
      ∧ s.clock.base = some { day := 65535, ms := 86399999, count := 0 } ∧ s.clock.windowEnd < 86400000
      ∧ s.exchange.uplinkUp = false
      ∧ c.Sound ∧ c.clock.closeDue = true ∧ c.clock.period = .opened ∧ c.net.uplink = none := by decide +kernel

/-! ### What every step keeps -/

/-- The journal's working state: at reset, and with an append that has started beside a release in progress. -/
theorem witness_JournalSound :
    State.reset.JournalSound ∧ (releasing (appending true 2 2 4) 2).JournalSound
      ∧ step State.reset = .next State.reset :=
  ⟨⟨by decide, by decide, by decide, by simp [State.reset, Journal.reset], by simp [State.reset, Journal.reset],
      by simp [State.reset, Journal.reset, RequestUnit.reset, TillService.reset, Exchange.reset]⟩,
    ⟨by decide +kernel, by decide +kernel, by decide +kernel,
      (by intro a h; cases h; intro h; cases h), (by intro r h; cases h; decide +kernel), (by intro h; cases h)⟩, rfl⟩

end Sys2Proof.Tests
end

section
/-! PROOFS. Tables of records: which record a key finds, how long a table is after a change, and the parts of
`TablesBounded`. -/

namespace Sys2Proof.Machine

/-! ### Records and keys -/

theorem Table.mem_of_find {α : Type} {t : Table α} {k : Nat} {v : α} (h : Table.find t k = some v) : (k, v) ∈ t := by
  induction t with
  | nil => simp [Table.find] at h
  | cons y t ih =>
    obtain ⟨a, w⟩ := y
    simp only [Table.find] at h
    split at h
    · cases h; subst_vars; exact List.mem_cons_self
    · exact List.mem_cons_of_mem _ (ih h)

theorem Table.find_of_mem {α : Type} {t : Table α} {k : Nat} {v : α} (hr : Table.rising t) (h : (k, v) ∈ t) :
    Table.find t k = some v := by
  induction t with
  | nil => cases h
  | cons y t ih =>
    obtain ⟨a, w⟩ := y
    have ⟨h1, h2⟩ := List.pairwise_cons.mp hr
    rcases List.mem_cons.mp h with h | h
    · cases h; simp [Table.find]
    · have := h1 _ h
      simp only at this
      simp [Table.find, Nat.ne_of_lt this, ih h2 h]

/-- Setting a record adds at most one. -/
theorem Table.length_put_le {α : Type} (t : Table α) (k : Nat) (x : α) : (Table.put t k x).length ≤ t.length + 1 := by
  induction t with
  | nil => simp [Table.put]
  | cons y t ih =>
    obtain ⟨a, v⟩ := y
    simp only [Table.put]
    split
    · simp
    · split <;> simp; omega

/-- Setting a record under a key that has one keeps the number of records. -/
theorem Table.length_put_of_find {α : Type} {t : Table α} {k : Nat} {v : α} (x : α) (hr : Table.rising t)
    (h : Table.find t k = some v) : (Table.put t k x).length = t.length := by
  induction t with
  | nil => simp [Table.find] at h
  | cons y t ih =>
    obtain ⟨a, w⟩ := y
    have ⟨h1, h2⟩ := List.pairwise_cons.mp hr
    simp only [Table.put]
    split
    · rename_i hk
      have hm := Table.mem_of_find h
      rcases List.mem_cons.mp hm with e | hm
      · cases e; omega
      · have := h1 _ hm; simp only at this; omega
    · split
      · simp
      · rename_i hne
        simp only [Table.find, if_neg (Ne.symm hne)] at h
        simp [ih h2 h]

/-- Setting a record under a key that has none adds one. -/
theorem Table.length_put_of_none {α : Type} {t : Table α} {k : Nat} (x : α)
    (h : Table.find t k = none) : (Table.put t k x).length = t.length + 1 := by
  induction t with
  | nil => rfl
  | cons y t ih =>
    obtain ⟨a, w⟩ := y
    simp only [Table.find] at h
    split at h
    · cases h
    · rename_i hne
      simp only [Table.put, if_neg (Ne.symm hne)]
      split
      · simp
      · simp [ih h]

theorem Table.length_del_le {α : Type} (t : Table α) (k : Nat) : (Table.del t k).length ≤ t.length := by
  induction t with
  | nil => simp [Table.del]
  | cons y t ih =>
    obtain ⟨a, v⟩ := y
    simp only [Table.del]
    split <;> simp; exact ih

/-- What a key finds once a record is set. -/
theorem Table.find_put {α : Type} (t : Table α) (k j : Nat) (x : α) :
    Table.find (Table.put t k x) j = if j = k then some x else Table.find t j := by
  split
  · subst_vars; exact Table.find_put_same t _ x
  · exact Table.find_put_other t x ‹_›

/-- What a key finds once a record is taken out. -/
theorem Table.find_del {α : Type} {t : Table α} (hr : Table.rising t) (k j : Nat) :
    Table.find (Table.del t k) j = if j = k then none else Table.find t j := by
  split
  · subst_vars; exact Table.find_del_same _ hr
  · exact Table.find_del_other t ‹_›

/-! ### The parts of TablesBounded -/

/-- The item table is keyed and within its size (R1). -/
def ItemsOk (t : Table Item) : Prop := Table.rising t ∧ (∀ e ∈ t, e.2.article = e.1) ∧ t.length ≤ 65536

/-- The label directory is keyed and within its size (R76). -/
def LabelsOk (t : Table Label) : Prop := Table.rising t ∧ (∀ e ∈ t, e.2.id = e.1) ∧ t.length ≤ 32768

/-- The template table is keyed by the numbers 0 to 255 (R79). -/
def TemplatesOk (t : Table Template) : Prop := Table.rising t ∧ ∀ e ∈ t, e.1 ≤ 255

/-- The base station table holds each id once, within its size (R105). -/
def StationsOk (t : List BaseStation) : Prop := t.length ≤ 32 ∧ (t.map BaseStation.id).Nodup

/-- The table of learned stations is keyed and within its size (R153). -/
def LearnedOk (t : Table StationRecord) : Prop := Table.rising t ∧ t.length ≤ 1024

/-- The guest session table is keyed and within its size (R164). -/
def SessionsOk (t : Table GuestSession) : Prop := Table.rising t ∧ t.length ≤ 512

theorem State.tablesBounded_iff (s : State) : s.TablesBounded ↔
    ItemsOk s.price.items ∧ LabelsOk s.labels.directory ∧ TemplatesOk s.labels.templates ∧ StationsOk s.link.table
      ∧ LearnedOk s.net.stations ∧ SessionsOk s.guests.sessions := by
  unfold State.TablesBounded ItemsOk LabelsOk TemplatesOk StationsOk LearnedOk SessionsOk
  simp only [and_assoc]

theorem ItemsOk.put {t : Table Item} (h : ItemsOk t) (i : Item)
    (hl : (∃ j, Table.find t i.article = some j) ∨ t.length < 65536) : ItemsOk (Table.put t i.article i) := by
  obtain ⟨hr, hk, hn⟩ := h
  refine ⟨Table.put_rising _ _ hr, fun e he => ?_, ?_⟩
  · rcases Table.mem_put he with rfl | he
    · rfl
    · exact hk e he
  · rcases hl with ⟨j, hj⟩ | hl
    · rw [Table.length_put_of_find i hr hj]; exact hn
    · have := Table.length_put_le t i.article i; omega

theorem ItemsOk.del {t : Table Item} (h : ItemsOk t) (k : Nat) : ItemsOk (Table.del t k) :=
  ⟨Table.del_rising k h.1, fun e he => h.2.1 e (Table.mem_del he), (Table.length_del_le t k).trans h.2.2⟩

theorem LabelsOk.put {t : Table Label} (h : LabelsOk t) (l : Label)
    (hl : (∃ j, Table.find t l.id = some j) ∨ t.length < 32768) : LabelsOk (Table.put t l.id l) := by
  obtain ⟨hr, hk, hn⟩ := h
  refine ⟨Table.put_rising _ _ hr, fun e he => ?_, ?_⟩
  · rcases Table.mem_put he with rfl | he
    · rfl
    · exact hk e he
  · rcases hl with ⟨j, hj⟩ | hl
    · rw [Table.length_put_of_find l hr hj]; exact hn
    · have := Table.length_put_le t l.id l; omega

theorem LabelsOk.del {t : Table Label} (h : LabelsOk t) (k : Nat) : LabelsOk (Table.del t k) :=
  ⟨Table.del_rising k h.1, fun e he => h.2.1 e (Table.mem_del he), (Table.length_del_le t k).trans h.2.2⟩

theorem TemplatesOk.put {t : Table Template} (h : TemplatesOk t) {k : Nat} (hk : k ≤ 255) (x : Template) :
    TemplatesOk (Table.put t k x) := by
  refine ⟨Table.put_rising _ _ h.1, fun e he => ?_⟩
  rcases Table.mem_put he with rfl | he
  · exact hk
  · exact h.2 e he

theorem LearnedOk.put {t : Table StationRecord} (h : LearnedOk t) (k : Nat) (x : StationRecord)
    (hl : (Table.find t k).isSome ∨ t.length < 1024) : LearnedOk (Table.put t k x) := by
  refine ⟨Table.put_rising _ _ h.1, ?_⟩
  rcases hl with hl | hl
  · obtain ⟨j, hj⟩ := Option.isSome_iff_exists.mp hl
    rw [Table.length_put_of_find x h.1 hj]; exact h.2
  · have := Table.length_put_le t k x; omega

theorem LearnedOk.del {t : Table StationRecord} (h : LearnedOk t) (k : Nat) : LearnedOk (Table.del t k) :=
  ⟨Table.del_rising k h.1, (Table.length_del_le t k).trans h.2⟩

theorem LearnedOk.filter {t : Table StationRecord} (h : LearnedOk t) (f : Nat × StationRecord → Bool) :
    LearnedOk (List.filter f t) :=
  ⟨h.1.filter _, (List.length_filter_le _ _).trans h.2⟩

theorem SessionsOk.put {t : Table GuestSession} (h : SessionsOk t) (k : Nat) (x : GuestSession)
    (hl : (∃ g, Table.find t k = some g) ∨ t.length < 512) : SessionsOk (Table.put t k x) := by
  refine ⟨Table.put_rising _ _ h.1, ?_⟩
  rcases hl with ⟨j, hj⟩ | hl
  · rw [Table.length_put_of_find x h.1 hj]; exact h.2
  · have := Table.length_put_le t k x; omega

theorem SessionsOk.del {t : Table GuestSession} (h : SessionsOk t) (k : Nat) : SessionsOk (Table.del t k) :=
  ⟨Table.del_rising k h.1, (Table.length_del_le t k).trans h.2⟩

theorem SessionsOk.filter {t : Table GuestSession} (h : SessionsOk t) (f : Nat × GuestSession → Bool) :
    SessionsOk (List.filter f t) :=
  ⟨h.1.filter _, (List.length_filter_le _ _).trans h.2⟩

/-- A station's entry replaced keeps the ids of the table in place. -/
theorem map_id_replace (t : List BaseStation) (b : BaseStation) :
    (t.map (fun x => if x.id = b.id then b else x)).map BaseStation.id = t.map BaseStation.id := by
  rw [List.map_map]
  refine List.map_congr_left fun x _ => ?_
  simp only [Function.comp_apply]
  split
  · exact (Eq.symm ‹_›)
  · rfl

theorem StationsOk.replace {t : List BaseStation} (h : StationsOk t) (b : BaseStation) :
    StationsOk (t.map (fun x => if x.id = b.id then b else x)) :=
  ⟨by simpa using h.1, by rw [map_id_replace]; exact h.2⟩

theorem StationsOk.append {t : List BaseStation} (h : StationsOk t) (b : BaseStation) (hl : t.length < 32)
    (hb : t.find? (fun x => x.id == b.id) = none) : StationsOk (t ++ [b]) := by
  refine ⟨by simp; omega, ?_⟩
  rw [List.map_append, List.nodup_append]
  refine ⟨h.2, by simp, ?_⟩
  intro x hx y hy
  obtain ⟨c, hc, rfl⟩ := List.mem_map.mp hx
  have := List.find?_eq_none.mp hb c hc
  simp only [List.map_cons, List.map_nil, List.mem_singleton] at hy
  subst hy
  simpa using this

end Sys2Proof.Machine
end

section
/-! PROOFS. Which operations leave every table alone and keep the notice log bounded. -/

namespace Sys2Proof.Machine

/-- Between two states the notice log stays bounded, and every table keyed and within its size. -/
structure Held (s t : State) : Prop where
  log : s.LogBounded → t.LogBounded
  tables : s.TablesBounded → t.TablesBounded

theorem Held.refl (s : State) : Held s s := ⟨id, id⟩

theorem Held.trans {s t u : State} (h : Held s t) (h' : Held t u) : Held s u :=
  ⟨fun hs => h'.log (h.log hs), fun hs => h'.tables (h.tables hs)⟩

/-- Between two states no item and no label record has changed, and the log and the tables are held. -/
structure Calm (s t : State) : Prop where
  items : t.price.items = s.price.items
  directory : t.labels.directory = s.labels.directory
  held : Held s t

theorem Calm.refl (s : State) : Calm s s := ⟨rfl, rfl, .refl s⟩

theorem Calm.trans {s t u : State} (h : Calm s t) (h' : Calm t u) : Calm s u :=
  ⟨h'.items.trans h.items, h'.directory.trans h.directory, h.held.trans h'.held⟩

theorem Calm.foldl {α : Type} {s : State} {f : State → α → State} (hf : ∀ t x, Calm s t → Calm s (f t x)) (l : List α)
    {t : State} (h : Calm s t) : Calm s (l.foldl f t) := by
  induction l generalizing t with
  | nil => exact h
  | cons x l ih => exact ih (hf t x h)

variable {s t : State}

/-- A change of other records than items and labels that keeps the two counts of the log. -/
theorem Calm.same {u : State} (h : Calm s t) (hi : u.price.items = t.price.items)
    (hd : u.labels.directory = t.labels.directory) (ht : t.TablesBounded → u.TablesBounded)
    (hw : u.requests.written = t.requests.written) (ha : u.requests.accepted = t.requests.accepted) : Calm s u := by
  refine h.trans ⟨hi, hd, fun hb => ?_, ht⟩
  unfold State.LogBounded at *
  rwa [hw, ha]

/-! ### One field replaced -/

theorem Calm.setPowered (h : Calm s t) (x : Bool) : Calm s (t.setPowered x) := h.trans ⟨rfl, rfl, id, id⟩
theorem Calm.setStore (h : Calm s t) (x : Memory) : Calm s (t.setStore x) := h.trans ⟨rfl, rfl, id, id⟩
theorem Calm.setBacked (h : Calm s t) (x : Memory) : Calm s (t.setBacked x) := h.trans ⟨rfl, rfl, id, id⟩
theorem Calm.setTills (h : Calm s t) (x : TillService) : Calm s (t.setTills x) := h.trans ⟨rfl, rfl, id, id⟩
theorem Calm.setJournal (h : Calm s t) (x : Journal) : Calm s (t.setJournal x) := h.trans ⟨rfl, rfl, id, id⟩
theorem Calm.setExchange (h : Calm s t) (x : Exchange) : Calm s (t.setExchange x) := h.trans ⟨rfl, rfl, id, id⟩
theorem Calm.setClock (h : Calm s t) (x : Clock) : Calm s (t.setClock x) := h.trans ⟨rfl, rfl, id, id⟩
theorem Calm.setHost (h : Calm s t) (x : HostSide) : Calm s (t.setHost x) := h.trans ⟨rfl, rfl, id, id⟩
theorem Calm.setFreeIndex (h : Calm s t) (x : Nat) : Calm s (t.setFreeIndex x) := h.trans ⟨rfl, rfl, id, id⟩
theorem Calm.setPending (h : Calm s t) (x : List Instr) : Calm s (t.setPending x) := h.trans ⟨rfl, rfl, id, id⟩

theorem Calm.setRequests (h : Calm s t) (x : RequestUnit) (hw : x.written = t.requests.written)
    (ha : x.accepted = t.requests.accepted) : Calm s (t.setRequests x) := h.same rfl rfl id hw ha

/-- The Base Station Link replaced, its table as before or at least in bounds. -/
theorem Calm.setLinkTable (h : Calm s t) (x : StationLink) (hx : StationsOk t.link.table → StationsOk x.table) :
    Calm s (t.setLink x) := by
  refine h.same rfl rfl (fun hb => ?_) rfl rfl
  rw [State.tablesBounded_iff] at *
  obtain ⟨h1, h2, h3, h4, h5⟩ := hb
  exact ⟨h1, h2, h3, hx h4, h5⟩

theorem Calm.setLink (h : Calm s t) (x : StationLink) (hx : x.table = t.link.table) : Calm s (t.setLink x) :=
  h.setLinkTable x (fun ht => hx ▸ ht)

/-- The Forwarding Unit replaced, its station table as before or at least in bounds. -/
theorem Calm.setNetStations (h : Calm s t) (x : Forwarding) (hx : LearnedOk t.net.stations → LearnedOk x.stations) :
    Calm s (t.setNet x) := by
  refine h.same rfl rfl (fun hb => ?_) rfl rfl
  rw [State.tablesBounded_iff] at *
  obtain ⟨h1, h2, h3, h4, h5, h6⟩ := hb
  exact ⟨h1, h2, h3, h4, hx h5, h6⟩

theorem Calm.setNet (h : Calm s t) (x : Forwarding) (hx : x.stations = t.net.stations) : Calm s (t.setNet x) :=
  h.setNetStations x (fun ht => hx ▸ ht)

/-- The Label Service replaced, its directory kept and its templates in bounds. -/
theorem Calm.setLabels (h : Calm s t) (x : LabelService) (hd : x.directory = t.labels.directory)
    (hx : TemplatesOk t.labels.templates → TemplatesOk x.templates) : Calm s (t.setLabels x) := by
  refine h.same rfl hd (fun hb => ?_) rfl rfl
  rw [State.tablesBounded_iff] at *
  obtain ⟨h1, h2, h3, h4⟩ := hb
  exact ⟨h1, hd ▸ h2, hx h3, h4⟩

theorem Calm.setPrice (h : Calm s t) (x : PriceEngine) (hx : x.items = t.price.items) : Calm s (t.setPrice x) := by
  refine h.same hx rfl (fun hb => ?_) rfl rfl
  rw [State.tablesBounded_iff] at *
  obtain ⟨h1, h2⟩ := hb
  exact ⟨hx ▸ h1, h2⟩

/-- The Guest Unit replaced, its sessions in bounds. -/
theorem Calm.setGuests (h : Calm s t) (x : GuestUnit) (hx : SessionsOk t.guests.sessions → SessionsOk x.sessions) :
    Calm s (t.setGuests x) := by
  refine h.same rfl rfl (fun hb => ?_) rfl rfl
  rw [State.tablesBounded_iff] at *
  obtain ⟨h1, h2, h3, h4, h5, h6⟩ := hb
  exact ⟨h1, h2, h3, h4, h5, hx h6⟩

theorem Calm.writeWord (h : Calm s t) (o : Nat) (v : Word) : Calm s (t.writeWord o v) := h.setStore _
theorem Calm.writeStore (h : Calm s t) (o : Nat) (b : List Byte) : Calm s (t.writeStore o b) := h.setStore _
theorem Calm.status (h : Calm s t) (o v : Nat) : Calm s (t.status o v) := h.writeWord _ _
theorem Calm.setCauses (h : Calm s t) (c e : BitVec 5) : Calm s (t.setCauses c e) := (h.setRequests _ (by rfl) (by rfl)).setHost _
theorem Calm.raise (h : Calm s t) (c : Cause) : Calm s (t.raise c) := h.setCauses _ _
theorem Calm.setPort (h : Calm s t) (p : Port) (x : PortState) : Calm s (t.setPort p x) := h.setNet _ (by rfl)
theorem Calm.countDrop (h : Calm s t) (p : Port) (r : DropReason) : Calm s (t.countDrop p r) := h.setPort _ _
theorem Calm.countDrops (h : Calm s t) (p : Port) (r : DropReason) (n : Nat) : Calm s (t.countDrops p r n) := h.setPort _ _
theorem Calm.countIn (h : Calm s t) (p : Port) : Calm s (t.countIn p) := h.setPort _ _

/-- A read count accepted leaves no more unread notices than before (R200). -/
theorem unread_acceptedRead_le (w a o : Word) : w - acceptedRead w a o ≤ w - a := by
  unfold acceptedRead
  split
  · bv_omega
  · exact BitVec.le_refl _

/-! ### The notice log (R199) -/

theorem Calm.post (h : Calm s t) (k : NoticeKind) (x d : Nat) : Calm s (t.post k x d) := by
  refine h.trans ⟨by simp, by simp, fun hb => ?_, fun hb => by rw [State.tablesBounded_iff] at *; simpa using hb⟩
  have hle := unread_acceptedRead_le t.requests.written t.requests.accepted (t.storeWord offReadCount)
  unfold State.LogBounded at *
  rw [State.post_requests]
  dsimp only
  split
  · dsimp only; bv_omega
  · exact BitVec.le_trans hle hb

/-! ### Buffers, ports and queues -/

theorem Calm.sendControl (h : Calm s t) (p : Port) (k : PauseFrame) : Calm s (t.sendControl p k) := by
  unfold State.sendControl; split
  · exact h.setPort _ _
  · exact h

theorem Calm.sendControlGuest (h : Calm s t) (k : PauseFrame) : Calm s (t.sendControlGuest k) := by
  refine Calm.foldl (fun t p h => ?_) _ h
  split
  · exact h.sendControl _ _
  · exact h

theorem Calm.pauseTest (h : Calm s t) : Calm s t.pauseTest := by
  unfold State.pauseTest; split
  · exact .sendControlGuest (.setNet h _ (by rfl)) _
  · exact h

theorem Calm.resumeTest (h : Calm s t) : Calm s t.resumeTest := by
  unfold State.resumeTest; split
  · exact .sendControlGuest (.setNet h _ (by rfl)) _
  · exact h

theorem Calm.join (h : Calm s t) (x : Target) (f : Frame) : Calm s (t.join x f) := by
  unfold State.join; dsimp only; split
  · exact .setPort (.setNet h _ (by rfl)) _ _
  · split
    · exact .pauseTest (.setNet (.setNet h _ rfl) _ (by rfl))
    · exact .setNet (.setNet h _ rfl) _ (by rfl)

theorem Calm.offer (h : Calm s t) (x : Target) (f : Frame) (p : Port) : Calm s (t.offer x f p) := by
  unfold State.offer; split
  · exact h.countDrop _ _
  · exact h.join _ _

theorem Calm.offerOwn (h : Calm s t) (p : Port) (f : Frame) : Calm s (t.offerOwn p f) := h.offer _ f p

theorem Calm.returnBuffers (h : Calm s t) (n : Nat) : Calm s (t.returnBuffers n) :=
  .setLink (.setNet h _ (by rfl)) _ (by rfl)

theorem Calm.freeLan (h : Calm s t) (p : Port) : Calm s (t.freeLan p) :=
  .returnBuffers (.countDrops (.setPort h _ _) _ _ _) _

theorem Calm.freeClass (h : Calm s t) (c : UplinkClass) (p : Port) (r : DropReason) : Calm s (t.freeClass c p r) :=
  .returnBuffers (.countDrops (.setNet h _ (by rfl)) _ _ _) _

theorem Calm.emptyClass (h : Calm s t) (c : UplinkClass) : Calm s (t.emptyClass c) :=
  .returnBuffers (.setNet h _ (by rfl)) _

theorem Calm.endPause (h : Calm s t) : Calm s t.endPause := by
  unfold State.endPause; split
  · exact .sendControlGuest (.setNet h _ (by rfl)) _
  · exact h

theorem Calm.freeUplink (h : Calm s t) (p : Port) : Calm s (t.freeUplink p) :=
  ((((h.freeClass _ _ _).freeClass _ _ _).freeClass _ _ _).freeClass _ _ _).endPause

/-! ### The journal -/

theorem Calm.writeJournalCounts (h : Calm s t) : Calm s t.writeJournalCounts :=
  .status (.status (.status (.status (.status h _ _) _ _) _ _) _ _) _ _

theorem Calm.writeHeader (h : Calm s t) : Calm s t.writeHeader := h.setBacked _

theorem Calm.testAlert (h : Calm s t) : Calm s t.testAlert := by
  unfold State.testAlert; dsimp only; split
  · exact h
  · exact .post (.setJournal h _) _ _ _

theorem Calm.sideAfterScan (h : Calm s t) : Calm s t.sideAfterScan := by
  unfold State.sideAfterScan; dsimp only; split
  · exact .post (.setJournal h _) _ _ _
  · exact .setJournal h _

theorem Calm.runScan (h : Calm s t) : Calm s t.runScan := by
  unfold State.runScan; dsimp only
  refine .writeJournalCounts (.sideAfterScan ?_)
  split
  · exact .post (.raise (.setJournal (.setJournal (.setBacked h _) _) _) _) _ _ _
  · exact .post (.setJournal (.setJournal (.setBacked h _) _) _) _ _ _

theorem Calm.releaseRequest (h : Calm s t) (n : Nat) (c : Bool) : Calm s (t.releaseRequest n c).1 := by
  unfold State.releaseRequest; dsimp only; split
  · exact h
  split
  · split
    · exact .writeJournalCounts (.writeHeader (.setJournal h _))
    · exact .writeJournalCounts h
  · exact .setJournal h _

theorem Calm.completeRelease (h : Calm s t) (r : Release) : Calm s (t.completeRelease r) :=
  .testAlert (.writeJournalCounts (.writeHeader (.setJournal h _)))

theorem Calm.writeLabelCounts (h : Calm s t) : Calm s t.writeLabelCounts :=
  .status (.status (.status (.status (.status h _ _) _ _) _ _) _ _) _ _

/-! ### The exchange -/

theorem Calm.sendMessage (h : Calm s t) (k : PartMessage) (b : List Byte) : Calm s (t.sendMessage k b) := by
  unfold State.sendMessage; dsimp only; split
  · exact Calm.foldl (fun _ f h => h.join _ f) _ (h.setExchange _)
  · split
    · exact .countDrops (.setExchange h _) _ _ _
    · exact h.setExchange _

theorem Calm.arm (h : Calm s t) (n : Nat) : Calm s (t.arm n) := h.setExchange _

theorem Calm.setSession (h : Calm s t) (x : SessionState) : Calm s (t.setSession x) :=
  .status (.status (.setExchange h _) _ _) _ _

theorem Calm.endSession (h : Calm s t) (o : SessionOutcome) (n : Nat) : Calm s (t.endSession o n) :=
  .post (.setSession (.setExchange h _) _) _ _ _

theorem Calm.refuse (h : Calm s t) (r : RefuseReason) : Calm s (t.refuse r) := (h.sendMessage _ _).endSession _ _

theorem Calm.startSession (h : Calm s t) (n : Nat) : Calm s (t.startSession n) := by
  unfold State.startSession; dsimp only; split
  · exact .arm (.sendMessage (.setSession (.setExchange h _) _) _ _) _
  · exact .endSession (.setSession (.setExchange h _) _) _ _

theorem Calm.sendBlock (h : Calm s t) (b : Block) : Calm s (t.sendBlock b) := h.sendMessage _ _

theorem Calm.cutBlocks (n : Nat) : ∀ {t : State}, Calm s t → Calm s (State.cutBlocks n t) := by
  induction n with
  | zero => intro t h; exact h
  | succ n ih =>
    intro t h
    unfold State.cutBlocks; dsimp only; split
    · split
      · exact h
      · refine ih (.sendBlock ?_ _)
        split
        · exact .arm (.setExchange h _) _
        · exact .setExchange h _
    · exact h

theorem Calm.endOfUpload (h : Calm s t) : Calm s t.endOfUpload := by
  unfold State.endOfUpload; split
  · exact .setExchange (.arm (.setSession (.sendMessage h _ _) _) _) _
  · exact h

theorem Calm.enterUpload (h : Calm s t) : Calm s t.enterUpload :=
  .endOfUpload (.cutBlocks 8 (.setExchange (.setSession h _) _))

theorem Calm.afterJack (h : Calm s t) (a n : Nat) : Calm s (t.afterJack a n) :=
  .endOfUpload (.cutBlocks 8 (.setExchange h _))

theorem Calm.onWelcome (h : Calm s t) (a : Nat) : Calm s (t.onWelcome a) := by
  unfold State.onWelcome; dsimp only; split
  · exact h.enterUpload
  split
  · exact ((h.sendMessage _ _).post _ _ _).endSession _ _
  · have hr := h.releaseRequest a false
    split
    · rename_i e; rw [e] at hr; exact .enterUpload hr
    · rename_i e; rw [e] at hr; exact .setExchange hr _
    · rename_i e; rw [e] at hr; exact hr

theorem Calm.onJack (h : Calm s t) (a : Nat) : Calm s (t.onJack a) := by
  unfold State.onJack; split
  · exact h
  · have hr := h.releaseRequest a true
    split
    · rename_i e; rw [e] at hr; exact .setExchange hr _
    · rename_i e; rw [e] at hr; exact hr
    · rename_i e; rw [e] at hr; exact hr

theorem Calm.stageBlock (h : Calm s t) (b i : Nat) (es : List BatchEntry) (bs : List Byte) :
    Calm s (t.stageBlock b i es bs) := by
  unfold State.stageBlock; split
  · exact h.refuse _
  · exact .sendMessage (.setExchange h _) _ _

theorem Calm.onPblock (h : Calm s t) (b i : Nat) (es : List BatchEntry) (bs : List Byte) :
    Calm s (t.onPblock b i es bs) := by
  unfold State.onPblock; dsimp only; split
  · exact h.sendMessage _ _
  split
  · split
    · exact h.stageBlock _ _ _ _
    · exact h
  · split
    · exact h
    split
    · exact h.stageBlock _ _ _ _
    split
    · exact h.sendMessage _ _
    · exact h

theorem Calm.commitMismatch (h : Calm s t) (b : Nat) : Calm s (t.commitMismatch b) := by
  unfold State.commitMismatch; split
  · exact h.refuse _
  · exact .arm (.sendMessage (.setExchange h _) _ _) _

theorem Calm.onCommit (h : Calm s t) (b n : Nat) (c : Word) : Calm s (t.onCommit b n c) := by
  unfold State.onCommit; dsimp only; split
  · exact h.sendMessage _ _
  split
  · exact h.sendMessage _ _
  split
  · exact h
  split
  · exact h.setExchange _
  · exact h.commitMismatch _

theorem Calm.onNoMore (h : Calm s t) : Calm s t.onNoMore :=
  .arm (.setSession (.sendMessage (.setExchange h _) _ _) _) _

theorem Calm.batchCommitted (h : Calm s t) (b : Nat) : Calm s (t.batchCommitted b) :=
  .setExchange (.sendMessage (.post (.setExchange h _) _ _ _) _ _) _

theorem Calm.resendOr (h : Calm s t) (o : SessionOutcome) {f : State → State} (hf : Calm s (f t)) :
    Calm s (t.resendOr o f) := by
  unfold State.resendOr; split
  · exact h.endSession _ _
  · exact hf.arm _

theorem Calm.resendWindow (h : Calm s t) : Calm s t.resendWindow := Calm.foldl (fun _ b h => h.sendBlock b) _ h

theorem Calm.deadlineReached (h : Calm s t) : Calm s t.deadlineReached := by
  unfold State.deadlineReached; split
  · exact (h.sendMessage _ _).endSession _ _
  · exact h

theorem Calm.reportUplink (h : Calm s t) (b : Bool) : Calm s (t.reportUplink b) := by
  unfold State.reportUplink; dsimp only; split
  · exact .endSession (.setExchange h _) _ _
  · exact .setExchange h _

/-! ### The tills -/

theorem Calm.putTill (h : Calm s t) (n : Nat) (e : TillEntry) : Calm s (t.putTill n e) := by
  unfold State.putTill; split
  · exact h
  · exact h.setTills _

theorem Calm.matchTill (h : Calm s t) {f : TillFrame} {u : State} {e : TillEntry} (hm : t.matchTill f = some (u, e)) :
    Calm s u := by
  unfold State.matchTill at hm
  split at hm
  · cases hm
  split at hm
  · cases hm; exact h.putTill _ _
  · cases hm

theorem Calm.tillAnswer (h : Calm s t) (p : Port) (d : MacAddr) (k : TillAnswer) (n : Nat) (b : List Byte) :
    Calm s (t.tillAnswer p d k n b) := h.offerOwn _ _

theorem Calm.takeSignOn (h : Calm s t) (f : TillFrame) : Calm s (t.takeSignOn f) := by
  unfold State.takeSignOn; split
  · exact h.tillAnswer _ _ _ _ _
  split
  · split
    · exact h.tillAnswer _ _ _ _ _
    · rename_i hm; exact (h.matchTill hm).tillAnswer _ _ _ _ _
  all_goals exact ((h.putTill _ _).post _ _ _).tillAnswer _ _ _ _ _

theorem Calm.endTill (h : Calm s t) (n : Nat) (e : TillEntry) : Calm s (t.endTill n e) := (h.putTill _ _).post _ _ _

theorem Calm.takeSignOff (h : Calm s t) (f : TillFrame) : Calm s (t.takeSignOff f) := by
  unfold State.takeSignOff; split
  · rename_i hm; exact ((h.matchTill hm).endTill _ _).tillAnswer _ _ _ _ _
  · split <;> exact h.tillAnswer _ _ _ _ _

theorem Calm.tillSilence (h : Calm s t) (n : Nat) : Calm s (t.tillSilence n) := by
  unfold State.tillSilence; split
  · exact h
  split
  · exact h.endTill _ _
  · exact h

theorem Calm.dropPortTills (h : Calm s t) (p : Port) : Calm s (t.dropPortTills p) := by
  refine Calm.foldl (fun t n h => ?_) _ h
  split
  · exact h
  split
  · exact h.endTill _ _
  · exact h

theorem Calm.takeQuoteAsk (h : Calm s t) (f : TillFrame) (r a q : Nat) : Calm s (t.takeQuoteAsk f r a q) := by
  unfold State.takeQuoteAsk; split
  · exact h.tillAnswer _ _ _ _ _
  · rename_i hm; exact ((h.matchTill hm).putTill _ _).tillAnswer _ _ _ _ _

theorem Calm.handOver (h : Calm s t) (x : Sale) : Calm s (t.handOver x) := by
  unfold State.handOver; split
  · exact h.setJournal _
  · exact h.setJournal _

theorem Calm.takeSale (h : Calm s t) (f : TillFrame) (b d m n c : Nat) (ls : List SaleLine) :
    Calm s (t.takeSale f b d m n c ls) := by
  unfold State.takeSale; split
  · exact h.tillAnswer _ _ _ _ _
  split
  · exact h.tillAnswer _ _ _ _ _
  · rename_i hm
    have h' := h.matchTill hm
    split
    · split
      · exact h'
      · exact h'.tillAnswer _ _ _ _ _
    · dsimp only; split
      · exact h'.tillAnswer _ _ _ _ _
      split
      · exact h'.tillAnswer _ _ _ _ _
      · exact (h'.putTill _ _).handOver _

theorem Calm.saleEnded (h : Calm s t) (x : Sale) (o : SaleOutcome) (n : Nat) : Calm s (t.saleEnded x o n) := by
  unfold State.saleEnded; split
  · exact h
  split
  · exact h
  · exact (h.putTill _ _).tillAnswer _ _ _ _ _

/-! ### Appends and releases -/

theorem Calm.startAppend (h : Calm s t) : Calm s t.startAppend := by
  unfold State.startAppend; split
  · exact h
  split
  · exact h
  split
  · exact .saleEnded (.setJournal h _) _ _ _
  · exact h.setJournal _

theorem Calm.cutAfterAppend (h : Calm s t) : Calm s t.cutAfterAppend := by
  unfold State.cutAfterAppend; split
  · exact h.cutBlocks 8
  · exact h

theorem Calm.endAppend (h : Calm s t) : Calm s t.endAppend := by
  unfold State.endAppend; split
  · exact h
  split
  · exact h
  · exact .setJournal (.cutAfterAppend (.testAlert (.writeJournalCounts
      (.saleEnded (.setJournal (.setBacked h _) _) _ _ _)))) _

theorem Calm.endRelease (h : Calm s t) : Calm s t.endRelease := by
  unfold State.endRelease; split
  · exact h
  · rename_i r _
    have h' := h.completeRelease r
    unfold State.afterRelease
    dsimp only
    split
    · exact h'
    · exact h'.enterUpload
    · exact h'.afterJack _ _

/-! ### The chains -/

theorem Calm.writeChanged (h : Calm s t) (o : Nat) (v w : Word) : Calm s (t.writeChanged o v w) := by
  unfold State.writeChanged; split
  · exact h
  · exact h.writeWord _ _

theorem Calm.writeEntry (h : Calm s t) (c : Chain) (x y : ChainState) : Calm s (t.writeEntry c x y) :=
  ((((h.writeChanged _ _ _).writeChanged _ _ _).writeChanged _ _ _).writeChanged _ _ _).writeChanged _ _ _

theorem Calm.dropDelivery (h : Calm s t) : Calm s t.dropDelivery :=
  .returnBuffers (.status (.setRequests (.setNet h _ (by rfl)) _ (by rfl) (by rfl)) _ _) _

theorem Calm.setChain (h : Calm s t) (c : Chain) (x : ChainState) : Calm s (t.setChain c x) := by
  have h' : Calm s ((t.storeChain c x).writeEntry c (t.chain c) x) := .writeEntry (.setRequests h _ (by rfl) (by rfl)) _ _ _
  unfold State.setChain; dsimp only; split
  · exact h'.dropDelivery
  · exact h'

theorem Calm.writeCurrent (h : Calm s t) (c : Chain) : Calm s (t.writeCurrent c) := h.writeWord _ _

theorem Calm.writeFault (h : Calm s t) (c : Chain) : Calm s (t.writeFault c) := h.writeWord _ _

theorem Calm.faultChain (h : Calm s t) (c : Chain) (x : Word) (f : FaultCode) : Calm s (t.faultChain c x f) :=
  .raise (.writeFault (.writeCurrent (.setChain h _ _) _) _) _

theorem Calm.takeRecord (h : Calm s t) (c : Chain) (x : Word) : Calm s (t.takeRecord c x) := by
  unfold State.takeRecord; split
  · exact .writeCurrent (.setChain (.writeStore h _ _) _ _) _
  · exact h.faultChain _ _ _

theorem Calm.goTo (h : Calm s t) (c : Chain) (x : Word) : Calm s (t.goTo c x) := by
  unfold State.goTo; split
  · exact .writeCurrent (.setChain h _ _) _
  · exact h.takeRecord _ _

theorem Calm.writeParts (h : Calm s t) (x : Nat) (ps : List (Nat × List Byte)) : Calm s (t.writeParts x ps) :=
  Calm.foldl (fun _ _ h => h.writeStore _ _) _ h

theorem Calm.writeResult (h : Calm s t) (x : Nat) (r : Reply) : Calm s (t.writeResult x r) :=
  .writeStore (.writeStore (.writeStore (.writeParts h _ _) _ _) _ _) _ _

theorem Calm.readLink (h : Calm s t) (c : Chain) (x : Nat) : Calm s (t.readLink c x) := by
  unfold State.readLink; dsimp only; split
  · exact h.setChain _ _
  · exact h.goTo _ _

theorem Calm.finish (h : Calm s t) (c : Chain) (x : Nat) (b : Bool) (r : Reply) : Calm s (t.finish c x b r) := by
  unfold State.finish; dsimp only
  split <;> split
  · exact .setChain (.raise (.setChain (.writeResult h _ _) _ _) _) _ _
  · exact .setChain (.setChain (.writeResult h _ _) _ _) _ _
  · exact .readLink (.raise (.setChain (.writeResult h _ _) _ _) _) _ _
  · exact .readLink (.setChain (.writeResult h _ _) _ _) _ _

theorem Calm.actOnHead (h : Calm s t) (c : Chain) (v : Word) : Calm s (t.actOnHead c v) := by
  have h' : ∀ x, Calm s (((t.setChain c x).writeFault c).goTo c v) := fun x => .goTo (.writeFault (.setChain h _ _) _) _ _
  unfold State.actOnHead; split
  · split
    · exact h
    · exact h' _
  · split
    · exact h
    · exact h' _
  · exact h
  · exact h

theorem Calm.actOnStop (h : Calm s t) (c : Chain) : Calm s (t.actOnStop c) := by
  unfold State.actOnStop; dsimp only; split
  · exact h
  · split
    · exact h.setChain _ _
    · exact h.setChain _ _
  · exact h.setChain _ _
  · exact h.setChain _ _

theorem Calm.actOnCommand (h : Calm s t) (c : Chain) (v : Word) : Calm s (t.actOnCommand c v) := by
  unfold State.actOnCommand; split
  · exact .writeWord (.actOnStop h _) _ _
  · exact h.writeWord _ _

theorem Calm.announceLink (h : Calm s t) (o : Nat) (v : Word) (c : Chain) : Calm s (t.announceLink o v c) := by
  unfold State.announceLink; dsimp only; split
  · split
    · exact h
    split
    · exact h.goTo _ _
    · exact h.faultChain _ _ _
  · exact h

theorem Calm.announce (h : Calm s t) (o : Nat) (v : Word) : Calm s (t.announce o v) := by
  unfold State.announce; split
  · exact h
  split
  · exact h.actOnHead _ _
  split
  · exact h.actOnCommand _ _
  · exact Calm.foldl (fun _ c h => h.announceLink _ _ c) _ h

theorem Calm.hostWrite (h : Calm s t) (o : Nat) (v : Word) (e : BitVec 4) : Calm s (t.hostWrite o v e) := by
  unfold State.hostWrite; split
  · exact h
  · exact .announce (.writeWord h _ _) _ _

theorem Calm.startWalkers (h : Calm s t) : Calm s t.startWalkers :=
  Calm.foldl (fun _ _ h => .actOnHead (.writeWord h _ _) _ _) _ h

theorem Calm.fillRecord (h : Calm s t) (d : Delivery) (ds : List Delivery) (r : RecordInHand) :
    Calm s (t.fillRecord d ds r) := by
  have h' : Calm s ((t.writeRecordState r.offset .taken).writeCurrent .delivery) := .writeCurrent (.writeStore h _ _) _
  unfold State.fillRecord; dsimp only; split
  · exact h'.finish _ _ _ _
  split
  · exact h'.finish _ _ _ _
  · exact .finish (.returnBuffers (.setNet h' _ (by rfl)) _) _ _ _ _

theorem Calm.fillDelivery (h : Calm s t) : Calm s t.fillDelivery := by
  unfold State.fillDelivery; split
  · exact h
  dsimp only; split
  · exact h
  split
  · exact h.fillRecord _ _ _
  · exact h.faultChain _ _ _

/-! ### Power, running and time -/

theorem Calm.readCause (h : Calm s t) : Calm s t.readCause := by
  unfold State.readCause; dsimp only; split
  · exact h.setHost _
  · exact .setCauses (.setHost h _) _ _

theorem Calm.goRunning (h : Calm s t) : Calm s t.goRunning :=
  .startWalkers (.status (.setRequests h _ (by rfl) (by rfl)) _ _)

theorem Calm.writeRun (h : Calm s t) : Calm s t.writeRun := by
  unfold State.writeRun; split
  · exact h.setRequests _ (by rfl) rfl
  · exact h.goRunning
  · exact h

theorem Calm.setReady (h : Calm s t) : Calm s t.setReady := by
  have h' : ∀ x, Calm s (((t.setRequests { t.requests with startState := x }).status offStartState 1)) :=
    fun x => .status (.setRequests h _ (by rfl) (by rfl)) _ _
  unfold State.setReady; dsimp only; split
  · exact .goRunning (h' _)
  · exact h' _

theorem Calm.writeTime (h : Calm s t) : Calm s t.writeTime := by
  unfold State.writeTime; split
  · exact h
  · exact .status (.status (.status h _ _) _ _) _ _

theorem Calm.tick (h : Calm s t) : Calm s t.tick := .writeTime (.setNet (.setClock h _) _ (by rfl))

theorem Calm.windowStartReport (h : Calm s t) : Calm s t.windowStartReport := by
  unfold State.windowStartReport; split
  · exact h.startSession _
  · exact h

theorem Calm.actOnWindow (h : Calm s t) : Calm s t.actOnWindow := by
  unfold State.actOnWindow; split
  · exact .windowStartReport (.setClock h _)
  · exact h

/-! ### Transmission and links -/

theorem Calm.startLan (h : Calm s t) (p : Port) : Calm s (t.startLan p) := by
  unfold State.startLan; dsimp only; split
  · split
    · exact h.setPort _ _
    · split
      · exact h.setPort _ _
      · exact h
  · exact h

theorem Calm.endTransmit (h : Calm s t) (p : Port) : Calm s (t.endTransmit p) := by
  unfold State.endTransmit; dsimp only; split
  · exact h
  · exact h.setPort _ _
  · exact .returnBuffers (.setPort h _ _) _

theorem Calm.pickUplink (h : Calm s t) : Calm s t.pickUplink := by
  unfold State.pickUplink; split
  · exact h
  split
  · split
    · exact h
    · split
      · exact h
      · dsimp only; split
        · exact .resumeTest (.setPort (.setNet h _ (by rfl)) _ _)
        · exact .setPort (.setNet h _ (by rfl)) _ _
  · exact h

theorem Calm.dropWire (h : Calm s t) (p : Port) : Calm s (t.dropWire p) := by
  unfold State.dropWire; split
  · exact h
  · exact h.setPort _ _
  · exact .returnBuffers (.setPort h _ _) _

theorem Calm.linkDown (h : Calm s t) (p : Port) : Calm s (t.linkDown p) := by
  unfold State.linkDown; split
  · exact h
  · dsimp only; split
    · exact .reportUplink (.freeUplink (.dropWire (.freeLan (.post (.setPort h _ _) _ _ _) _) _) _) _
    · exact .dropWire (.freeLan (.post (.setPort h _ _) _ _ _) _) _

theorem Calm.linkUp (h : Calm s t) (p : Port) : Calm s (t.linkUp p) := by
  unfold State.linkUp; split
  · exact h
  · dsimp only; split
    · exact .reportUplink (.post (.setPort h _ _) _ _ _) _
    · exact .post (.setPort h _ _) _ _ _

theorem Calm.placeRoles (h : Calm s t) (r : RoleSettings) : Calm s (t.placeRoles r) :=
  Calm.foldl (fun _ _ h => h.setPort _ _) _ (.setNet h _ (by rfl))

theorem Calm.moveUplink (h : Calm s t) (o : Option Port) : Calm s (t.moveUplink o) := by
  unfold State.moveUplink; split
  · exact h
  · cases o with
    | none =>
      dsimp only; split
      · exact h.reportUplink _
      · exact h
    | some p =>
      dsimp only; split
      · exact (h.freeUplink _).reportUplink _
      · exact h.freeUplink _

/-! ### Frames -/

theorem Calm.offerDelivery (h : Calm s t) (f : Frame) (p : Port) (r : DeliveryReason) : Calm s (t.offerDelivery f p r) := by
  unfold State.offerDelivery; split
  · exact .status (.setRequests h _ (by rfl) (by rfl)) _ _
  split
  · exact h.countDrop _ _
  split
  · exact h.countDrop _ _
  · exact h.setNet _ (by rfl)

theorem Calm.consumeExchange (h : Calm s t) {p : Port} {f : Frame} {u : State} (hu : t.consumeExchange p f = some u) :
    Calm s u := by
  unfold State.consumeExchange at hu
  repeat' split at hu
  all_goals cases hu
  · exact h.countDrop _ _
  · exact h
  · exact h.setExchange _

theorem Calm.consumeLink (h : Calm s t) {p : Port} {f : Frame} {u : State} (hu : t.consumeLink p f = some u) :
    Calm s u := by
  unfold State.consumeLink at hu
  repeat' split at hu
  all_goals cases hu
  · exact h.countDrop _ _
  · exact h.setTills _
  · exact h.countDrop _ _
  · exact h.setLink _ (by rfl)

theorem Calm.consume (h : Calm s t) {p : Port} {f : Frame} {u : State} (hu : t.consume p f = some u) : Calm s u := by
  unfold State.consume at hu
  split at hu
  · rename_i e; cases hu; exact h.consumeLink e
  split at hu
  · rename_i e; cases hu; exact h.consumeExchange e
  split at hu
  · cases hu; exact h.countDrop _ _
  · cases hu

theorem Calm.copyBroadcast (h : Calm s t) (p : Port) (r : Role) (f : Frame) : Calm s (t.copyBroadcast p r f) := by
  unfold State.copyBroadcast; split
  · exact h
  · refine Calm.foldl (fun t q h => ?_) _ h
    split
    · exact h.offer _ _ _
    · exact h

theorem Calm.toHost (h : Calm s t) (p : Port) (r : Role) (f : Frame) : Calm s (t.toHost p r f) := by
  unfold State.toHost; split
  · split
    · exact h.offerDelivery _ _ _
    · exact h.countDrop _ _
  · exact (h.offerDelivery _ _ _).copyBroadcast _ _ _

theorem Calm.byStationTable (h : Calm s t) (p : Port) (r : Role) (f : Frame) : Calm s (t.byStationTable p r f) := by
  unfold State.byStationTable; split
  · exact h.countDrop _ _
  split
  · exact h.countDrop _ _
  · exact h.offer _ _ _

theorem Calm.sendCopy (h : Calm s t) (f : Frame) (p : Port) : Calm s (t.sendCopy f p).1 := by
  unfold State.sendCopy; split
  · exact h.countDrop _ _
  · exact h.join _ _

theorem Calm.sendToAll (h : Calm s t) (f : Frame) : Calm s (t.sendToAll f).1 := by
  unfold State.sendToAll
  have : ∀ (ps : List Port) (r : State × Nat), Calm s r.1 → Calm s (ps.foldl (fun r p =>
      if (r.1.port p).role.isSome ∧ (r.1.port p).linkUp then
        let x := r.1.sendCopy f p
        (x.1, r.2 + x.2)
      else r) r).1 := by
    intro ps
    induction ps with
    | nil => intro r h; exact h
    | cons p ps ih =>
      intro r h
      refine ih _ ?_
      dsimp only; split
      · exact h.sendCopy f p
      · exact h
  exact this _ _ h

theorem Calm.sendForward (h : Calm s t) (f : Frame) : Calm s (t.sendForward f).1 := by
  unfold State.sendForward; split
  · exact h.sendToAll f
  split
  · exact h
  split
  · split
    · exact h
    · exact h.sendCopy _ _
  split
  · split
    · exact h.sendCopy _ _
    · exact h.countDrop _ _
  · split
    · exact h
    split
    · exact h.sendCopy _ _
    · exact h.countDrop _ _

theorem Calm.sendTo (h : Calm s t) (f : Frame) (x : SendTarget) : Calm s (t.sendTo f x).1 := by
  cases x with
  | port p => exact h.sendCopy f p
  | forward => exact h.sendForward f

theorem Calm.setLanCaps (h : Calm s t) (c : PerPort Nat) : Calm s (t.setLanCaps c) :=
  Calm.foldl (fun _ _ h => h.setPort _ _) _ h

theorem Calm.clearCounts (h : Calm s t) : Calm s t.clearCounts := Calm.foldl (fun _ _ h => h.setPort _ _) _ h

/-! ### Base stations -/

theorem Calm.cycleSet (h : Calm s t) (b : BaseStation) : Calm s (t.cycleSet b) := h.offerOwn _ _

theorem Calm.cycleSetAll (h : Calm s t) : Calm s t.cycleSetAll := by
  refine Calm.foldl (fun t b h => ?_) _ h
  split
  · exact h.cycleSet _
  · exact h

theorem Calm.callArbiter (h : Calm s t) (n : Nat) : Calm s (t.callArbiter n) := h.setLink _ (by rfl)

theorem Calm.postFound (h : Calm s t) (i r z : Nat) : Calm s (t.postFound i r z) := h.post _ _ _

end Sys2Proof.Machine
end

section
/-! PROOFS. The operations that change a table other than those of items and labels, and keep it in bounds. -/

namespace Sys2Proof.Machine

variable {s t : State}

/-! ### Learned stations (R153) -/

theorem Calm.setStations (h : Calm s t) (x : Table StationRecord) (hx : LearnedOk t.net.stations → LearnedOk x) :
    Calm s (t.setStations x) := h.setNetStations _ hx

theorem Calm.learn (h : Calm s t) (a : MacAddr) (p : Port) : Calm s (t.learn a p) := by
  unfold State.learn; split
  · exact h
  split
  · rename_i hl
    exact h.setStations _ (fun ht => ht.put _ _ hl)
  · exact h

theorem Calm.ageStation (h : Calm s t) (a : MacAddr) : Calm s (t.ageStation a) := by
  unfold State.ageStation; split
  · exact h
  split
  · exact h.setStations _ (fun ht => ht.del _)
  · exact h

/-! ### Guest sessions (R164) -/

theorem Calm.writeGuestCount (h : Calm s t) : Calm s t.writeGuestCount := h.status _ _

theorem Calm.putSession (h : Calm s t) (a : MacAddr) (g : GuestSession)
    (hg : (∃ x, t.session a = some x) ∨ t.guests.sessions.length < 512) : Calm s (t.putSession a g) :=
  h.setGuests _ (fun ht => ht.put _ _ hg)

theorem Calm.removeSession (h : Calm s t) (a : MacAddr) : Calm s (t.removeSession a) :=
  .writeGuestCount (h.setGuests _ (fun ht => ht.del _))

theorem Calm.clearSessions (h : Calm s t) : Calm s t.clearSessions :=
  .writeGuestCount (h.setGuests _ (fun _ => ⟨.nil, Nat.zero_le _⟩))

theorem Calm.dropPortSessions (h : Calm s t) (p : Port) : Calm s (t.dropPortSessions p) :=
  .writeGuestCount (h.setGuests _ (fun ht => ht.filter _))

theorem Calm.lapse (h : Calm s t) (a : MacAddr) {g : GuestSession} (x : GuestSession) (r : LapseReason)
    (hg : t.session a = some g) : Calm s (t.lapse a x r) := (h.putSession _ _ (.inl ⟨g, hg⟩)).post _ _ _

theorem Calm.sight (h : Calm s t) (a : MacAddr) (p : Port) : Calm s (t.sight a p).1 := by
  unfold State.sight; split
  · exact h
  split
  · rename_i hg; exact h.putSession _ _ (.inl ⟨_, hg⟩)
  split
  · rename_i hl; exact (h.putSession _ _ (.inr hl)).writeGuestCount
  · exact h

theorem Calm.guestMeter (h : Calm s t) (a : MacAddr) (n : Nat) : Calm s (t.guestMeter a n).1 := by
  unfold State.guestMeter; split
  · exact h
  rename_i hg
  split
  · split
    · exact h.putSession _ _ (.inl ⟨_, hg⟩)
    · exact h.lapse _ _ _ hg
  · exact h

theorem Calm.guestExpire (h : Calm s t) (a : MacAddr) : Calm s (t.guestExpire a) := by
  unfold State.guestExpire; split
  · rename_i hg
    split
    · exact h.lapse _ _ _ hg
    · exact h
  · exact h

theorem Calm.guestIdle (h : Calm s t) (a : MacAddr) : Calm s (t.guestIdle a) := by
  unfold State.guestIdle; split
  · split
    · exact h.removeSession _
    · exact h
  · exact h

theorem Calm.admission (h : Calm s t) (a : MacAddr) {g : GuestSession} (b l : Nat) (hg : t.session a = some g) :
    Calm s (t.admission a g b l) := by
  unfold State.admission; split
  · dsimp only; split
    · exact h.lapse _ _ _ hg
    · exact h.putSession _ _ (.inl ⟨_, hg⟩)
  · exact h.putSession _ _ (.inl ⟨_, hg⟩)

/-! ### Frames that a session meters (R150, R152) -/

/-- A frame joins its queue when its session answers PASS, and is counted as dropped otherwise. -/
theorem Calm.metered (h : Calm s t) (a : MacAddr) (n : Nat) {f g : State → State} (hf : ∀ u, Calm s u → Calm s (f u))
    (hg : ∀ u, Calm s u → Calm s (g u)) :
    Calm s (match t.guestMeter a n with | (u, true) => f u | (u, false) => g u) := by
  have hm := h.guestMeter a n
  split
  · rename_i e; rw [e] at hm; exact hf _ hm
  · rename_i e; rw [e] at hm; exact hg _ hm

theorem Calm.toUplink (h : Calm s t) (p : Port) (r : Role) (f : Frame) : Calm s (t.toUplink p r f) := by
  unfold State.toUplink; split
  · exact h.countDrop _ _
  split
  · exact h.countDrop _ _
  split
  · exact h.metered _ _ (fun _ h => h.join _ _) (fun _ h => h.countDrop _ _)
  · exact h.join _ _

theorem Calm.toGuest (h : Calm s t) (p : Port) (g : GuestSession) (f : Frame) : Calm s (t.toGuest p g f) := by
  unfold State.toGuest; split
  · exact h.countDrop _ _
  split
  · exact h.countDrop _ _
  · exact h.metered _ _ (fun _ h => h.join _ _) (fun _ h => h.countDrop _ _)

theorem Calm.forward (h : Calm s t) (p : Port) (r : Role) (f : Frame) : Calm s (t.forward p r f) := by
  unfold State.forward; split
  · exact h.toUplink _ _ _
  split
  · exact h.toHost _ _ _
  split
  · exact h.toGuest _ _ _
  · exact h.byStationTable _ _ _

theorem Calm.steps (h : Calm s t) (p : Port) (r : Role) (f : Frame) : Calm s (t.steps p r f) := by
  unfold State.steps; split
  · rename_i hc; exact h.consume hc
  · exact h.forward _ _ _

theorem Calm.guestIngress (h : Calm s t) (p : Port) (f : Frame) : Calm s (t.guestIngress p f) := by
  unfold State.guestIngress; split
  · exact h.countDrop _ _
  have hs := h.sight f.source p
  split
  · rename_i e; rw [e] at hs; exact hs.steps _ _ _
  · rename_i e; rw [e] at hs; exact hs.countDrop _ _

theorem Calm.receive (h : Calm s t) (p : Port) (c : Bool) (bs : List Byte) : Calm s (t.receive p c bs) := by
  have hi := h.countIn p
  unfold State.receive; dsimp only; split
  · exact hi.countDrop _ _
  · exact hi.countDrop _ _
  split
  · exact hi.countDrop _ _
  split
  · exact (hi.learn _ _).guestIngress _ _
  · exact (hi.learn _ _).steps _ _ _

/-! ### The trading period (R181) -/

theorem Calm.closeGuestQueue (h : Calm s t) : Calm s t.closeGuestQueue := by
  unfold State.closeGuestQueue; split
  · exact (h.freeClass _ _ _).endPause
  · exact (h.emptyClass _).endPause

theorem Calm.switchPeriod (h : Calm s t) (p : Period) (x : SwitchSource) : Calm s (t.switchPeriod p x) := by
  have h' : Calm s (((t.setClock { t.clock with period := p }).status offPeriod p.code).post .periodChanged 0
    (twoParts p.code x.code)) := ((h.setClock _).status _ _).post _ _ _
  unfold State.switchPeriod; dsimp only; split
  · exact h'
  · exact h'.closeGuestQueue.clearSessions

theorem Calm.toPeriod (h : Calm s t) (p : Period) (x : SwitchSource) : Calm s (t.toPeriod p x) := by
  unfold State.toPeriod; split
  · exact h
  · exact h.switchPeriod _ _

theorem Calm.actOnOpen (h : Calm s t) : Calm s t.actOnOpen := by
  unfold State.actOnOpen; split
  · exact (h.setClock _).toPeriod _ _
  · exact h

theorem Calm.actOnClose (h : Calm s t) : Calm s t.actOnClose := by
  unfold State.actOnClose; split
  · exact (h.setClock _).toPeriod _ _
  · exact h

theorem Calm.alignPeriod (h : Calm s t) (n : Nat) (x : SwitchSource) : Calm s (t.alignPeriod n x) := by
  unfold State.alignPeriod; split
  · exact h
  · exact (h.setClock _).toPeriod _ _

/-! ### Base stations (R105) -/

theorem Calm.putStation (h : Calm s t) (b : BaseStation) : Calm s (t.putStation b) :=
  h.setLinkTable _ (fun ht => ht.replace b)

theorem Calm.setWaiting (h : Calm s t) (b : BaseStation) (f : Bool) : Calm s (t.setWaiting b f) := h.putStation _

theorem Calm.joinSet (h : Calm s t) (l : Label) : Calm s (t.joinSet l) := by
  unfold State.joinSet; split
  · exact h.setLabels _ rfl id
  split
  · exact h
  split
  · exact h
  · exact (h.putStation _).callArbiter _

theorem Calm.leaveSet (h : Calm s t) (l : Label) : Calm s (t.leaveSet l) := by
  unfold State.leaveSet; split
  · exact h.setLabels _ rfl id
  split
  · exact h
  · exact h.putStation _

theorem Calm.hearStation (h : Calm s t) {f : LabelFrame} {u : State} {b : BaseStation}
    (hu : t.hearStation f = some (u, b)) : Calm s u := by
  unfold State.hearStation at hu
  repeat' split at hu
  all_goals cases hu
  exact h.putStation _

/-- A hello of a new station puts an id into the table that was not there (R106). -/
theorem Calm.helloNew (h : Calm s t) (f : LabelFrame) (boot credit zone : Nat) (hf : t.station f.station = none) :
    Calm s (t.helloNew f boot credit zone) := by
  unfold State.helloNew; split
  · rename_i hl
    exact (((h.setLinkTable _ (fun ht => ht.append _ hl (by exact hf))).postFound _ _ _).cycleSet _).callArbiter _
  · exact h

theorem Calm.helloReturn (h : Calm s t) (b : BaseStation) (f : LabelFrame) (boot credit zone : Nat) :
    Calm s (t.helloReturn b f boot credit zone) := (((h.putStation _).postFound _ _ _).cycleSet _).callArbiter _

/-! ### Bodies of requests -/

theorem Calm.setSlotTablesBody (h : Calm s t) (b : List Byte) : Calm s (setSlotTablesBody t b).1 := by
  unfold Machine.setSlotTablesBody; split
  · exact h.setNet _ rfl
  · exact h

theorem Calm.setPacerBody (h : Calm s t) (b : List Byte) : Calm s (setPacerBody t b).1 :=
  (h.setLanCaps _).setNet _ (by rfl)

theorem Calm.setGuestPolicyBody (h : Calm s t) (b : List Byte) : Calm s (setGuestPolicyBody t b).1 :=
  h.setGuests _ id

theorem Calm.setLabelParamsBody (h : Calm s t) (b : List Byte) : Calm s (setLabelParamsBody t b).1 := by
  have h' : ∀ x y, Calm s ((t.setLabels { t.labels with maxAttempts := x }).setLink { t.link with slots := y }) :=
    fun x y => .setLink (h.setLabels _ (by rfl) (by exact id)) _ (by rfl)
  unfold Machine.setLabelParamsBody; dsimp only; split
  · exact (h' _ _).cycleSetAll
  · exact h' _ _

/-- A template is stored under a number up to 255 (R79, R80). -/
theorem Calm.loadTemplateBody (h : Calm s t) (b : List Byte) : Calm s (loadTemplateBody t b).1 := by
  unfold Machine.loadTemplateBody; dsimp only; split
  · exact h
  split
  · exact h
  split
  · exact h
  · rename_i hid _
    exact h.setLabels _ rfl (fun ht => ht.put (Nat.not_lt.mp hid) _)

theorem Calm.setExchangeParamsBody (h : Calm s t) (b : List Byte) : Calm s (setExchangeParamsBody t b).1 := by
  unfold Machine.setExchangeParamsBody; split
  · exact h
  · exact (((h.setExchange _).setClock _).setJournal _).testAlert

theorem Calm.setClockBody (h : Calm s t) (b : List Byte) : Calm s (setClockBody t b).1 :=
  (h.actOnOpen.actOnClose.actOnWindow.setClock _).writeTime.alignPeriod _ _

theorem Calm.setPeriodManualBody (h : Calm s t) (b : List Byte) : Calm s (setPeriodManualBody t b).1 := by
  unfold Machine.setPeriodManualBody; split
  · exact (h.setClock _).toPeriod _ _
  · exact h

theorem Calm.setPeriodScheduledBody (h : Calm s t) (b : List Byte) : Calm s (setPeriodScheduledBody t b).1 := by
  unfold Machine.setPeriodScheduledBody; split
  · exact h
  dsimp only; split
  · exact h
  · dsimp only; exact (h.setClock _).alignPeriod _ _

theorem Calm.setPlausibilityBody (h : Calm s t) (b : List Byte) : Calm s (setPlausibilityBody t b).1 :=
  h.setPrice _ rfl

theorem Calm.sendFrameBody (h : Calm s t) (b : List Byte) : Calm s (sendFrameBody t b).1 := by
  unfold Machine.sendFrameBody; dsimp only; split
  · exact h
  split
  · exact h
  split
  · exact h
  · exact h.sendTo _ _

theorem Calm.admitGuestBody (h : Calm s t) (b : List Byte) : Calm s (admitGuestBody t b).1 := by
  unfold Machine.admitGuestBody; dsimp only; split
  · split
    · exact h
    split
    · exact h
    · rename_i hg; exact h.admission _ _ _ hg
  · exact h

theorem Calm.revokeGuestBody (h : Calm s t) (b : List Byte) : Calm s (revokeGuestBody t b).1 := by
  unfold Machine.revokeGuestBody; dsimp only; split
  · exact h
  split
  · exact h
  rename_i hg
  split
  · exact h.putSession _ _ (.inl ⟨_, hg⟩)
  · exact h

theorem Calm.readCountsBody (h : Calm s t) (b : List Byte) : Calm s (readCountsBody t b).1 := by
  unfold Machine.readCountsBody; split
  · exact h
  split
  · exact h
  · dsimp only; split
    · exact h.clearCounts
    · exact h

theorem Calm.flushStationsBody (h : Calm s t) (b : List Byte) : Calm s (flushStationsBody t b).1 :=
  h.setStations _ (fun _ => ⟨.nil, Nat.zero_le _⟩)

theorem Calm.startExchangeBody (h : Calm s t) (b : List Byte) : Calm s (startExchangeBody t b).1 := by
  unfold Machine.startExchangeBody; dsimp only; split
  · exact h
  split
  · exact h
  split
  · exact h
  · exact h.startSession _

theorem Calm.abortExchangeBody (h : Calm s t) (b : List Byte) : Calm s (abortExchangeBody t b).1 := by
  unfold Machine.abortExchangeBody; split
  · exact h
  · exact .endSession (h.sendMessage _ _) _ _

theorem Calm.readJournalStateBody (h : Calm s t) (b : List Byte) : Calm s (readJournalStateBody t b).1 := by
  unfold Machine.readJournalStateBody; split <;> exact h

theorem Calm.readItemBody (h : Calm s t) (b : List Byte) : Calm s (readItemBody t b).1 := by
  unfold Machine.readItemBody; split
  · exact h
  · split <;> exact h

theorem Calm.readLabelBody (h : Calm s t) (b : List Byte) : Calm s (readLabelBody t b).1 := by
  unfold Machine.readLabelBody; split
  · exact h
  · split <;> exact h

end Sys2Proof.Machine
end

section
/-! PROOFS. Items and labels: what a record stored or removed leaves to be read, and that the tables stay in bounds through
every operation on them. -/

namespace Sys2Proof.Machine

variable {s t : State}

/-! ### Reading an item and a label -/

theorem Calm.item (h : Calm s t) (a : Nat) : t.item a = s.item a := by unfold State.item; rw [h.items]

theorem Calm.label (h : Calm s t) (id : Nat) : t.label id = s.label id := by unfold State.label; rw [h.directory]

theorem State.item_putItem (s : State) (i : Item) (a : Nat) :
    (s.putItem i).item a = if a = i.article then some i else s.item a := Table.find_put _ _ _ _

@[simp] theorem State.label_putItem (s : State) (i : Item) (id : Nat) : (s.putItem i).label id = s.label id := rfl

/-- The directory replaced: the Label Service holds the new one, and all else but the counts of the status block stays
(R78). -/
theorem State.setDirectory_labels (s : State) (x : Table Label) :
    (s.setDirectory x).labels = { s.labels with directory := x } := by
  unfold State.setDirectory State.writeLabelCounts; dsimp only
  split <;> simp

theorem State.setDirectory_frame (s : State) (x : Table Label) :
    ((s.setDirectory x).setStore s.store).setLabels s.labels = s := by
  unfold State.setDirectory; dsimp only
  split <;> rfl

/-- A directory replaced leaves every field but the store and the labels. -/
theorem State.setDirectory_eq (s : State) (x : Table Label) :
    s.setDirectory x = (s.setStore (s.setDirectory x).store).setLabels { s.labels with directory := x } := by
  rw [← s.setDirectory_labels x]
  unfold State.setDirectory; dsimp only
  split <;> rfl

@[simp] theorem State.setDirectory_price (s : State) (x : Table Label) : (s.setDirectory x).price = s.price := by
  rw [s.setDirectory_eq]; rfl
@[simp] theorem State.setDirectory_requests (s : State) (x : Table Label) : (s.setDirectory x).requests = s.requests := by
  rw [s.setDirectory_eq]; rfl
@[simp] theorem State.setDirectory_link (s : State) (x : Table Label) : (s.setDirectory x).link = s.link := by
  rw [s.setDirectory_eq]; rfl
@[simp] theorem State.setDirectory_net (s : State) (x : Table Label) : (s.setDirectory x).net = s.net := by
  rw [s.setDirectory_eq]; rfl
@[simp] theorem State.setDirectory_guests (s : State) (x : Table Label) : (s.setDirectory x).guests = s.guests := by
  rw [s.setDirectory_eq]; rfl

@[simp] theorem State.item_setDirectory (s : State) (x : Table Label) (a : Nat) :
    (s.setDirectory x).item a = s.item a := by simp [State.item]

theorem State.label_setDirectory (s : State) (x : Table Label) (id : Nat) :
    (s.setDirectory x).label id = Table.find x id := by unfold State.label; rw [s.setDirectory_labels]

@[simp] theorem State.item_putLabel (s : State) (l : Label) (a : Nat) : (s.putLabel l).item a = s.item a :=
  s.item_setDirectory _ a

theorem State.label_putLabel (s : State) (l : Label) (id : Nat) :
    (s.putLabel l).label id = if id = l.id then some l else s.label id := by
  unfold State.putLabel; rw [s.label_setDirectory, Table.find_put]; rfl

@[simp] theorem State.item_delLabel (s : State) (id a : Nat) : (s.delLabel id).item a = s.item a :=
  s.item_setDirectory _ a

theorem State.label_delLabel (hb : s.TablesBounded) (id x : Nat) :
    (s.delLabel id).label x = if x = id then none else s.label x := by
  rw [State.tablesBounded_iff] at hb
  unfold State.delLabel; rw [s.label_setDirectory, Table.find_del hb.2.1.1]; rfl

@[simp] theorem State.item_joinSet (s : State) (l : Label) (a : Nat) : (s.joinSet l).item a = s.item a :=
  ((Calm.refl s).joinSet l).item a
@[simp] theorem State.label_joinSet (s : State) (l : Label) (id : Nat) : (s.joinSet l).label id = s.label id :=
  ((Calm.refl s).joinSet l).label id
@[simp] theorem State.item_leaveSet (s : State) (l : Label) (a : Nat) : (s.leaveSet l).item a = s.item a :=
  ((Calm.refl s).leaveSet l).item a
@[simp] theorem State.label_leaveSet (s : State) (l : Label) (id : Nat) : (s.leaveSet l).label id = s.label id :=
  ((Calm.refl s).leaveSet l).label id
@[simp] theorem State.item_post (s : State) (k : NoticeKind) (x d a : Nat) : (s.post k x d).item a = s.item a :=
  ((Calm.refl s).post k x d).item a
@[simp] theorem State.label_post (s : State) (k : NoticeKind) (x d id : Nat) : (s.post k x d).label id = s.label id :=
  ((Calm.refl s).post k x d).label id

@[simp] theorem State.item_queue (s : State) (l : Label) (a : Nat) : (s.queue l).item a = s.item a := by
  simp [State.queue]

/-- A label queued is stored QUEUED. -/
theorem State.label_queue (s : State) (l : Label) (id : Nat) :
    (s.queue l).label id = if id = l.id then some { l with phase := .queued } else s.label id := by
  simp [State.queue, State.label_putLabel]

/-! ### Records stand under their own keys -/

theorem State.TablesBounded.article (hb : s.TablesBounded) {a : Nat} {i : Item} (h : s.item a = some i) :
    i.article = a := by
  rw [State.tablesBounded_iff] at hb
  exact hb.1.2.1 _ (Table.mem_of_find h)

theorem State.TablesBounded.labelId (hb : s.TablesBounded) {id : Nat} {l : Label} (h : s.label id = some l) :
    l.id = id := by
  rw [State.tablesBounded_iff] at hb
  exact hb.2.1.2.1 _ (Table.mem_of_find h)

/-! ### Tables in bounds -/

theorem Held.calm {u : State} (h : Held s t) (h' : Calm t u) : Held s u := h.trans h'.held

theorem Held.post (h : Held s t) (k : NoticeKind) (x d : Nat) : Held s (t.post k x d) := h.calm (.post (.refl t) k x d)

theorem Held.joinSet (h : Held s t) (l : Label) : Held s (t.joinSet l) := h.calm (.joinSet (.refl t) l)

theorem Held.leaveSet (h : Held s t) (l : Label) : Held s (t.leaveSet l) := h.calm (.leaveSet (.refl t) l)

theorem Held.setItems (h : Held s t) (x : PriceEngine)
    (hx : t.TablesBounded → ItemsOk t.price.items → ItemsOk x.items) : Held s (t.setPrice x) := by
  refine h.trans ⟨id, fun hb => ?_⟩
  have hb' := hb
  rw [State.tablesBounded_iff] at hb' ⊢
  obtain ⟨hi, hr⟩ := hb'
  exact ⟨hx hb hi, hr⟩

/-- An item stored under an article the table has, or with room for one more. -/
theorem Held.putItem (h : Held s t) (i : Item)
    (hi : t.TablesBounded → (∃ j, t.item i.article = some j) ∨ t.price.items.length < 65536) : Held s (t.putItem i) :=
  h.setItems _ (fun hb ht => ht.put i (hi hb))

/-- An item of the table stored again, its article kept. -/
theorem Held.putItem_of (h : Held s t) {a : Nat} {j : Item} (hj : t.item a = some j) (i : Item)
    (hi : i.article = j.article) : Held s (t.putItem i) :=
  h.putItem i (fun hb => .inl ⟨j, by rw [hi, hb.article hj]; exact hj⟩)

theorem Held.setDirectory (h : Held s t) (x : Table Label)
    (hx : t.TablesBounded → LabelsOk t.labels.directory → LabelsOk x) : Held s (t.setDirectory x) := by
  refine h.trans ⟨fun hl => ?_, fun hb => ?_⟩
  · simpa [State.LogBounded] using hl
  · have hb' := hb
    rw [State.tablesBounded_iff] at hb' ⊢
    obtain ⟨hi, hd, hr⟩ := hb'
    simp only [State.setDirectory_labels, State.setDirectory_price, State.setDirectory_link, State.setDirectory_net,
      State.setDirectory_guests]
    exact ⟨hi, hx hb hd, hr⟩

theorem Held.putLabel (h : Held s t) (l : Label)
    (hl : t.TablesBounded → (∃ j, t.label l.id = some j) ∨ t.labels.directory.length < 32768) : Held s (t.putLabel l) :=
  h.setDirectory _ (fun hb hd => hd.put l (hl hb))

/-- A label of the directory stored again, its id kept. -/
theorem Held.putLabel_of (h : Held s t) {id : Nat} {j : Label} (hj : t.label id = some j) (l : Label)
    (hl : l.id = j.id) : Held s (t.putLabel l) :=
  h.putLabel l (fun hb => .inl ⟨j, by rw [hl, hb.labelId hj]; exact hj⟩)

theorem Held.delLabel (h : Held s t) (id : Nat) : Held s (t.delLabel id) :=
  h.setDirectory _ (fun _ hd => hd.del id)

theorem Held.queue (h : Held s t) (l : Label)
    (hl : t.TablesBounded → (∃ j, t.label l.id = some j) ∨ t.labels.directory.length < 32768) : Held s (t.queue l) :=
  .joinSet (h.putLabel _ (by exact hl)) _

theorem Held.queue_of (h : Held s t) {id : Nat} {j : Label} (hj : t.label id = some j) (l : Label)
    (hl : l.id = j.id) : Held s (t.queue l) := (h.putLabel_of hj _ (by exact hl)).joinSet _

theorem Held.staleReport (h : Held s t) (a id : Nat) (up : Bool) : Held s (t.staleReport a id up) := by
  unfold State.staleReport; split
  · exact h
  rename_i hi
  split
  · exact h.putItem_of hi _ rfl
  · exact h

theorem Held.queueLabel (h : Held s t) (k : QueueKind) (a id : Nat) : Held s (State.queueLabel k a t id) := by
  unfold State.queueLabel; split
  · exact h
  rename_i l hl
  split
  · exact h.queue_of hl _ rfl
  · exact h
  · exact h.putLabel_of hl _ rfl
  · split
    · exact (h.queue_of hl _ (by rfl)).staleReport _ _ _
    · exact h
  · exact h

theorem Held.queueRequest (h : Held s t) (k : QueueKind) (a : Nat) (ls : List Nat) : Held s (t.queueRequest k a ls) := by
  unfold State.queueRequest
  induction ls generalizing t with
  | nil => exact h
  | cons id ls ih => exact ih (h.queueLabel k a id)

theorem Held.placeVersion (h : Held s t) {a : Nat} {j : Item} (hj : t.item a = some j) (i : Item)
    (hi : i.article = j.article) (b : Nat) (p : Option Promotion) : Held s (t.placeVersion i b p).1 := by
  unfold State.placeVersion; dsimp only; split
  · exact h.putItem_of hj _ hi
  · exact (h.putItem_of hj _ (by exact hi)).queueRequest _ _ _

theorem Held.switchItem (h : Held s t) {a : Nat} {j : Item} (hj : t.item a = some j) (i : Item)
    (hi : i.article = j.article) : Held s (t.switchItem i) := by
  unfold State.switchItem; split
  · exact h
  · rename_i v _
    have h' : Held s ((t.putItem { i with current := v, pending := none, outstanding := 0 }).post .campaignDone i.article
      v.number) := (h.putItem_of hj _ (by exact hi)).post _ _ _
    have hj' : ((t.putItem { i with current := v, pending := none, outstanding := 0 }).post .campaignDone i.article
      v.number).item i.article = some { i with current := v, pending := none, outstanding := 0 } := by
      rw [State.item_post, State.item_putItem, if_pos rfl]
    dsimp only
    split
    · exact h'
    split
    · exact h'
    · exact h'.placeVersion hj' _ rfl _ _

theorem Held.lowerOutstanding (h : Held s t) {a : Nat} {j : Item} (hj : t.item a = some j) (i : Item)
    (hi : i.article = j.article) : Held s (t.lowerOutstanding i) := by
  have h' := h.putItem_of hj { i with outstanding := i.outstanding - 1 } hi
  unfold State.lowerOutstanding; dsimp only; split
  · refine h'.switchItem (a := i.article) (j := { i with outstanding := i.outstanding - 1 }) ?_ _ rfl
    rw [State.item_putItem, if_pos rfl]
  · exact h'

theorem Held.confirmationReport (h : Held s t) (a id v : Nat) (e : Option Nat) :
    Held s (t.confirmationReport a id v e) := by
  unfold State.confirmationReport; split
  · exact h
  rename_i hi
  split
  · split
    · exact h
    split
    · exact h.lowerOutstanding hi _ rfl
    · exact h
  · exact h

theorem Held.unbindReport (h : Held s t) (a id : Nat) (c : Option Nat) (x : Bool) :
    Held s (t.unbindReport a id c x) := by
  unfold State.unbindReport; split
  · exact h
  rename_i hi
  split
  · dsimp only; split
    · exact h.putItem_of hi _ rfl
    split
    · exact h.putItem_of hi _ rfl
    · exact h.lowerOutstanding hi _ (by rfl)
  · exact h

theorem Held.change (h : Held s t) (a b : Nat) (p : Option Promotion) (c : Bool) (o : Nat) :
    Held s (t.change a b p c o).1 := by
  unfold State.change; split
  · exact h
  rename_i hi
  split
  · exact h
  split
  · exact h
  split
  · exact h
  split
  · exact (h.putItem_of hi _ (by rfl)).post _ _ _
  split
  · dsimp only; exact h.placeVersion hi _ (by rfl) _ _
  · exact h.putItem_of hi _ (by rfl)

theorem Held.loadEntry (h : Held s t) (e : ItemEntry) (o : Nat) : Held s (t.loadEntry e o).1 := by
  unfold State.loadEntry; split
  · exact h
  split
  · exact h
  split
  · exact h
  · rename_i hl; exact h.putItem _ (fun _ => .inr (Nat.not_le.mp hl))

theorem Held.loadAll (h : Held s t) (es : List ItemEntry) : Held s (loadAll t es).1 := by
  induction es generalizing t with
  | nil => exact h
  | cons e es ih => exact ih (h.loadEntry e 0)

/-! ### Updates and sightings -/

theorem Held.pickNothing (h : Held s t) {id : Nat} {l : Label} (hl : t.label id = some l) : Held s (t.pickNothing l) := by
  have hl' : (t.leaveSet l).label id = some l := by simpa using hl
  unfold State.pickNothing; dsimp only; split
  · exact (h.leaveSet l).putLabel_of hl' _ rfl
  · exact h.leaveSet l

theorem Held.updateSent (h : Held s t) {id : Nat} {l : Label} (hl : t.label id = some l) (u : Update) (g x : Nat) :
    Held s (t.updateSent l u g x) := by
  have hl' : (t.leaveSet l).label id = some l := by simpa using hl
  unfold State.updateSent; dsimp only; split
  · exact (h.leaveSet l).putLabel_of hl' _ rfl
  · exact (h.leaveSet l).putLabel_of hl' _ rfl

theorem Held.toStale (h : Held s t) {id : Nat} {j : Label} (hj : t.label id = some j) (l : Label) (hl : l.id = j.id)
    (r : StaleReason) : Held s (t.toStale l r) := by
  have hj' : (t.leaveSet l).label id = some j := by simpa using hj
  have h' : Held s (((t.leaveSet l).putLabel { l with phase := .stale, staleReason := r }).post .labelStale l.id
      (twoParts r.code l.attempts)) := .post ((h.leaveSet l).putLabel_of hj' _ (by exact hl)) _ _ _
  unfold State.toStale; dsimp only; split
  · exact h'
  · exact h'.staleReport _ _ _

/-- The record of a label whose update has been shown (R95, step 1). -/
def Label.shown (l : Label) (u : InFlightUpdate) : Label :=
  { l with confirmed := some { version := u.version, template := u.template, textRevision := u.textRevision }
           attempts := 0, inFlight := none }

/-- The first half of a SHOWN (R95, steps 1 to 3): the label confirms what it shows, and the Price Engine is told. -/
def State.reportShown (s : State) (l : Label) (u : InFlightUpdate) : State :=
  match l.article with
  | none => s.putLabel (l.shown u)
  | some a => (s.putLabel (l.shown u)).confirmationReport a l.id u.version (l.confirmed.map Confirmed.version)

/-- Whether what a label has confirmed is the target of its item (R81); so for a label of no item. -/
def State.showsTarget (s : State) (l : Label) : Bool :=
  match l.article.bind s.item with
  | none => true
  | some i => decide (l.confirmed = some (i.target l.template))

/-- A SHOWN in its two halves: the report, and the label turned IDLE or queued again (R95). -/
theorem State.shownBound_eq (s : State) (l : Label) (u : InFlightUpdate) :
    s.shownBound l u = match (s.reportShown l u).label l.id with
      | none => s.reportShown l u
      | some k =>
        if k.again || !(s.reportShown l u).showsTarget k then (s.reportShown l u).queue { k with again := false }
        else (s.reportShown l u).putLabel { k with again := false, phase := .idle } := rfl

theorem Held.reportShown (h : Held s t) {id : Nat} {j : Label} (hj : t.label id = some j) (l : Label) (hl : l.id = j.id)
    (u : InFlightUpdate) : Held s (t.reportShown l u) := by
  unfold State.reportShown; split
  · exact h.putLabel_of hj _ (by exact hl)
  · exact .confirmationReport (h.putLabel_of hj _ (by exact hl)) _ _ _ _

theorem Held.shownBound (h : Held s t) {id : Nat} {j : Label} (hj : t.label id = some j) (l : Label) (hl : l.id = j.id)
    (u : InFlightUpdate) : Held s (t.shownBound l u) := by
  have h' := h.reportShown hj l hl u
  rw [State.shownBound_eq]; split
  · exact h'
  · rename_i hk
    split
    · exact h'.queue_of hk _ rfl
    · exact h'.putLabel_of hk _ rfl

theorem Held.noAnswerBound (h : Held s t) {id : Nat} {j : Label} (hj : t.label id = some j) (l : Label)
    (hl : l.id = j.id) : Held s (t.noAnswerBound l) := by
  unfold State.noAnswerBound; dsimp only; split
  · exact h.queue_of hj _ hl
  · exact h.toStale hj _ (by exact hl) _

theorem Held.endedUnbinding (h : Held s t) {id : Nat} {j : Label} (hj : t.label id = some j) (l : Label)
    (hl : l.id = j.id) (u : InFlightUpdate) (o : UpdateOutcome) : Held s (t.endedUnbinding l u o) := by
  unfold State.endedUnbinding; dsimp only
  refine .joinSet (h.putLabel_of hj _ ?_) _
  cases o <;> exact hl

theorem Held.blankFailed (h : Held s t) (l : Label) (o : UpdateOutcome) (n : Nat) : Held s (t.blankFailed l o n) :=
  .post (h.delLabel _) _ _ _

theorem Held.endedBlank (h : Held s t) {id : Nat} {j : Label} (hj : t.label id = some j) (l : Label)
    (hl : l.id = j.id) (o : UpdateOutcome) : Held s (t.endedBlank l o) := by
  unfold State.endedBlank; split
  · exact h.delLabel _
  · split
    · exact .joinSet (h.putLabel_of hj _ (by exact hl)) _
    · exact h.blankFailed _ _ _
  · exact h.blankFailed _ _ _
  · exact .joinSet (h.putLabel_of hj _ (by exact hl)) _

theorem Held.updateEnded (h : Held s t) (g id : Nat) (o : UpdateOutcome) : Held s (t.updateEnded g id o) := by
  unfold State.updateEnded; split
  · exact h
  rename_i j hj
  split
  · exact h
  split
  · exact h
  dsimp only
  have hid : ∀ l, l = (if o = .shown ∨ o = .rejected then { j with lastHeard := t.now } else j) → l.id = j.id := by
    intro l hl; subst hl; split <;> rfl
  generalize (if o = .shown ∨ o = .rejected then { j with lastHeard := t.now } else j) = l at *
  have hl : l.id = j.id := hid l rfl
  split
  · exact h.endedBlank hj l hl _
  split
  · exact h.endedUnbinding hj l hl _ _
  split
  · exact h.shownBound hj l hl _
  · exact h.noAnswerBound hj l hl
  · exact h.toStale hj _ (by exact hl) _
  · exact h.queue_of hj _ (by exact hl)

theorem Held.moveSet (h : Held s t) {id : Nat} {j : Label} (hj : t.label id = some j) (l : Label)
    (hl : l.id = j.id) : Held s (t.moveSet j l) := by
  have hj' : (t.leaveSet j).label id = some j := by simpa using hj
  unfold State.moveSet; split
  · exact h.putLabel_of hj l hl
  · exact .joinSet ((h.leaveSet j).putLabel_of hj' l hl) _

theorem Held.sighting (h : Held s t) (n : Nat) (g : Sighting) : Held s (t.sighting n g) := by
  unfold State.sighting; split
  · exact h
  rename_i hj
  dsimp only; split
  · exact h.putLabel_of hj _ rfl
  · exact h.putLabel_of hj _ rfl
  · exact h.moveSet hj _ (by rfl)
  · split
    · exact .post (h.queue_of hj _ (by rfl)) _ _ _
    · exact .staleReport (.post (h.queue_of hj _ (by rfl)) _ _ _) _ _ _
  · split
    · exact h.moveSet hj _ (by rfl)
    · exact h.putLabel_of hj _ rfl

/-! ### Requests of the LABEL chain -/

theorem Held.bind (h : Held s t) {a : Nat} {i : Item} (hi : t.item a = some i) (id x : Nat)
    (hl : t.labels.directory.length < 32768) : Held s (t.bind i id x) :=
  .queue (h.putItem_of hi _ (by rfl)) _ (fun _ => .inr hl)

/-- The unbind report of a label, if it is bound (R22, R89). -/
def State.reportUnbind (s : State) (l : Label) : State :=
  match l.article with
  | none => s
  | some a => s.unbindReport a l.id (l.confirmed.map Confirmed.version) (l.phase == LabelPhase.stale)

/-- What becomes of a label's record at an unbind (R89). -/
def State.turnUnbinding (s : State) (l : Label) : State :=
  let u := { l with article := none, phase := .unbinding, staleReason := .noReason, again := false }
  if l.phase = LabelPhase.sent then s.putLabel { u with blankDue := true }
  else if l.home.isNone then (s.leaveSet l).delLabel l.id
  else
    let u := { u with attempts := 0, blankDue := true }
    (s.putLabel u).joinSet u

/-- An unbind in its two halves: the report, and the record turned UNBINDING or removed (R89). -/
theorem State.unbind_eq (s : State) (l : Label) :
    s.unbind l = match (s.reportUnbind l).label l.id with
      | none => s.reportUnbind l
      | some k => (s.reportUnbind l).turnUnbinding k := rfl

theorem Held.reportUnbind (h : Held s t) (l : Label) : Held s (t.reportUnbind l) := by
  unfold State.reportUnbind; split
  · exact h
  · exact h.unbindReport _ _ _ _

theorem Held.turnUnbinding (h : Held s t) {id : Nat} {l : Label} (hl : t.label id = some l) :
    Held s (t.turnUnbinding l) := by
  unfold State.turnUnbinding; dsimp only; split
  · exact h.putLabel_of hl _ rfl
  split
  · exact (h.leaveSet _).delLabel _
  · exact .joinSet (h.putLabel_of hl _ (by rfl)) _

theorem Held.unbind (h : Held s t) (l : Label) : Held s (t.unbind l) := by
  rw [State.unbind_eq]; split
  · exact h.reportUnbind l
  · rename_i hk; exact (h.reportUnbind l).turnUnbinding hk

theorem Held.changeTemplate (h : Held s t) {id : Nat} {j : Label} (hj : t.label id = some j) (x : Nat) :
    Held s (t.changeTemplate j x) := by
  unfold State.changeTemplate; dsimp only; split
  · exact h.queue_of hj _ rfl
  · exact h.putLabel_of hj _ rfl
  · exact h.putLabel_of hj _ rfl
  · exact h.putLabel_of hj _ rfl
  · exact h

theorem Held.retry (h : Held s t) {id : Nat} {j : Label} (hj : t.label id = some j) : Held s (t.retry j) := by
  unfold State.retry; dsimp only; split
  · exact h.queue_of hj _ rfl
  · exact .staleReport (h.queue_of hj _ (by rfl)) _ _ _

/-! ### Arbiter runs (R113) -/

/-- The state in which an update has been given its tag and its record and its frame has been offered, its send not yet
reported (R116). -/
def State.frameSent (s : State) (b : BaseStation) (l : Label) (u : Update) : State :=
  let tag := s.link.freeTag s.link.inFlightCount s.link.nextTag
  let s := s.setLink { s.link with nextTag := tagAfter tag }
  let r : InFlightRecord := { tag := tag, label := l.id, kind := u.kind, cost := u.kind.cost
                              deadline := s.now + cycleTime s.link.slots + 5000 }
  let s := s.putStation { b with inFlight := b.inFlight ++ [r], ready := setDrop b.ready l.id, waitingForBuffer := false }
  s.offerOwn b.port (s.labelFrame b 4 (updatePutBody tag l.id u))

/-- A send in its two halves: the frame, and the report to the Label Service (R85, R116). -/
theorem State.sendUpdate_eq (s : State) (b : BaseStation) (l : Label) (u : Update) :
    s.sendUpdate b l u =
      (s.frameSent b l u).updateSent l u (s.link.freeTag s.link.inFlightCount s.link.nextTag) b.id := rfl

theorem Calm.frameSent (h : Calm s t) (b : BaseStation) (l : Label) (u : Update) : Calm s (t.frameSent b l u) := by
  unfold State.frameSent; dsimp only
  exact .offerOwn (.putStation (.setLink h _ (by rfl)) _) _ _

theorem Held.sendUpdate (h : Held s t) {id : Nat} {l : Label} (hl : t.label id = some l) (b : BaseStation) (u : Update) :
    Held s (t.sendUpdate b l u) := by
  have hc := (Calm.refl t).frameSent b l u
  rw [State.sendUpdate_eq]
  exact (h.calm hc).updateSent ((hc.label id).trans hl) _ _ _

theorem Held.arbiterRun (n fuel : Nat) : ∀ {t : State}, Held s t → Held s (State.arbiterRun n fuel t) := by
  induction fuel with
  | zero => intro t h; exact h
  | succ k ih =>
    intro t h
    unfold State.arbiterRun
    split
    · exact h
    split
    · exact h
    split
    · exact h.calm (.setWaiting (.refl t) _ _)
    split
    · exact ih (h.calm (.putStation (.refl t) _))
    rename_i b _ _ _ id _ _ l hl
    split
    · have hc := (Calm.refl t).putStation { b with ready := setDrop b.ready id }
      exact ih ((h.calm hc).pickNothing ((hc.label id).trans hl))
    split
    · exact h.calm (.setWaiting (.refl t) _ _)
    split
    · exact h.calm (.setWaiting (.countDrop (.refl t) _ _) _ _)
    · exact ih (h.sendUpdate hl _ _)

theorem Held.foldl {α : Type} {f : State → α → State} (hf : ∀ t x, Held s t → Held s (f t x)) (l : List α)
    {t : State} (h : Held s t) : Held s (l.foldl f t) := by
  induction l generalizing t with
  | nil => exact h
  | cons x l ih => exact ih (hf t x h)

theorem Held.runArbiter (h : Held s t) (n : Nat) : Held s (t.runArbiter n) := by
  unfold State.runArbiter; split
  · exact h
  · exact h.arbiterRun _ _

theorem Held.bufferReturned (h : Held s t) : Held s t.bufferReturned := by
  refine Held.foldl (fun t b h => ?_) _ h
  split
  · exact h
  split
  · exact h.runArbiter _
  · exact h

theorem Held.settle (h : Held s t) : Held s t.settle := by
  refine Held.foldl (fun t c h => ?_) _ (h.calm (.setLink (.refl t) _ (by rfl)))
  cases c with
  | station n => exact h.runArbiter n
  | bufferReturned => exact h.bufferReturned

/-! ### Base stations -/

theorem Held.returnUpdates (h : Held s t) (rs : List InFlightRecord) : Held s (t.returnUpdates rs) :=
  Held.foldl (fun _ _ h => h.updateEnded _ _ _) _ h

theorem Held.loseStation (h : Held s t) (b : BaseStation) : Held s (t.loseStation b) :=
  .post (.returnUpdates (h.calm (.putStation (.refl t) _)) _) _ _ _

end Sys2Proof.Machine
end

section
/-! PROOFS. Items against labels: `ItemsAgree` read through the two tables' keys, and what may change in one item and its
labels without breaking it. -/

namespace Sys2Proof.Machine

/-! ### Items and labels in agreement -/

/-- A label record on an item's list, as `ItemAgrees` asks of it (R78, R81, R84). -/
structure LabelFits (i : Item) (l : Label) : Prop where
  article : l.article = some i.article
  confirmed : ∀ c, l.confirmed = some c → i.Holds c.version
  inFlight : ∀ u, l.inFlight = some u → i.Holds u.version
  idle : l.phase = .idle → l.confirmed = some
    { version := (i.pending.getD i.current).number, template := l.template, textRevision := i.textRevision }
  carries : ∀ v c u, i.pending = some v → l.confirmed = some c → c.version = v.number → l.inFlight = some u →
    u.version = v.number

/-- Whether a label record is STALE. -/
def isStale (o : Option Label) : Bool := o.map Label.phase == some .stale

/-- Whether a label record is not confirmed on a version number. -/
def notConfirmed (n : Nat) (o : Option Label) : Bool := (o.bind Label.confirmed).map Confirmed.version != some n

/-- The versions and the counts of an item, its labels aside (R6, R7, R14). -/
structure Item.Ordered (i : Item) : Prop where
  current : i.current.number ≤ i.lastVersion
  settled : i.pending = none → i.outstanding = 0 ∧ ∀ w, i.waiting = some w → w.queried = true
  pending : ∀ v, i.pending = some v → v.number ≤ i.lastVersion ∧ 1 ≤ i.outstanding

/-- An item against a reading of the label directory: `ItemAgrees` by its parts. -/
structure ItemFits (L : Nat → Option Label) (i : Item) : Prop where
  nodup : i.labels.Nodup
  few : i.labels.length ≤ 8
  listed : ∀ id ∈ i.labels, ∃ l, L id = some l ∧ LabelFits i l
  stale : i.staleCount = i.labels.countP (fun id => isStale (L id))
  ordered : i.Ordered
  outstanding : ∀ v, i.pending = some v → i.outstanding = i.labels.countP (fun id => notConfirmed v.number (L id))

/-- A label record by itself, as `LabelAgrees` asks of it (R77, R85). -/
structure LabelSound (l : Label) : Prop where
  unbinding : l.phase = .unbinding ↔ l.article = none
  sent : ∀ a, l.article = some a → (l.phase = .sent ↔ l.inFlight ≠ none)
  notBlank : ∀ a, l.article = some a → ∀ u, l.inFlight = some u → u.kind ≠ .blankUpdate

/-- A reading of the item table and one of the label directory agree, one label perhaps excepted whose own record is being
changed. -/
structure Agree (x : Option Nat) (I : Nat → Option Item) (L : Nat → Option Label) : Prop where
  items : ∀ a i, I a = some i → i.article = a ∧ ItemFits L i
  ids : ∀ id l, L id = some l → l.id = id
  labels : ∀ id l, L id = some l → some id ≠ x →
    LabelSound l ∧ ∀ a, l.article = some a → ∃ i, I a = some i ∧ id ∈ i.labels

theorem State.itemAgrees_iff (s : State) (i : Item) : s.ItemAgrees i ↔ ItemFits s.label i := by
  constructor
  · rintro ⟨h1, h2, h3, h4, h5, h6, h7⟩
    refine ⟨h1, h2, fun id hid => ?_, h4, ⟨h5, h6, fun v hv => ⟨(h7 v hv).1, (h7 v hv).2.1⟩⟩, fun v hv => (h7 v hv).2.2⟩
    obtain ⟨l, hl, ha, hc, hf, hi, hk⟩ := h3 id hid
    exact ⟨l, hl, ha, hc, hf, hi, hk⟩
  · rintro ⟨h1, h2, h3, h4, ⟨h5, h6, h7⟩, h8⟩
    refine ⟨h1, h2, fun id hid => ?_, h4, h5, h6, fun v hv => ⟨(h7 v hv).1, (h7 v hv).2, h8 v hv⟩⟩
    obtain ⟨l, hl, ha, hc, hf, hi, hk⟩ := h3 id hid
    exact ⟨l, hl, ha, hc, hf, hi, hk⟩

/-- With tables in bounds, items and labels agree exactly when the readings of the two tables do. -/
theorem State.itemsAgree_iff {s : State} (hb : s.TablesBounded) : s.ItemsAgree ↔ Agree none s.item s.label := by
  have hb' := (State.tablesBounded_iff s).mp hb
  have hi : ∀ a i, s.item a = some i ↔ (a, i) ∈ s.price.items :=
    fun a i => ⟨Table.mem_of_find, Table.find_of_mem hb'.1.1⟩
  have hl : ∀ id l, s.label id = some l ↔ (id, l) ∈ s.labels.directory :=
    fun a i => ⟨Table.mem_of_find, Table.find_of_mem hb'.2.1.1⟩
  constructor
  · rintro ⟨h1, h2⟩
    refine ⟨fun a i h => ⟨hb.article h, (s.itemAgrees_iff i).mp (h1 _ ((hi a i).mp h))⟩, fun _ _ h => hb.labelId h,
      fun id l h _ => ?_⟩
    obtain ⟨hu, ha⟩ := h2 _ ((hl id l).mp h)
    refine ⟨⟨hu, fun a h => (ha a h).2.1, fun a h => (ha a h).2.2⟩, fun a h' => ?_⟩
    rw [← hb.labelId h]
    exact (ha a h').1
  · rintro ⟨h1, h2, h3⟩
    refine ⟨fun e he => (s.itemAgrees_iff e.2).mpr (h1 e.1 e.2 ((hi _ _).mpr he)).2, fun e he => ?_⟩
    obtain ⟨⟨hu, hs, hk⟩, ha⟩ := h3 e.1 e.2 ((hl _ _).mpr he) (by simp)
    refine ⟨hu, fun a h => ⟨?_, hs a h, hk a h⟩⟩
    rw [h2 e.1 e.2 ((hl _ _).mpr he)]
    exact ha a h

variable {x : Option Nat} {I I' : Nat → Option Item} {L L' : Nat → Option Label} {a id : Nat} {i : Item} {l : Label}

/-- A listed label is bound to the item that lists it. -/
theorem Agree.of_listed (h : Agree x I L) (hi : I a = some i) (hid : id ∈ i.labels) :
    ∃ l, L id = some l ∧ l.article = some a ∧ LabelFits i l := by
  obtain ⟨ha, hf⟩ := h.items a i hi
  obtain ⟨l, hl, hlf⟩ := hf.listed id hid
  exact ⟨l, hl, ha ▸ hlf.article, hlf⟩

/-- A bound label stands on the list of its item and fits it. -/
theorem Agree.of_bound (h : Agree x I L) (hx : some id ≠ x) (hl : L id = some l) (ha : l.article = some a) :
    ∃ i, I a = some i ∧ id ∈ i.labels ∧ LabelFits i l := by
  obtain ⟨i, hi, hid⟩ := (h.labels id l hl hx).2 a ha
  obtain ⟨k, hk, _, hf⟩ := h.of_listed hi hid
  rw [hl] at hk; cases hk
  exact ⟨i, hi, hid, hf⟩

/-- An item's fit depends on the records of its own list only. -/
theorem ItemFits.congr (h : ItemFits L i) (hL : ∀ id ∈ i.labels, L' id = L id) : ItemFits L' i := by
  refine ⟨h.nodup, h.few, fun id hid => ?_, ?_, h.ordered, fun v hv => ?_⟩
  · obtain ⟨l, hl, hf⟩ := h.listed id hid
    exact ⟨l, (hL id hid).trans hl, hf⟩
  · rw [h.stale]
    exact List.countP_congr fun id hid => by rw [hL id hid]
  · rw [h.outstanding v hv]
    exact List.countP_congr fun id hid => by rw [hL id hid]

/-- A change confined to one item and to labels bound to it or to none keeps the agreement when the item fits the new
records and each record changed is sound and listed. -/
theorem Agree.update {y : Option Nat} (h : Agree x I L) (hI : ∀ b, b ≠ a → I' b = I b)
    (hL : ∀ id l b, L id = some l → l.article = some b → b ≠ a → L' id = some l)
    (hi : ∀ i, I' a = some i → i.article = a ∧ ItemFits L' i)
    (hid : ∀ id l, L' id = some l → l.id = id)
    (hl : ∀ id l, L' id = some l → some id ≠ y →
      (some id ≠ x ∧ L id = some l ∧ l.article ≠ some a) ∨
        (LabelSound l ∧ ∀ b, l.article = some b → b = a ∧ ∃ i, I' a = some i ∧ id ∈ i.labels)) :
    Agree y I' L' := by
  refine ⟨fun b j hj => ?_, hid, fun id l hl' hy => ?_⟩
  · by_cases hb : b = a
    · subst hb; exact hi j hj
    · rw [hI b hb] at hj
      obtain ⟨ha, hf⟩ := h.items b j hj
      refine ⟨ha, hf.congr fun id hid' => ?_⟩
      obtain ⟨l, hl1, hl2, _⟩ := h.of_listed hj hid'
      rw [hL id l b hl1 hl2 hb, hl1]
  · rcases hl id l hl' hy with ⟨hx, hold, hne⟩ | ⟨hs, hb⟩
    · obtain ⟨hs, hb⟩ := h.labels id l hold hx
      refine ⟨hs, fun b hb' => ?_⟩
      rw [hI b (fun e => hne (e ▸ hb'))]
      exact hb b hb'
    · refine ⟨hs, fun b hb' => ?_⟩
      obtain ⟨rfl, hb⟩ := hb b hb'
      exact hb

/-- One item replaced by one with the same list, and the records of that list changed with it. -/
theorem Agree.onItem {y : Option Nat} {j : Item} (h : Agree x I L) (hi : I a = some i) (ha : j.article = a)
    (hj : j.labels = i.labels) (hout : ∀ id, id ∉ i.labels → L' id = L id)
    (hxy : ∀ id, id ∉ i.labels → some id ≠ y → some id ≠ x)
    (hin : ∀ id ∈ i.labels, ∀ l, L id = some l → LabelFits i l → (some id ≠ x → LabelSound l) →
      ∃ k, L' id = some k ∧ k.id = id ∧ LabelFits j k ∧ (some id ≠ y → LabelSound k))
    (hs : j.staleCount = j.labels.countP (fun id => isStale (L' id))) (ho : j.Ordered)
    (hn : ∀ v, j.pending = some v → j.outstanding = j.labels.countP (fun id => notConfirmed v.number (L' id))) :
    Agree y (Function.update I a (some j)) L' := by
  obtain ⟨hia, hf⟩ := h.items a i hi
  have hin' : ∀ id ∈ i.labels, ∃ k, L' id = some k ∧ k.id = id ∧ LabelFits j k ∧ (some id ≠ y → LabelSound k) := by
    intro id hid
    obtain ⟨l, hl, hlf⟩ := hf.listed id hid
    exact hin id hid l hl hlf (fun hx => (h.labels id l hl hx).1)
  refine h.update (a := a) (fun b hb => Function.update_of_ne hb _ _) ?_ ?_ ?_ ?_
  · intro id l b hl hb hne
    rw [hout id, hl]
    intro hid
    obtain ⟨k, hk, hka, _⟩ := h.of_listed hi hid
    rw [hl] at hk; cases hk
    rw [hb] at hka; cases hka
    exact hne rfl
  · intro k hk
    rw [Function.update_self] at hk; cases hk
    refine ⟨ha, hj ▸ hf.nodup, hj ▸ hf.few, fun id hid => ?_, hs, ho, hn⟩
    obtain ⟨k, hk, _, hkf, _⟩ := hin' id (hj ▸ hid)
    exact ⟨k, hk, hkf⟩
  · intro id l hl
    by_cases hid : id ∈ i.labels
    · obtain ⟨k, hk, hki, _⟩ := hin' id hid
      rw [hl] at hk; cases hk; exact hki
    · rw [hout id hid] at hl; exact h.ids id l hl
  · intro id l hl hy
    by_cases hid : id ∈ i.labels
    · obtain ⟨k, hk, _, hkf, hks⟩ := hin' id hid
      rw [hl] at hk; cases hk
      refine .inr ⟨hks hy, fun b hb => ?_⟩
      rw [hkf.article, ha] at hb; cases hb
      exact ⟨rfl, j, Function.update_self .., hj ▸ hid⟩
    · rw [hout id hid] at hl
      have hx := hxy id hid hy
      refine .inl ⟨hx, hl, fun hla => hid ?_⟩
      obtain ⟨k, hk, hkl, _⟩ := h.of_bound hx hl hla
      rw [hi] at hk; cases hk; exact hkl

/-- How a count over a list without repetition moves when the test changes at one of its elements. -/
theorem countP_change {xs : List Nat} (hn : xs.Nodup) (hid : id ∈ xs) {p q : Nat → Bool}
    (hpq : ∀ y, y ≠ id → q y = p y) :
    xs.countP q + (p id).toNat = xs.countP p + (q id).toNat := by
  induction xs with
  | nil => cases hid
  | cons y ys ih =>
    obtain ⟨hy, hn⟩ := List.nodup_cons.mp hn
    rw [List.countP_cons, List.countP_cons]
    by_cases hyi : y = id
    · subst hyi
      have he : ys.countP q = ys.countP p := List.countP_congr fun z hz => by
        rw [hpq z (fun e => hy (e ▸ hz))]
      rw [he]
      cases p y <;> cases q y <;> simp
    · have := ih hn ((List.mem_cons.mp hid).resolve_left (Ne.symm hyi))
      rw [hpq y hyi]
      omega

/-- One record of a list replaced, the item's stale count moved with it and what the label has confirmed kept. The record
may be the one excepted before. -/
theorem Agree.replaceLabel {k : Label} {n : Nat} (h : Agree x I L) (hl : L id = some l) (hx : x = none ∨ x = some id)
    (hi : I a = some i) (hid : id ∈ i.labels) (hk : k.id = id) (hs : LabelSound k) (hf : LabelFits i k)
    (hc : k.confirmed.map Confirmed.version = l.confirmed.map Confirmed.version)
    (hn : n + (isStale (some l)).toNat = i.staleCount + (isStale (some k)).toNat) :
    Agree none (Function.update I a (some { i with staleCount := n })) (Function.update L id (some k)) := by
  obtain ⟨hia, hfit⟩ := h.items a i hi
  have hne : ∀ y, y ≠ id → some y ≠ x := by
    rintro y hy rfl
    rcases hx with hx | hx
    · cases hx
    · cases hx; exact hy rfl
  refine h.onItem hi hia rfl (fun y hy => Function.update_of_ne (by rintro rfl; exact hy hid) _ _)
    (fun y hy _ => hne y (by rintro rfl; exact hy hid)) ?_ ?_ ?_ ?_
  · intro y _ l' hl' hlf hls
    by_cases hy : y = id
    · subst hy
      exact ⟨k, Function.update_self .., hk, ⟨hf.1, hf.2, hf.3, hf.4, hf.5⟩, fun _ => hs⟩
    · exact ⟨l', (Function.update_of_ne hy _ _).trans hl', h.ids y l' hl', ⟨hlf.1, hlf.2, hlf.3, hlf.4, hlf.5⟩,
        fun _ => hls (hne y hy)⟩
  · have := countP_change hfit.nodup hid (p := fun y => isStale (L y))
      (q := fun y => isStale (Function.update L id (some k) y)) (fun y hy => by rw [Function.update_of_ne hy])
    rw [Function.update_self, hl, ← hfit.stale] at this
    dsimp only
    omega
  · exact ⟨hfit.ordered.1, hfit.ordered.2, hfit.ordered.3⟩
  · intro v hv
    rw [show ({ i with staleCount := n } : Item).outstanding = i.outstanding from rfl, hfit.outstanding v hv]
    refine List.countP_congr fun y _ => ?_
    by_cases hy : y = id
    · subst hy
      rw [Function.update_self, hl]
      simp only [notConfirmed, Option.bind_some, hc]
    · rw [Function.update_of_ne hy]

/-- The record of a bound label replaced, no item touched. -/
theorem Agree.replaceLabel_same {k : Label} (h : Agree none I L) (hl : L id = some l) (ha : l.article = some a)
    (hk : k.id = id) (hs : LabelSound k) (hf : ∀ i, I a = some i → LabelFits i l → LabelFits i k)
    (hc : k.confirmed.map Confirmed.version = l.confirmed.map Confirmed.version)
    (hn : isStale (some l) = isStale (some k)) :
    Agree none I (Function.update L id (some k)) := by
  obtain ⟨i, hi, hid, hlf⟩ := h.of_bound (by simp) hl ha
  have := h.replaceLabel (n := i.staleCount) hl (.inl rfl) hi hid hk hs (hf i hi hlf) hc (by rw [hn])
  rwa [show some { i with staleCount := i.staleCount } = I a from hi.symm, Function.update_eq_self] at this

/-- The record of a label bound to no item replaced or taken out. -/
theorem Agree.replaceUnbound {o : Option Label} (h : Agree x I L) (hl : ∀ l, L id = some l → l.article = none)
    (ho : ∀ k, o = some k → k.id = id ∧ k.phase = .unbinding ∧ k.article = none) :
    Agree x I (Function.update L id o) := by
  refine ⟨fun b j hj => ⟨(h.items b j hj).1, (h.items b j hj).2.congr fun y hy => ?_⟩, fun y k hk => ?_, fun y k hk hx => ?_⟩
  · obtain ⟨l, hyl, hla, _⟩ := h.of_listed hj hy
    refine Function.update_of_ne ?_ _ _
    rintro rfl
    rw [hl l hyl] at hla; cases hla
  · by_cases hy : y = id
    · subst hy; rw [Function.update_self] at hk; exact (ho k hk).1
    · rw [Function.update_of_ne hy] at hk; exact h.ids y k hk
  · by_cases hy : y = id
    · subst hy; rw [Function.update_self] at hk
      obtain ⟨_, hp, ha⟩ := ho k hk
      simp only [ha]
      exact ⟨⟨by simp [hp, ha], by simp [ha], by simp [ha]⟩, by simp⟩
    · rw [Function.update_of_ne hy] at hk; exact h.labels y k hk hx

/-- One item replaced by one that differs in nothing its labels depend on. -/
theorem Agree.replaceItem {j : Item} (h : Agree x I L) (hi : I a = some i) (ha : j.article = i.article)
    (hls : j.labels = i.labels) (hc : j.current = i.current) (hp : j.pending = i.pending)
    (ht : j.textRevision = i.textRevision) (hs : j.staleCount = i.staleCount) (hn : j.outstanding = i.outstanding)
    (ho : j.Ordered) : Agree x (Function.update I a (some j)) L := by
  obtain ⟨hia, hf⟩ := h.items a i hi
  refine h.onItem hi (ha.trans hia) hls (fun _ _ => rfl) (fun _ _ hx => hx) ?_ ?_ ho ?_
  · intro id _ l hl hlf hsnd
    refine ⟨l, hl, h.ids id l hl, ⟨?_, ?_, ?_, ?_, ?_⟩, hsnd⟩
    · rw [ha]; exact hlf.article
    · unfold Item.Holds; rw [hc, hp]; exact hlf.confirmed
    · unfold Item.Holds; rw [hc, hp]; exact hlf.inFlight
    · rw [hc, hp, ht]; exact hlf.idle
    · rw [hp]; exact hlf.carries
  · rw [hs, hls]; exact hf.stale
  · rw [hp, hn, hls]; exact hf.outstanding

end Sys2Proof.Machine
end

section
/-! PROOFS. What the operations between the Price Engine and the Label Service leave in the two tables, read by their keys. -/

namespace Sys2Proof.Machine

/-- What the two tables of a state hold, read by their keys. -/
structure State.Reads (s : State) (I : Nat → Option Item) (L : Nat → Option Label) : Prop where
  item : ∀ a, s.item a = I a
  label : ∀ id, s.label id = L id

theorem State.reads_self (s : State) : s.Reads s.item s.label := ⟨fun _ => rfl, fun _ => rfl⟩

variable {s t : State} {x : Option Nat} {I : Nat → Option Item} {L : Nat → Option Label} {a id : Nat} {i : Item} {l : Label}

theorem State.Reads.agree (h : s.Reads I L) (ha : Agree x I L) : Agree x s.item s.label := by
  rw [show s.item = I from funext h.item, show s.label = L from funext h.label]; exact ha

theorem State.Reads.calm (h : s.Reads I L) (hc : Calm s t) : t.Reads I L :=
  ⟨fun a => (hc.item a).trans (h.item a), fun id => (hc.label id).trans (h.label id)⟩

theorem State.Reads.putItem (h : s.Reads I L) (i : Item) :
    (s.putItem i).Reads (Function.update I i.article (some i)) L := by
  refine ⟨fun a => ?_, h.label⟩
  rw [State.item_putItem, Function.update_apply, h.item]

theorem State.Reads.putLabel (h : s.Reads I L) (l : Label) :
    (s.putLabel l).Reads I (Function.update L l.id (some l)) := by
  refine ⟨fun a => (s.item_putLabel l a).trans (h.item a), fun id => ?_⟩
  rw [State.label_putLabel, Function.update_apply, h.label]

theorem State.Reads.delLabel (hb : s.TablesBounded) (h : s.Reads I L) (id : Nat) :
    (s.delLabel id).Reads I (Function.update L id none) := by
  refine ⟨fun a => (s.item_delLabel id a).trans (h.item a), fun y => ?_⟩
  rw [State.label_delLabel hb, Function.update_apply, h.label]

theorem State.Reads.joinSet (h : s.Reads I L) (l : Label) : (s.joinSet l).Reads I L := h.calm (.joinSet (.refl s) l)

theorem State.Reads.leaveSet (h : s.Reads I L) (l : Label) : (s.leaveSet l).Reads I L := h.calm (.leaveSet (.refl s) l)

theorem State.Reads.post (h : s.Reads I L) (k : NoticeKind) (y d : Nat) : (s.post k y d).Reads I L :=
  h.calm (.post (.refl s) k y d)

theorem State.Reads.queue (h : s.Reads I L) (l : Label) :
    (s.queue l).Reads I (Function.update L l.id (some { l with phase := .queued })) :=
  .joinSet (h.putLabel { l with phase := .queued }) _

theorem State.Reads.putItem_at (h : s.Reads I L) (i : Item) (ha : i.article = a) :
    (s.putItem i).Reads (Function.update I a (some i)) L := ha ▸ h.putItem i

theorem State.Reads.putLabel_at (h : s.Reads I L) (l : Label) (hl : l.id = id) :
    (s.putLabel l).Reads I (Function.update L id (some l)) := hl ▸ h.putLabel l

theorem State.Reads.queue_at (h : s.Reads I L) (l : Label) (hl : l.id = id) :
    (s.queue l).Reads I (Function.update L id (some { l with phase := .queued })) := hl ▸ h.queue l

/-- A stale or recovery report of a label on its item's list moves the stale count (R17, R20). -/
theorem State.Reads.staleReport (h : s.Reads I L) (hi : I a = some i) (ha : i.article = a) (hid : id ∈ i.labels)
    (up : Bool) :
    (s.staleReport a id up).Reads
      (Function.update I a (some { i with staleCount := if up then i.staleCount + 1 else i.staleCount - 1 })) L := by
  unfold State.staleReport
  rw [h.item, hi]
  dsimp only
  rw [if_pos hid]
  exact h.putItem_at _ (by exact ha)

/-! ### Queue requests (R87) -/

/-- The record of a label after a queue request (R87). -/
def Label.requeued (k : QueueKind) (l : Label) : Label :=
  match l.phase with
  | .idle => { l with phase := .queued }
  | .queued => l
  | .sent => { l with again := true }
  | .stale =>
    match k with
    | .newTarget => { l with attempts := 0, staleReason := .noReason, phase := .queued }
    | .text => l
  | .unbinding => l

/-- What a queue request leaves of a record, and the state it brings it to. -/
theorem Label.requeued_cases (k : QueueKind) (l : Label) :
    (l.requeued k).id = l.id ∧ (l.requeued k).article = l.article ∧ (l.requeued k).template = l.template
      ∧ (l.requeued k).confirmed = l.confirmed ∧ (l.requeued k).inFlight = l.inFlight
      ∧ (l.requeued k).phase ≠ .idle ∧ ((l.requeued k).phase = .sent ↔ l.phase = .sent)
      ∧ ((l.requeued k).phase = .unbinding ↔ l.phase = .unbinding)
      ∧ ((l.requeued k).phase = .stale ↔ l.phase = .stale ∧ k = .text) := by
  unfold Label.requeued
  cases hp : l.phase <;> cases k <;> simp [hp]

@[simp] theorem Label.requeued_id (k : QueueKind) (l : Label) : (l.requeued k).id = l.id := (l.requeued_cases k).1

theorem Label.requeued_again_self (k : QueueKind) (h : l.phase = .queued) : l.requeued k = l := by
  simp [Label.requeued, h]

/-- How many of the labels of a request are STALE and taken out of STALE by it (R20). -/
def recovered (k : QueueKind) (L : Nat → Option Label) (ids : List Nat) : Nat :=
  ids.countP (fun id => decide (k = .newTarget) && isStale (L id))

/-- One label of a queue request: its record brought up, its item's stale count lowered if it was STALE. -/
theorem State.Reads.queueLabel {k : QueueKind} (h : s.Reads I L) (hi : I a = some i) (ha : i.article = a)
    (hid : id ∈ i.labels) (hL : ∀ l, L id = some l → l.id = id) :
    (State.queueLabel k a s id).Reads (Function.update I a (some { i with staleCount := i.staleCount - recovered k L [id] }))
      (Function.update L id ((L id).map (Label.requeued k))) := by
  have keep : recovered k L [id] = 0 → ∀ {t : State} {J : Nat → Option Label}, t.Reads I J → t.Reads
      (Function.update I a (some { i with staleCount := i.staleCount - recovered k L [id] })) J := by
    intro h0 t J hJ
    rw [h0, Nat.sub_zero, show some { i with staleCount := i.staleCount } = I a from hi.symm, Function.update_eq_self]
    exact hJ
  have hold : ∀ l, L id = some l → l.requeued k = l → s.Reads I (Function.update L id (some (l.requeued k))) := by
    intro l hl he
    rw [he, ← hl, Function.update_eq_self]; exact h
  unfold State.queueLabel
  rw [h.label]
  cases hl : L id with
  | none =>
    refine keep (by simp [recovered, hl, isStale]) ?_
    have he : Function.update L id none = L := by rw [← hl, Function.update_eq_self]
    rw [Option.map_none, he]; exact h
  | some l =>
    have hlid := hL l hl
    rw [Option.map_some]
    cases hp : l.phase with
    | idle =>
      simp only [hp]
      refine keep (by simp [recovered, hl, isStale, hp]) ?_
      rw [show l.requeued k = { l with phase := .queued } by simp [Label.requeued, hp]]
      exact h.queue_at l hlid
    | queued =>
      simp only [hp]
      exact keep (by simp [recovered, hl, isStale, hp]) (hold l hl (Label.requeued_again_self k hp))
    | sent =>
      simp only [hp]
      refine keep (by simp [recovered, hl, isStale, hp]) ?_
      rw [show l.requeued k = { l with again := true } by simp [Label.requeued, hp]]
      simpa only [hp] using h.putLabel_at { l with again := true } hlid
    | unbinding =>
      simp only [hp]
      exact keep (by simp [recovered, hl, isStale, hp]) (hold l hl (by simp [Label.requeued, hp]))
    | stale =>
      simp only [hp]
      cases k with
      | text => exact keep (by simp [recovered]) (hold l hl (by simp [Label.requeued, hp]))
      | newTarget =>
        rw [show l.requeued .newTarget = { l with attempts := 0, staleReason := .noReason, phase := .queued } by
          simp [Label.requeued, hp], show recovered .newTarget L [id] = 1 by simp [recovered, hl, isStale, hp]]
        exact (h.queue_at { l with attempts := 0, staleReason := .noReason } hlid).staleReport hi ha hid false

/-- A queue request over labels of an item's list, none twice (R87): each record brought up, the stale count lowered by
those that were STALE. -/
theorem State.Reads.queueRequest {k : QueueKind} {ids : List Nat} (h : s.Reads I L) (hi : I a = some i)
    (ha : i.article = a) (hn : ids.Nodup) (hids : ∀ id ∈ ids, id ∈ i.labels) (hL : ∀ id l, L id = some l → l.id = id) :
    (s.queueRequest k a ids).Reads
      (Function.update I a (some { i with staleCount := i.staleCount - recovered k L ids }))
      (fun id => if id ∈ ids then (L id).map (Label.requeued k) else L id) := by
  induction ids generalizing s I L i with
  | nil =>
    show s.Reads _ _
    rw [show recovered k L [] = 0 from rfl, Nat.sub_zero, show some { i with staleCount := i.staleCount } = I a from hi.symm,
      Function.update_eq_self]
    simpa using h
  | cons id ids ih =>
    obtain ⟨hid, hn⟩ := List.nodup_cons.mp hn
    have h1 := h.queueLabel (k := k) hi ha (hids id (by simp)) (hL id)
    have hsame : ∀ y ∈ ids, Function.update L id ((L id).map (Label.requeued k)) y = L y :=
      fun y hy => Function.update_of_ne (by rintro rfl; exact hid hy) _ _
    have h2 := ih h1 (Function.update_self ..) ha hn (fun y hy => hids y (by simp [hy])) (fun y l hl => by
      by_cases hy : y = id
      · subst hy
        rw [Function.update_self] at hl
        obtain ⟨l', hl', rfl⟩ := Option.map_eq_some_iff.mp hl
        simpa using hL y l' hl'
      · rw [Function.update_of_ne hy] at hl; exact hL y l hl)
    refine ⟨fun b => (h2.item b).trans ?_, fun y => (h2.label y).trans ?_⟩
    · have hr : recovered k (Function.update L id ((L id).map (Label.requeued k))) ids = recovered k L ids :=
        List.countP_congr fun y hy => by rw [hsame y hy]
      have hc : recovered k L (id :: ids) = recovered k L [id] + recovered k L ids := by
        unfold recovered; rw [List.countP_cons, List.countP_singleton, Nat.add_comm]
      rw [Function.update_idem, hr, hc, Nat.sub_sub]
    · by_cases hy : y = id
      · subst hy; simp [hid]
      · simp [hy]

end Sys2Proof.Machine
end

section
/-! PROOFS. The campaign between items and labels: a version placed, the switch, the reports of labels, and the agreement of
the two tables through each of them. -/

namespace Sys2Proof.Machine

variable {s t : State} {x : Option Nat} {I I' : Nat → Option Item} {L L' : Nat → Option Label} {a id : Nat} {i : Item}
  {l : Label}

theorem Label.requeued_fits {j : Item} {k : QueueKind} (h : LabelFits i l) (ha : j.article = i.article)
    (hh : ∀ n, i.Holds n → j.Holds n)
    (hc : ∀ v c u, j.pending = some v → l.confirmed = some c → c.version = v.number → l.inFlight = some u →
      u.version = v.number) : LabelFits j (l.requeued k) := by
  obtain ⟨_, hla, _, hlc, hlf, hidle, _⟩ := l.requeued_cases k
  refine ⟨?_, fun c h' => hh _ (h.confirmed c (hlc ▸ h')), fun u h' => hh _ (h.inFlight u (hlf ▸ h')),
    fun h' => absurd h' hidle, fun v c u h1 h2 h3 h4 => hc v c u h1 (hlc ▸ h2) h3 (hlf ▸ h4)⟩
  rw [hla, ha]; exact h.article

theorem Label.requeued_sound {k : QueueKind} (h : LabelSound l) : LabelSound (l.requeued k) := by
  obtain ⟨_, hla, _, _, hlf, _, hs, hu, _⟩ := l.requeued_cases k
  refine ⟨?_, fun b hb => ?_, fun b hb => ?_⟩
  · rw [hu, hla]; exact h.unbinding
  · rw [hs, hlf]; exact h.sent b (hla ▸ hb)
  · rw [hlf]; exact h.notBlank b (hla ▸ hb)

/-- The records of an item's list after a queue request, the directory around them untouched. -/
def requeuedList (k : QueueKind) (ids : List Nat) (L : Nat → Option Label) (id : Nat) : Option Label :=
  if id ∈ ids then (L id).map (Label.requeued k) else L id

theorem isStale_requeued (k : QueueKind) (l : Label) :
    isStale (some (l.requeued k)) = (decide (k = .text) && isStale (some l)) := by
  have h := (l.requeued_cases k).2.2.2.2.2.2.2.2
  cases k <;> simp [isStale, h]

/-- The STALE labels of a list after a queue request are those it does not take out of STALE (R87). -/
theorem countP_requeued {k : QueueKind} {ids : List Nat} (hL : ∀ id ∈ ids, (L id).isSome) :
    ids.countP (fun id => isStale (L id)) - recovered k L ids
      = ids.countP (fun id => isStale (requeuedList k ids L id)) := by
  symm
  have hr : ∀ id ∈ ids, isStale (requeuedList k ids L id) = (decide (k = .text) && isStale (L id)) := by
    intro id hid
    obtain ⟨l, hl⟩ := Option.isSome_iff_exists.mp (hL id hid)
    rw [requeuedList, if_pos hid, hl]
    exact isStale_requeued k l
  rw [List.countP_congr (q := fun id => decide (k = .text) && isStale (L id)) fun id hid => by rw [hr id hid]]
  cases k <;> simp [recovered]

/-- An item and its list brought to a new version or text agree when the item does and keeps what its labels show. -/
theorem Agree.requeue {j : Item} {k : QueueKind} (h : Agree x I L) (hi : I a = some i) (ha : j.article = a)
    (hls : j.labels = i.labels) (hh : ∀ n, i.Holds n → j.Holds n)
    (hc : ∀ l, LabelFits i l → ∀ v c u, j.pending = some v → l.confirmed = some c → c.version = v.number →
      l.inFlight = some u → u.version = v.number)
    (hs : j.staleCount = i.staleCount - recovered k L i.labels) (ho : j.Ordered)
    (hn : ∀ v, j.pending = some v → j.outstanding = j.labels.countP (fun id => notConfirmed v.number (L id))) :
    Agree x (Function.update I a (some j)) (requeuedList k i.labels L) := by
  obtain ⟨hia, hf⟩ := h.items a i hi
  refine h.onItem hi ha hls (fun id hid => if_neg hid) (fun _ _ hx => hx) ?_ ?_ ho ?_
  · intro id hid l hl hlf hsnd
    refine ⟨l.requeued k, ?_, ?_, Label.requeued_fits hlf (ha.trans hia.symm) hh (hc l hlf), fun hx => Label.requeued_sound (hsnd hx)⟩
    · rw [requeuedList, if_pos hid, hl]; rfl
    · rw [l.requeued_id]; exact h.ids id l hl
  · rw [hs, hls, hf.stale]
    refine countP_requeued fun id hid => ?_
    obtain ⟨l, hl, _⟩ := hf.listed id hid
    simp [hl]
  · intro v hv
    rw [hn v hv, hls]
    refine List.countP_congr fun id hid => ?_
    obtain ⟨l, hl, _⟩ := hf.listed id hid
    rw [requeuedList, if_pos hid, hl]
    simp only [notConfirmed, Option.map_some, Option.bind_some, (l.requeued_cases k).2.2.2.1]

/-! ### A version placed (R11, R12) -/

/-- What a change of the tables around one item leaves: the agreement, the item's list, and the records not on it. -/
structure Around (x : Option Nat) (a : Nat) (ids : List Nat) (L : Nat → Option Label) (t : State) : Prop where
  agree : Agree x t.item t.label
  item : ∃ j, t.item a = some j ∧ j.labels = ids
  outside : ∀ id, id ∉ ids → t.label id = L id
  inside : ∀ id ∈ ids, t.label id = L id ∨ t.label id = (L id).map (Label.requeued .newTarget)

/-- A version placed on a SETTLED item raises the number by 1 and goes to every label of the item, none confirmed on it
yet (R3, R10-R12). -/
theorem State.Reads.placeVersion (h : s.Reads I L) (ha : i.article = a) (hp : i.pending = none)
    (hl : i.lastVersion < 4294967295)
    (hag : Agree x (Function.update I a (some { i with waiting := none })) L) (b : Nat) (p : Option Promotion) :
    Around x a i.labels L (s.placeVersion i b p).1 := by
  subst ha
  have hn : nextNumber i.lastVersion = i.lastVersion + 1 := if_neg (by omega)
  have hit := (hag.items _ _ (Function.update_self ..)).2
  have hcur : i.current.number ≤ i.lastVersion := hit.ordered.current
  unfold State.placeVersion
  dsimp only
  rw [hn]
  by_cases he : i.labels = []
  · rw [if_pos he]
    dsimp only
    have hr := h.putItem_at { i with current := { number := i.lastVersion + 1, base := b, promo := p }, waiting := none,
                                     lastVersion := i.lastVersion + 1 } rfl
    have hsc : i.staleCount = 0 := by have := hit.stale; simpa [he] using this
    have hout : i.outstanding = 0 := (hit.ordered.settled hp).1
    refine ⟨hr.agree ?_, ⟨_, (hr.item _).trans (Function.update_self ..), rfl⟩, fun id _ => hr.label id,
      fun id _ => .inl (hr.label id)⟩
    have := hag.onItem (y := x) (L' := L) (Function.update_self ..)
      (j := { i with current := { number := i.lastVersion + 1, base := b, promo := p }, waiting := none,
                     lastVersion := i.lastVersion + 1 }) rfl rfl (fun _ _ => rfl) (fun _ _ h => h)
      (fun id hid => absurd (show id ∈ i.labels from hid) (by simp [he]))
      (by simp [he, hsc]) ⟨Nat.le_refl _, fun _ => ⟨hout, by simp⟩, fun v hv => by simp [hp] at hv⟩
      (fun v hv => by simp [hp] at hv)
    rwa [Function.update_idem] at this
  · rw [if_neg he]
    dsimp only
    have hids : ∀ id l, L id = some l → l.id = id := hag.ids
    have hr := (h.putItem_at { i with pending := some { number := i.lastVersion + 1, base := b, promo := p },
                                      waiting := none, lastVersion := i.lastVersion + 1, outstanding := i.labels.length }
      rfl).queueRequest (k := .newTarget) (Function.update_self ..) rfl hit.nodup (fun id hid => hid) hids
    rw [Function.update_idem] at hr
    refine ⟨hr.agree ?_, ⟨_, (hr.item _).trans (Function.update_self ..), rfl⟩,
      fun id hid => (hr.label id).trans (if_neg hid), fun id hid => .inr ((hr.label id).trans (if_pos hid))⟩
    have hnot : ∀ c : Confirmed, ({ i with waiting := none } : Item).Holds c.version → c.version ≠ i.lastVersion + 1 := by
      intro c hc
      rcases hc with hc | hc
      · have : c.version = i.current.number := hc
        omega
      · simp [hp] at hc
    have := hag.requeue (k := .newTarget) (Function.update_self ..)
      (j := { i with pending := some { number := i.lastVersion + 1, base := b, promo := p }, waiting := none
                     lastVersion := i.lastVersion + 1, outstanding := i.labels.length
                     staleCount := i.staleCount - recovered .newTarget L i.labels }) rfl rfl
      (fun n hn' => hn'.imp id (fun h' => by simp [hp] at h')) (fun l hlf v c u hv hc hcv _ => by
        cases hv; exact absurd hcv (hnot c (hlf.confirmed c hc))) rfl
      ⟨by dsimp only; omega, fun h' => by simp at h', fun v hv => by
        cases hv
        exact ⟨Nat.le_refl _, List.length_pos_iff.mpr he⟩⟩ (fun v hv => by
        cases hv
        dsimp only
        symm
        rw [List.countP_eq_length]
        intro id hid
        obtain ⟨l, hl, hlf⟩ := hit.listed id hid
        rw [hl]
        cases hc : l.confirmed with
        | none => simp [notConfirmed, hc]
        | some c =>
          have := hnot c (hlf.confirmed c hc)
          simpa [notConfirmed, hc] using this)
    rwa [Function.update_idem] at this

/-! ### The switch (R19) -/

/-- All but one item agrees: whatever record with that article and list fits may stand there. -/
def RestAgrees (x : Option Nat) (a : Nat) (ids : List Nat) (I : Nat → Option Item) (L : Nat → Option Label) : Prop :=
  ∀ j : Item, j.article = a → j.labels = ids → ItemFits L j → Agree x (Function.update I a (some j)) L

/-- An item in a campaign whose labels fit it, its outstanding count perhaps down to 0. -/
structure InCampaign (L : Nat → Option Label) (i : Item) (v : Version) (n : Nat) : Prop where
  pending : i.pending = some v
  nodup : i.labels.Nodup
  few : i.labels.length ≤ 8
  listed : ∀ id ∈ i.labels, ∃ l, L id = some l ∧ LabelFits i l
  stale : i.staleCount = i.labels.countP (fun id => isStale (L id))
  current : i.current.number ≤ i.lastVersion
  number : v.number ≤ i.lastVersion
  outstanding : n = i.labels.countP (fun id => notConfirmed v.number (L id))

/-- A label confirmed on the pending version fits the item once that version is current (R19). -/
theorem LabelFits.switch {v : Version} (h : LabelFits i l) (hp : i.pending = some v)
    (hc : notConfirmed v.number (some l) = false) :
    LabelFits { i with current := v, pending := none, outstanding := 0, waiting := none } l := by
  obtain ⟨c, hlc, hcv⟩ : ∃ c, l.confirmed = some c ∧ c.version = v.number := by
    simpa [notConfirmed] using hc
  refine ⟨h.article, fun d hd => ?_, fun u hu => ?_, fun hi => ?_, by simp⟩
  · rw [hlc] at hd; cases hd; exact .inl hcv
  · exact .inl (h.carries v c u hp hlc hcv hu)
  · have := h.idle hi; rw [hp] at this; exact this

/-- An item whose labels are all confirmed on the pending version fits them once it has switched (R19). -/
theorem InCampaign.switched {v : Version} (h : InCampaign L i v 0) :
    ItemFits L { i with current := v, pending := none, outstanding := 0, waiting := none } := by
  refine ⟨h.nodup, h.few, fun id hid => ?_, h.stale, ⟨h.number, fun _ => ⟨rfl, by simp⟩, by simp⟩, by simp⟩
  obtain ⟨l, hl, hf⟩ := h.listed id hid
  have := List.countP_eq_zero.mp h.outstanding.symm id hid
  rw [hl] at this
  exact ⟨l, hl, hf.switch h.pending (by simpa using this)⟩

/-- The switch leaves items and labels in agreement, whatever change waited (R14, R19). -/
theorem State.Reads.switchItem {v : Version} (h : s.Reads I L) (ha : i.article = a) (hl : i.lastVersion < 4294967295)
    (hf : RestAgrees x a i.labels I L) (hc : InCampaign L i v 0) : Around x a i.labels L (s.switchItem i) := by
  subst ha
  have hbase := hf { i with current := v, pending := none, outstanding := 0, waiting := none } rfl rfl hc.switched
  have hr : ((s.putItem { i with current := v, pending := none, outstanding := 0 }).post .campaignDone i.article
      v.number).Reads (Function.update I i.article (some { i with current := v, pending := none, outstanding := 0 })) L :=
    .post (h.putItem _) _ _ _
  have kept : (∀ w, i.waiting = some w → w.queried = true) → Around x i.article i.labels L
      ((s.putItem { i with current := v, pending := none, outstanding := 0 }).post .campaignDone i.article v.number) := by
    intro hw
    refine ⟨hr.agree ?_, ⟨_, (hr.item _).trans (Function.update_self ..), rfl⟩, fun id _ => hr.label id,
      fun id _ => .inl (hr.label id)⟩
    have := hbase.replaceItem (Function.update_self ..) (j := { i with current := v, pending := none, outstanding := 0 })
      rfl rfl rfl rfl rfl rfl rfl ⟨hc.number, fun _ => ⟨rfl, hw⟩, by simp⟩
    rwa [Function.update_idem] at this
  unfold State.switchItem
  rw [hc.pending]
  dsimp only
  split
  · rename_i hw; exact kept (by simp [hw])
  · rename_i w hw
    split
    · rename_i hq; exact kept (by rw [hw]; rintro _ ⟨⟩; exact hq)
    · exact hr.placeVersion (i := { i with current := v, pending := none, outstanding := 0 }) rfl rfl hl (by rw [Function.update_idem]; exact hbase) _ _

/-- Outstanding lowered by 1 for a label that has left the count, with the switch at 0 (R6, R19). -/
theorem State.Reads.lowerOutstanding {v : Version} (h : s.Reads I L) (ha : i.article = a)
    (hl : i.lastVersion < 4294967295) (hf : RestAgrees x a i.labels I L)
    (hc : InCampaign L i v (i.outstanding - 1)) : Around x a i.labels L (s.lowerOutstanding i) := by
  subst ha
  unfold State.lowerOutstanding
  dsimp only
  have hr := h.putItem { i with outstanding := i.outstanding - 1 }
  split
  · rename_i h0
    rw [h0] at hc hr
    rw [h0]
    refine hr.switchItem (i := { i with outstanding := 0 }) rfl hl (fun j hja hjl hjf => ?_)
      ⟨hc.1, hc.2, hc.3, fun id hid => ?_, hc.5, hc.6, hc.7, hc.8⟩
    · rw [Function.update_idem]; exact hf j hja hjl hjf
    · obtain ⟨l, hl, hlf⟩ := hc.listed id hid
      exact ⟨l, hl, hlf.1, hlf.2, hlf.3, hlf.4, hlf.5⟩
  · rename_i h0
    refine ⟨hr.agree (hf _ rfl rfl ⟨hc.nodup, hc.few, fun id hid => ?_, hc.stale, ⟨hc.current, ?_, ?_⟩, ?_⟩),
      ⟨_, (hr.item _).trans (Function.update_self ..), rfl⟩, fun id _ => hr.label id, fun id _ => .inl (hr.label id)⟩
    · obtain ⟨l, hl, hlf⟩ := hc.listed id hid
      exact ⟨l, hl, hlf.1, hlf.2, hlf.3, hlf.4, hlf.5⟩
    · intro hp
      exact absurd (hc.pending.symm.trans hp) (by simp)
    · intro w hv
      rw [hc.pending] at hv; cases hv
      exact ⟨hc.number, by dsimp only; omega⟩
    · intro w hv
      rw [hc.pending] at hv; cases hv
      exact hc.outstanding

end Sys2Proof.Machine
end

section
/-! PROOFS. The agreement of items and labels through each change of the item table and of a label record. -/

namespace Sys2Proof.Machine

variable {s t : State} {x : Option Nat} {I I' : Nat → Option Item} {L L' : Nat → Option Label} {a id : Nat} {i : Item}
  {l : Label}

/-- No item's version number is the last before the wrap (R3). -/
def BeforeWrap (I : Nat → Option Item) : Prop := ∀ a i, I a = some i → i.lastVersion < 4294967295

/-- With one label excepted, all that an item's list does not name goes on agreeing. -/
theorem Agree.rest {ids : List Nat} (h : Agree none I L) (hi : I a = some i) (hL : ∀ y, y ≠ id → L' y = L y)
    (hl : ∀ l, L id = some l → ∀ b, l.article = some b → b = a) (hk : ∀ k, L' id = some k → k.id = id)
    (hls : ∀ y ∈ i.labels, y ≠ id → y ∈ ids) : RestAgrees (some id) a ids I L' := by
  intro j hja hjl hjf
  refine h.update (a := a) (fun b hb => Function.update_of_ne hb _ _) ?_ ?_ ?_ ?_
  · intro y k b hk' hb hne
    by_cases hy : y = id
    · subst hy; exact absurd (hl k hk' b hb) hne
    · rw [hL y hy, hk']
  · intro k hk'
    rw [Function.update_self] at hk'; cases hk'
    exact ⟨hja, hjf⟩
  · intro y k hk'
    by_cases hy : y = id
    · subst hy; exact hk k hk'
    · rw [hL y hy] at hk'; exact h.ids y k hk'
  · intro y k hk' hy
    have hy' : y ≠ id := fun e => hy (e ▸ rfl)
    rw [hL y hy'] at hk'
    by_cases hb : k.article = some a
    · obtain ⟨i', hi', hyi, _⟩ := h.of_bound (by simp) hk' hb
      rw [hi] at hi'; cases hi'
      refine .inr ⟨(h.labels y k hk' (by simp)).1, fun b hb' => ?_⟩
      rw [hb] at hb'; cases hb'
      exact ⟨rfl, j, Function.update_self .., hjl ▸ hls y hyi hy'⟩
    · exact .inl ⟨by simp, hk', hb⟩

/-! ### A SHOWN update (R95) -/

theorem Label.shown_fits {u : InFlightUpdate} (h : LabelFits i l) (hu : l.inFlight = some u) (hp : l.phase ≠ .idle) :
    LabelFits i (l.shown u) :=
  ⟨h.article, by rintro c ⟨⟩; exact h.inFlight u hu, by rintro _ ⟨⟩, fun hi => absurd hi hp, by rintro _ _ _ _ _ _ ⟨⟩⟩

/-- The report of a SHOWN update leaves the label confirmed and the item's campaign a label further (R17-R19, R95). -/
theorem State.Reads.reportShown {u : InFlightUpdate} (h : s.Reads I L) (hl : l.id = id) (ha : l.article = some a)
    (hu : l.inFlight = some u) (hU : BeforeWrap I) (hag : Agree none I (Function.update L id (some l)))
    (hi : I a = some i) :
    Around (some id) a i.labels (Function.update L id (some (l.shown u))) (s.reportShown l u) := by
  have hself : Function.update L id (some l) id = some l := Function.update_self ..
  obtain ⟨i', hi', hid, hlf⟩ := hag.of_bound (by simp) hself ha
  rw [hi] at hi'; cases hi'
  have hsnd := (hag.labels id l hself (by simp)).1
  have hsent : l.phase = .sent := (hsnd.sent a ha).mpr (by simp [hu])
  obtain ⟨hia, hfit⟩ := hag.items a i hi
  have hL1 : ∀ y, y ≠ id → Function.update L id (some (l.shown u)) y = Function.update L id (some l) y :=
    fun y hy => by rw [Function.update_of_ne hy, Function.update_of_ne hy]
  have hrest : RestAgrees (some id) a i.labels I (Function.update L id (some (l.shown u))) :=
    hag.rest hi hL1 (by rw [hself]; rintro _ ⟨⟩ b hb; rw [ha] at hb; cases hb; rfl)
      (by rw [Function.update_self]; rintro _ ⟨⟩; exact hl) (fun y hy _ => hy)
  have hlisted : ∀ y ∈ i.labels, ∃ k, Function.update L id (some (l.shown u)) y = some k ∧ LabelFits i k := by
    intro y hy
    by_cases hyi : y = id
    · subst hyi
      exact ⟨_, Function.update_self .., Label.shown_fits hlf hu (by simp [hsent])⟩
    · rw [hL1 y hyi]; exact hfit.listed y hy
  have hstale : i.staleCount = i.labels.countP (fun y => isStale (Function.update L id (some (l.shown u)) y)) := by
    rw [hfit.stale]
    refine List.countP_congr fun y _ => ?_
    by_cases hyi : y = id
    · subst hyi; rw [Function.update_self, Function.update_self]; rfl
    · rw [hL1 y hyi]
  have hmove : ∀ v : Version, i.pending = some v →
      i.labels.countP (fun y => notConfirmed v.number (Function.update L id (some (l.shown u)) y))
        + (notConfirmed v.number (some l)).toNat = i.outstanding + (u.version != v.number).toNat := by
    intro v hv
    have := countP_change hfit.nodup hid (p := fun y => notConfirmed v.number (Function.update L id (some l) y))
      (q := fun y => notConfirmed v.number (Function.update L id (some (l.shown u)) y)) (fun y hy => by rw [hL1 y hy])
    rw [← hfit.outstanding v hv, Function.update_self, Function.update_self] at this
    exact this
  have hr : (s.putLabel (l.shown u)).Reads I (Function.update L id (some (l.shown u))) := h.putLabel_at _ hl
  have kept : (∀ v, i.pending = some v → i.outstanding
      = i.labels.countP (fun y => notConfirmed v.number (Function.update L id (some (l.shown u)) y))) →
      Around (some id) a i.labels (Function.update L id (some (l.shown u))) (s.putLabel (l.shown u)) := by
    intro ho
    refine ⟨hr.agree ?_, ⟨i, (hr.item a).trans hi, rfl⟩, fun y _ => hr.label y, fun y _ => .inl (hr.label y)⟩
    have := hrest i hia rfl ⟨hfit.nodup, hfit.few, hlisted, hstale, hfit.ordered, ho⟩
    rwa [show some i = I a from hi.symm, Function.update_eq_self] at this
  unfold State.reportShown
  rw [ha]
  dsimp only
  unfold State.confirmationReport
  rw [hr.item, hi, hl]
  dsimp only
  rw [if_pos hid]
  cases hp : i.pending with
  | none => exact kept (by simp [hp])
  | some v =>
    have hm := hmove v hp
    have hnc : notConfirmed v.number (some l) = (l.confirmed.map Confirmed.version != some v.number) := rfl
    dsimp only
    split
    · rename_i hc
      obtain ⟨hc1, hc2⟩ := hc
      refine hr.lowerOutstanding hia (hU a i hi) hrest
        ⟨hp, hfit.nodup, hfit.few, hlisted, hstale, hfit.ordered.current, (hfit.ordered.pending v hp).1, ?_⟩
      rw [hnc, show (l.confirmed.map Confirmed.version != some v.number) = true by simpa using hc2, hc1] at hm
      simp at hm
      omega
    · rename_i hc
      refine kept fun w hw => ?_
      rw [hp] at hw; cases hw
      have hsame : notConfirmed v.number (some l) = (u.version != v.number) := by
        by_cases huv : u.version = v.number
        · have : l.confirmed.map Confirmed.version = some v.number := by
            by_contra hne; exact hc ⟨huv, hne⟩
          rw [hnc, this, huv]; simp
        · have hne : l.confirmed.map Confirmed.version ≠ some v.number := by
            intro hcv
            obtain ⟨c, hlc, hcv⟩ := Option.map_eq_some_iff.mp hcv
            exact huv (hlf.carries v c u hp hlc hcv hu)
          rw [hnc, bne_iff_ne.mpr hne, bne_iff_ne.mpr huv]
      rw [hsame] at hm
      omega

/-- A SHOWN update leaves items and labels in agreement (R95). -/
theorem State.Reads.shownBound {u : InFlightUpdate} (h : s.Reads I L) (hl : l.id = id) (ha : l.article = some a)
    (hu : l.inFlight = some u) (hU : BeforeWrap I) (hag : Agree none I (Function.update L id (some l))) :
    Agree none (s.shownBound l u).item (s.shownBound l u).label := by
  have hself : Function.update L id (some l) id = some l := Function.update_self ..
  obtain ⟨i, hi, hid, hlf⟩ := hag.of_bound (by simp) hself ha
  have hsent : l.phase = .sent := ((hag.labels id l hself (by simp)).1.sent a ha).mpr (by simp [hu])
  obtain ⟨hag', ⟨j, hj, hjl⟩, _, hin⟩ := h.reportShown hl ha hu hU hag hi
  have hidj : id ∈ j.labels := hjl ▸ hid
  obtain ⟨k, hk, hka, hkf⟩ := hag'.of_listed hj hidj
  have hk' : k.phase = .sent ∧ k.inFlight = none := by
    rcases hin id hid with he | he <;> rw [hk, Function.update_self] at he
    · cases he; exact ⟨hsent, rfl⟩
    · cases he
      have hc := (l.shown u).requeued_cases .newTarget
      exact ⟨hc.2.2.2.2.2.2.1.mpr hsent, hc.2.2.2.2.1⟩
  have hkid : k.id = id := hag'.ids id k hk
  have finish : ∀ m : Label, m.id = id → m.article = k.article → m.inFlight = none → m.confirmed = k.confirmed →
      m.phase ≠ .sent → m.phase ≠ .stale → m.phase ≠ .unbinding →
      (m.phase = .idle → m.template = k.template ∧ k.confirmed = some (j.target k.template)) →
      Agree none (s.reportShown l u).item (Function.update (s.reportShown l u).label id (some m)) := by
    intro m hmi hma hmf hmc hm1 hm2 hm3 hm4
    have := hag'.replaceLabel (k := m) (n := j.staleCount) hk (.inr rfl) hj hidj hmi
      ⟨by simp [hm3, hma, hka], by simp [hm1, hmf], by simp [hmf]⟩
      ⟨hma.trans (hkf.article), fun c hc => hkf.confirmed c (hmc ▸ hc), by simp [hmf], fun hp => by
        obtain ⟨h1, h2⟩ := hm4 hp
        rw [hmc, h2, h1]; rfl, by simp [hmf]⟩ (by rw [hmc]) (by
        rw [show isStale (some k) = false by simp only [isStale, Option.map_some, hk'.1]; rfl,
          show isStale (some m) = false by simpa [isStale] using hm2])
    rwa [show some { j with staleCount := j.staleCount } = (s.reportShown l u).item a from hj.symm,
      Function.update_eq_self] at this
  rw [State.shownBound_eq, hl, hk]
  dsimp only
  have hst : (s.reportShown l u).showsTarget k = decide (k.confirmed = some (j.target k.template)) := by
    unfold State.showsTarget
    rw [hka, Option.bind_some, hj]
  rw [hst]
  split
  · exact ((State.reads_self _).queue_at { k with again := false } hkid).agree
      (finish _ hkid rfl hk'.2 rfl (by simp) (by simp) (by simp) (by simp))
  · rename_i hn
    refine ((State.reads_self _).putLabel_at { k with again := false, phase := .idle } hkid).agree
      (finish _ hkid rfl hk'.2 rfl (by simp) (by simp) (by simp) (fun _ => ⟨rfl, ?_⟩))
    simp only [Bool.or_eq_true, Bool.not_eq_true', decide_eq_false_iff_not, not_or, not_not] at hn
    exact hn.2

end Sys2Proof.Machine
end

section
/-! PROOFS. The agreement of items and labels through an unbind and through the changes of a single record. -/

namespace Sys2Proof.Machine

variable {s t : State} {x : Option Nat} {I I' : Nat → Option Item} {L L' : Nat → Option Label} {a id : Nat} {i : Item}
  {l : Label}

/-! ### An unbind (R22, R89) -/

/-- What a count over a list without repetition loses with one of its elements. -/
theorem countP_filter_ne {xs : List Nat} (hn : xs.Nodup) (hid : id ∈ xs) (p : Nat → Bool) :
    (xs.filter (fun y => y != id)).countP p + (p id).toNat = xs.countP p := by
  have := countP_change hn hid (p := p) (q := fun y => p y && (y != id)) (fun y hy => by simp [hy])
  rw [List.countP_filter]
  simpa using this

/-- The unbind report leaves the label off its item's list, and the item's campaign a label shorter (R19, R22). -/
theorem State.Reads.reportUnbind (h : s.Reads I L) (hl : L id = some l) (ha : l.article = some a) (hU : BeforeWrap I)
    (hag : Agree none I L) (hi : I a = some i) :
    Around (some id) a (i.labels.filter (fun y => y != id)) L (s.reportUnbind l) := by
  have hlid : l.id = id := hag.ids id l hl
  obtain ⟨i', hi', hid, hlf⟩ := hag.of_bound (by simp) hl ha
  rw [hi] at hi'; cases hi'
  obtain ⟨hia, hfit⟩ := hag.items a i hi
  have hrest : RestAgrees (some id) a (i.labels.filter (fun y => y != id)) I L :=
    hag.rest hi (fun _ _ => rfl) (by rw [hl]; rintro _ ⟨⟩ b hb; rw [ha] at hb; cases hb; rfl)
      (hag.ids id) (fun y hy hyi => List.mem_filter.mpr ⟨hy, by simpa using hyi⟩)
  have hlisted : ∀ y ∈ i.labels.filter (fun y => y != id), ∃ k, L y = some k ∧ LabelFits i k :=
    fun y hy => hfit.listed y (List.mem_filter.mp hy).1
  have hstale : (if (l.phase == LabelPhase.stale) = true then i.staleCount - 1 else i.staleCount)
      = (i.labels.filter (fun y => y != id)).countP (fun y => isStale (L y)) := by
    have := countP_filter_ne hfit.nodup hid (fun y => isStale (L y))
    rw [← hfit.stale, hl] at this
    have he : isStale (some l) = (l.phase == .stale) := rfl
    rw [he] at this
    split <;> rename_i hp <;> simp only [hp, Bool.toNat_true, Bool.toNat_false] at this <;> omega
  have hmove : ∀ v : Version, i.pending = some v →
      (i.labels.filter (fun y => y != id)).countP (fun y => notConfirmed v.number (L y))
        + (notConfirmed v.number (some l)).toNat = i.outstanding := by
    intro v hv
    have := countP_filter_ne hfit.nodup hid (fun y => notConfirmed v.number (L y))
    rwa [← hfit.outstanding v hv, hl] at this
  unfold State.reportUnbind
  rw [ha]
  dsimp only
  unfold State.unbindReport
  rw [h.item, hi, hlid]
  dsimp only
  rw [if_pos hid]
  generalize hj : ({ i with labels := i.labels.filter (fun y => y != id)
                            staleCount := if (l.phase == LabelPhase.stale) = true then i.staleCount - 1 else i.staleCount } :
    Item) = j
  have hja : j.article = a := by rw [← hj]; exact hia
  have hjl : j.labels = i.labels.filter (fun y => y != id) := by rw [← hj]
  have hjp : j.pending = i.pending := by rw [← hj]
  have hjo : j.outstanding = i.outstanding := by rw [← hj]
  have hjs : j.staleCount = j.labels.countP (fun y => isStale (L y)) := by rw [← hj]; exact hstale
  have hjf : ∀ y ∈ j.labels, ∃ k, L y = some k ∧ LabelFits j k := by
    intro y hy
    rw [hjl] at hy
    obtain ⟨k, hk, hkf⟩ := hlisted y hy
    exact ⟨k, hk, by rw [← hj]; exact ⟨hkf.1, hkf.2, hkf.3, hkf.4, hkf.5⟩⟩
  have hjn : j.labels.Nodup := hjl ▸ hfit.nodup.filter _
  have hjw : j.labels.length ≤ 8 := hjl ▸ (List.length_filter_le _ _).trans hfit.few
  have hord : j.Ordered := by rw [← hj]; exact ⟨hfit.ordered.1, hfit.ordered.2, hfit.ordered.3⟩
  have kept : (∀ v, j.pending = some v → j.outstanding = j.labels.countP (fun y => notConfirmed v.number (L y))) →
      Around (some id) a (i.labels.filter (fun y => y != id)) L (s.putItem j) := by
    intro ho
    have hr := h.putItem_at j hja
    exact ⟨hr.agree (hrest j hja hjl ⟨hjn, hjw, hjf, hjs, hord, ho⟩),
      ⟨j, (hr.item a).trans (Function.update_self ..), hjl⟩, fun y _ => hr.label y, fun y _ => .inl (hr.label y)⟩
  cases hp : i.pending with
  | none => exact kept (by simp [hjp, hp])
  | some v =>
    have hm := hmove v hp
    dsimp only
    split
    · rename_i hc
      refine kept fun w hw => ?_
      rw [hjp, hp] at hw; cases hw
      rw [hjo, hjl, ← hm, show notConfirmed v.number (some l) = false by simp [notConfirmed, ← hc]]
      simp
    · rename_i hc
      rw [← hjl]
      refine h.lowerOutstanding hja (by rw [← hj]; exact hU a i hi) (hjl ▸ hrest)
        ⟨hjp.trans hp, hjn, hjw, hjf, hjs, hord.current, (hord.pending v (hjp.trans hp)).1, ?_⟩
      rw [hjo, hjl]
      have : notConfirmed v.number (some l) = true := by simpa [notConfirmed] using hc
      rw [this] at hm
      simp at hm
      omega

/-- A label off every list turned UNBINDING or taken out. -/
theorem Agree.release {o : Option Label} (h : Agree (some id) I L) (hl : ∀ a i, I a = some i → id ∉ i.labels)
    (ho : ∀ k, o = some k → k.id = id ∧ k.phase = .unbinding ∧ k.article = none) :
    Agree none I (Function.update L id o) := by
  refine ⟨fun b j hj => ⟨(h.items b j hj).1, (h.items b j hj).2.congr fun y hy => ?_⟩, fun y k hk => ?_, fun y k hk _ => ?_⟩
  · refine Function.update_of_ne ?_ _ _
    rintro rfl
    exact hl b j hj hy
  · by_cases hy : y = id
    · subst hy; rw [Function.update_self] at hk; exact (ho k hk).1
    · rw [Function.update_of_ne hy] at hk; exact h.ids y k hk
  · by_cases hy : y = id
    · subst hy; rw [Function.update_self] at hk
      obtain ⟨_, hp, ha⟩ := ho k hk
      simp only [ha]
      exact ⟨⟨by simp [hp, ha], by simp [ha], by simp [ha]⟩, by simp⟩
    · rw [Function.update_of_ne hy] at hk; exact h.labels y k hk (by simpa using hy)

/-- An unbind leaves items and labels in agreement (R22, R89). -/
theorem State.Reads.unbind (h : s.Reads I L) (hb : s.TablesBounded) (hl : L id = some l) (ha : l.article = some a)
    (hU : BeforeWrap I) (hag : Agree none I L) : Agree none (s.unbind l).item (s.unbind l).label := by
  obtain ⟨i, hi, hid, _⟩ := hag.of_bound (by simp) hl ha
  have hlid : l.id = id := hag.ids id l hl
  obtain ⟨hag', ⟨j, hj, hjl⟩, hout, _⟩ := h.reportUnbind hl ha hU hag hi
  have hk : (s.reportUnbind l).label id = some l := (hout id (by simp)).trans hl
  have hoff : ∀ b m, (s.reportUnbind l).item b = some m → id ∉ m.labels := by
    intro b m hm hmem
    obtain ⟨k, hk', hka, _⟩ := hag'.of_listed hm hmem
    rw [hk] at hk'; cases hk'
    rw [ha] at hka; cases hka
    rw [hj] at hm; cases hm
    rw [hjl] at hmem
    simp at hmem
  have hrel := fun o ho => hag'.release (o := o) hoff ho
  have hr := (s.reportUnbind l).reads_self
  rw [State.unbind_eq, hlid, hk]
  dsimp only
  unfold State.turnUnbinding
  dsimp only
  split
  · exact (hr.putLabel_at { l with article := none, phase := .unbinding, staleReason := .noReason, again := false
                                   blankDue := true } hlid).agree (hrel _ (by rintro _ ⟨⟩; exact ⟨hlid, rfl, rfl⟩))
  split
  · have hb' : ((s.reportUnbind l).leaveSet l).TablesBounded :=
      (((Held.refl s).reportUnbind l).leaveSet l).tables hb
    have := State.Reads.delLabel hb' (hr.leaveSet l) l.id
    rw [hlid] at this ⊢
    exact this.agree (hrel _ (by rintro _ ⟨⟩))
  · exact (State.Reads.joinSet (hr.putLabel_at { l with
      article := none, phase := .unbinding, staleReason := .noReason, again := false, attempts := 0
      blankDue := true } hlid) _).agree (hrel _ (by rintro _ ⟨⟩; exact ⟨hlid, rfl, rfl⟩))

end Sys2Proof.Machine
end

section
/-! PROOFS. The agreement of items and labels through the end of an update, a sighting, a pick and a retry. -/

namespace Sys2Proof.Machine

variable {s t : State} {x : Option Nat} {I I' : Nat → Option Item} {L L' : Nat → Option Label} {a id : Nat} {i : Item}
  {l : Label}

/-- Between two states the log and the tables are held, and items and labels agree if they did. -/
structure Kept (s t : State) : Prop where
  held : Held s t
  agree : s.TablesBounded → Agree none s.item s.label → Agree none t.item t.label

/-- As `Kept`, where a version number may be raised by 1: no item's number stands before its wrap (R3). -/
structure KeptOnce (s t : State) : Prop where
  held : Held s t
  agree : s.TablesBounded → BeforeWrap s.item → Agree none s.item s.label → Agree none t.item t.label

theorem Kept.refl (s : State) : Kept s s := ⟨.refl s, fun _ h => h⟩

theorem Kept.trans {u : State} (h : Kept s t) (h' : Kept t u) : Kept s u :=
  ⟨h.held.trans h'.held, fun hb hs => h'.agree (h.held.tables hb) (h.agree hb hs)⟩

theorem Calm.kept (h : Calm s t) : Kept s t :=
  ⟨h.held, fun _ hs => by rwa [show t.item = s.item from funext h.item, show t.label = s.label from funext h.label]⟩

theorem Kept.once (h : Kept s t) : KeptOnce s t := ⟨h.held, fun hb _ hs => h.agree hb hs⟩

theorem KeptOnce.kept {u : State} (h : KeptOnce s t) (h' : Kept t u) : KeptOnce s u :=
  ⟨h.held.trans h'.held, fun hb hU hs => h'.agree (h.held.tables hb) (h.agree hb hU hs)⟩

theorem KeptOnce.calm {u : State} (h : KeptOnce s t) (h' : Calm t u) : KeptOnce s u := h.kept h'.kept

theorem Calm.once {u : State} (h : Calm s t) (h' : KeptOnce t u) : KeptOnce s u :=
  ⟨h.held.trans h'.held, fun hb hU hs => h'.agree (h.held.tables hb)
    (by rwa [show t.item = s.item from funext h.item]) (h.kept.agree hb hs)⟩

theorem Kept.foldl {α : Type} {f : State → α → State} (hf : ∀ t x, Kept s t → Kept s (f t x)) (xs : List α) (h : Kept s t) :
    Kept s (xs.foldl f t) := by
  induction xs generalizing t with
  | nil => exact h
  | cons x xs ih => exact ih (hf t x h)

/-! ### One record of a bound label -/

/-- A record that waits, or is as sound as the one it replaces, and shows the same fits as well. -/
theorem Agree.record {m : Label} (h : Agree none I L) (hl : L id = some l) (ha : l.article = some a) (hm : m.id = l.id)
    (hma : m.article = l.article) (hmc : m.confirmed = l.confirmed) (hmf : m.inFlight = none ∨ m.inFlight = l.inFlight)
    (hmu : m.phase ≠ .unbinding) (hms : m.phase = .sent ↔ m.inFlight ≠ none)
    (hmi : m.phase = .idle → l.phase = .idle ∧ m.template = l.template) (hst : isStale (some l) = isStale (some m)) :
    Agree none I (Function.update L id (some m)) := by
  have hs := (h.labels id l hl (by simp)).1
  refine h.replaceLabel_same hl ha (hm.trans (h.ids id l hl)) ⟨?_, fun _ _ => hms, fun b _ u hu => ?_⟩ (fun i _ hf => ?_)
    (by rw [hmc]) hst
  · simp [hmu, hma, ha]
  · rcases hmf with hmf | hmf
    · rw [hmf] at hu; cases hu
    · exact hs.notBlank a ha u (hmf ▸ hu)
  · have hmf' : ∀ u, m.inFlight = some u → l.inFlight = some u := by
      intro u hu
      rcases hmf with hmf | hmf
      · rw [hmf] at hu; cases hu
      · exact hmf ▸ hu
    refine ⟨hma.trans hf.article, fun c hc => hf.confirmed c (hmc ▸ hc), fun u hu => hf.inFlight u (hmf' u hu),
      fun hi => ?_, fun v c u h1 h2 h3 h4 => hf.carries v c u h1 (hmc ▸ h2) h3 (hmf' u h4)⟩
    obtain ⟨h1, h2⟩ := hmi hi
    rw [hmc, h2]; exact hf.idle h1

/-- A record not UNBINDING is bound, and one that is UNBINDING is not (R77). -/
theorem Agree.article_iff (h : Agree none I L) (hl : L id = some l) : l.phase = .unbinding ↔ l.article = none :=
  (h.labels id l hl (by simp)).1.unbinding

theorem Agree.bound (h : Agree none I L) (hl : L id = some l) (hp : l.phase ≠ .unbinding) : ∃ a, l.article = some a :=
  Option.ne_none_iff_exists'.mp fun hn => hp ((h.article_iff hl).mpr hn)

/-- A bound label that is not SENT has no update in flight (R77). -/
theorem Agree.inFlight_none (h : Agree none I L) (hl : L id = some l) (ha : l.article = some a) (hp : l.phase ≠ .sent) :
    l.inFlight = none := by
  by_contra hn
  exact hp (((h.labels id l hl (by simp)).1.sent a ha).mpr hn)

/-- A bound label with an update in flight is SENT (R77). -/
theorem Agree.sent (h : Agree none I L) (hl : L id = some l) (ha : l.article = some a) {u : InFlightUpdate}
    (hu : l.inFlight = some u) : l.phase = .sent :=
  ((h.labels id l hl (by simp)).1.sent a ha).mpr (by simp [hu])

/-- An update in flight of a bound label is no BLANK (R85). -/
theorem Agree.not_blank (h : Agree none I L) (hl : L id = some l) {u : InFlightUpdate} (hu : l.inFlight = some u)
    (hk : u.kind = .blankUpdate) : l.article = none := by
  by_contra hn
  obtain ⟨a, ha⟩ := Option.ne_none_iff_exists'.mp hn
  exact (h.labels id l hl (by simp)).1.notBlank a ha u hu hk

/-- The stale count of an item with a STALE label on its list is at least 1 (R6). -/
theorem Agree.stale_pos (h : Agree none I L) (hl : L id = some l) (hi : I a = some i) (hid : id ∈ i.labels)
    (hp : l.phase = .stale) : 1 ≤ i.staleCount := by
  rw [(h.items a i hi).2.stale]
  exact List.countP_pos_iff.mpr ⟨id, hid, by simp [hl, isStale, hp]⟩

/-- A STALE label queued again, with its recovery report (R20). -/
theorem State.Reads.recover {m : Label} (h : s.Reads I L) (hag : Agree none I L) (hl : L id = some l)
    (hp : l.phase = .stale) (ha : l.article = some a) (hm : m.id = l.id) (hma : m.article = l.article)
    (hmc : m.confirmed = l.confirmed) (hmf : m.inFlight = l.inFlight) {u : State} (hu : Calm (s.queue m) u) :
    Agree none (u.staleReport a l.id false).item (u.staleReport a l.id false).label := by
  have hlid := hag.ids id l hl
  have hnone := hag.inFlight_none hl ha (by simp [hp])
  obtain ⟨i, hi, hid, hf⟩ := hag.of_bound (by simp) hl ha
  have hpos := hag.stale_pos hl hi hid hp
  have hr := ((h.queue_at m (hm.trans hlid)).calm hu).staleReport hi (hag.items a i hi).1 hid false
  rw [hlid]
  refine hr.agree ?_
  refine hag.replaceLabel (k := { m with phase := .queued }) hl (.inl rfl) hi hid (hm.trans hlid)
    ⟨by simp [hma, ha], by simp [hmf, hnone], by simp [hmf, hnone]⟩
    ⟨hma.trans hf.article, fun c hc => hf.confirmed c (hmc ▸ hc), by simp [hmf, hnone], by simp, by simp [hmf, hnone]⟩
    (by rw [show ({ m with phase := .queued } : Label).confirmed = m.confirmed from rfl, hmc]) ?_
  rw [show isStale (some l) = true by simp [isStale, hp], show isStale (some { m with phase := .queued }) = false from rfl,
    Bool.toNat_true, Bool.toNat_false]
  simp only [Bool.false_eq_true, if_false]
  omega

/-- A bound label made STALE (R96, R97). -/
theorem State.toStale_of_bound (s : State) {m : Label} (ha : m.article = some a) (r : StaleReason) :
    s.toStale m r = (((s.leaveSet m).putLabel { m with phase := .stale, staleReason := r }).post .labelStale m.id
      (twoParts r.code m.attempts)).staleReport a m.id true := by
  unfold State.toStale
  simp only [ha]

/-- A label that becomes STALE, with its stale report (R17, R96, R97). -/
theorem State.Reads.toStale {m : Label} {r : StaleReason} (h : s.Reads I L) (hag : Agree none I L) (hl : L id = some l)
    (hp : l.phase ≠ .stale) (ha : l.article = some a) (hm : m.id = l.id) (hma : m.article = l.article)
    (hmc : m.confirmed = l.confirmed) (hmf : m.inFlight = none) :
    Agree none (s.toStale m r).item (s.toStale m r).label := by
  obtain rfl : m.id = id := hm.trans (hag.ids id l hl)
  obtain ⟨i, hi, hid, hf⟩ := hag.of_bound (by simp) hl ha
  have hr := State.Reads.staleReport (State.Reads.post ((h.leaveSet m).putLabel { m with phase := .stale, staleReason := r })
    .labelStale m.id (twoParts r.code m.attempts)) hi (hag.items a i hi).1 hid true
  rw [s.toStale_of_bound (hma.trans ha)]
  refine hr.agree ?_
  refine hag.replaceLabel (k := { m with phase := .stale, staleReason := r }) hl (.inl rfl) hi hid rfl
    ⟨by simp [hma, ha], by simp [hmf], by simp [hmf]⟩
    ⟨hma.trans hf.article, fun c hc => hf.confirmed c (hmc ▸ hc), by simp [hmf], by simp, by simp [hmf]⟩
    (by rw [show ({ m with phase := .stale, staleReason := r } : Label).confirmed = m.confirmed from rfl, hmc]) ?_
  have hns : isStale (some l) = false := by simpa [isStale] using hp
  rw [hns]
  simp [isStale]

/-! ### The end of an update (R94-R100) -/

/-- A label bound to no item whose record is replaced stays bound to none. -/
theorem State.Reads.putUnbound {m : Label} (h : s.Reads I L) (hag : Agree none I L) (hl : L id = some l)
    (ha : l.article = none) (hm : m.id = l.id) (hp : m.phase = .unbinding) (hma : m.article = none) {u : State}
    (hu : Calm (s.putLabel m) u) : Agree none u.item u.label := by
  have hid := hm.trans (hag.ids id l hl)
  refine ((h.putLabel_at m hid).calm hu).agree (hag.replaceUnbound (fun k hk => ?_) ?_)
  · rw [hl] at hk; cases hk; exact ha
  · rintro _ ⟨⟩; exact ⟨hid, hp, hma⟩

/-- A label bound to no item whose record is taken out. -/
theorem State.Reads.delUnbound (h : s.Reads I L) (hb : s.TablesBounded) (hag : Agree none I L) (hl : L id = some l)
    (ha : l.article = none) {u : State} (hu : Calm (s.delLabel l.id) u) : Agree none u.item u.label := by
  have := State.Reads.delLabel hb h l.id
  rw [hag.ids id l hl] at this hu
  refine (this.calm hu).agree (hag.replaceUnbound (fun k hk => ?_) (by rintro _ ⟨⟩))
  rw [hl] at hk; cases hk; exact ha

/-- A bound label queued, its update in flight over or none (R86). -/
theorem State.Reads.queueBound {m : Label} (h : s.Reads I L) (hag : Agree none I L) (hl : L id = some l)
    (ha : l.article = some a) (hp : l.phase ≠ .stale) (hm : m.id = l.id) (hma : m.article = l.article)
    (hmc : m.confirmed = l.confirmed) (hmf : m.inFlight = none) : Agree none (s.queue m).item (s.queue m).label := by
  refine (h.queue_at m (hm.trans (hag.ids id l hl))).agree (hag.record (m := { m with phase := .queued }) hl ha hm hma hmc
    (.inl hmf) (by simp) (by simp [hmf]) (by simp) ?_)
  simpa [isStale] using hp

/-- The end of a BLANK (R100). -/
theorem Kept.endedBlank {j : Label} (hj : s.label id = some j) (hl : l.id = j.id) (ha : j.article = none)
    (hp : l.phase = .unbinding) (hla : l.article = none) (o : UpdateOutcome) : Kept s (s.endedBlank l o) := by
  refine ⟨(Held.refl s).endedBlank hj l hl o, fun hb hag => ?_⟩
  have hr := s.reads_self
  unfold State.endedBlank
  split
  · rw [hl]; exact hr.delUnbound hb hag hj ha (.refl _)
  · split
    · exact hr.putUnbound (m := { l with inFlight := none, attempts := l.attempts + 1, blankDue := true }) hag hj ha hl hp
        hla (.joinSet (.refl _) _)
    · unfold State.blankFailed; rw [hl]; exact hr.delUnbound hb hag hj ha (.post (.refl _) _ _ _)
  · unfold State.blankFailed; rw [hl]; exact hr.delUnbound hb hag hj ha (.post (.refl _) _ _ _)
  · exact hr.putUnbound (m := { l with inFlight := none, blankDue := true }) hag hj ha hl hp hla (.joinSet (.refl _) _)

/-- The end of an update of a label that has become UNBINDING (R99). -/
theorem Kept.endedUnbinding {j : Label} (hj : s.label id = some j) (hl : l.id = j.id) (ha : j.article = none)
    (hp : l.phase = .unbinding) (hla : l.article = none) (u : InFlightUpdate) (o : UpdateOutcome) :
    Kept s (s.endedUnbinding l u o) := by
  refine ⟨(Held.refl s).endedUnbinding hj l hl u o, fun hb hag => ?_⟩
  unfold State.endedUnbinding
  dsimp only
  refine s.reads_self.putUnbound hag hj ha ?_ ?_ ?_ (.joinSet (.refl _) _)
  · cases o <;> exact hl
  · cases o <;> exact hp
  · cases o <;> exact hla

/-- The record that an outcome finds: heard, if the label answered (R94). -/
def Label.answered (l : Label) (o : UpdateOutcome) (now : Nat) : Label :=
  if o = .shown ∨ o = .rejected then { l with lastHeard := now } else l

/-- An outcome acted on (R94), by the kind of the update and the label's state. -/
theorem State.updateEnded_eq (s : State) (g : Nat) {o : UpdateOutcome} {u : InFlightUpdate} (hl : s.label id = some l)
    (hu : l.inFlight = some u) (ht : u.tag = g) :
    s.updateEnded g id o =
      if u.kind = .blankUpdate then s.endedBlank (l.answered o s.now) o
      else if l.phase = .unbinding then s.endedUnbinding (l.answered o s.now) u o
      else match o with
        | .shown => s.shownBound { l with lastHeard := s.now } u
        | .noAnswer => s.noAnswerBound l
        | .rejected => s.toStale { l with lastHeard := s.now, inFlight := none, again := false } .rejected
        | .returned => s.queue { l with inFlight := none, again := false } := by
  unfold State.updateEnded
  rw [hl]
  dsimp only
  split
  · rename_i hn; rw [hu] at hn; cases hn
  · rename_i w hw
    rw [hu] at hw; cases hw
    rw [if_neg (by simp [ht])]
    cases o <;> rfl

theorem Label.answered_cases (l : Label) (o : UpdateOutcome) (n : Nat) :
    (l.answered o n).id = l.id ∧ (l.answered o n).article = l.article ∧ (l.answered o n).phase = l.phase := by
  unfold Label.answered; split <;> exact ⟨rfl, rfl, rfl⟩

/-- An outcome that ends no update changes nothing (R94). -/
theorem State.updateEnded_of_none (s : State) (g id : Nat) (o : UpdateOutcome)
    (h : ∀ l u, s.label id = some l → l.inFlight = some u → u.tag ≠ g) : s.updateEnded g id o = s := by
  unfold State.updateEnded
  split
  · rfl
  · rename_i l hl
    split
    · rfl
    · rename_i u hu
      rw [if_pos (h l u hl hu)]

/-- The end of an update keeps the agreement; only a SHOWN may raise a version number (R94-R100). -/
theorem State.updateEnded_agree (hb : s.TablesBounded) (hag : Agree none s.item s.label) (g id : Nat) (o : UpdateOutcome)
    (hU : o = .shown → BeforeWrap s.item) : Agree none (s.updateEnded g id o).item (s.updateEnded g id o).label := by
  by_cases h : ∀ l u, s.label id = some l → l.inFlight = some u → u.tag ≠ g
  · rw [s.updateEnded_of_none g id o h]; exact hag
  simp only [not_forall, not_not] at h
  obtain ⟨l, u, hl, hu, ht⟩ := h
  obtain ⟨hid, hla, hlp⟩ := l.answered_cases o s.now
  rw [s.updateEnded_eq g hl hu ht]
  split
  · rename_i hk
    have ha := hag.not_blank hl hu hk
    have hp := (hag.article_iff hl).mpr ha
    exact (Kept.endedBlank hl hid ha (hlp.trans hp) (hla.trans ha) o).agree hb hag
  split
  · rename_i hp
    have ha := (hag.article_iff hl).mp hp
    exact (Kept.endedUnbinding hl hid ha (hlp.trans hp) (hla.trans ha) u o).agree hb hag
  rename_i hnu
  obtain ⟨a, ha⟩ := hag.bound hl hnu
  have hsent := hag.sent hl ha hu
  have hns : l.phase ≠ .stale := by simp [hsent]
  split
  · refine s.reads_self.shownBound (l := { l with lastHeard := s.now }) (hag.ids id l hl) ha hu (hU rfl) ?_
    exact hag.record (m := { l with lastHeard := s.now }) hl ha rfl rfl rfl (.inr rfl) hnu (by simp [hsent, hu])
      (by simp [hsent]) rfl
  · unfold State.noAnswerBound
    dsimp only
    split
    · exact s.reads_self.queueBound hag hl ha hns (by rfl) rfl rfl rfl
    · exact s.reads_self.toStale hag hl hns ha (by rfl) rfl rfl rfl
  · exact s.reads_self.toStale hag hl hns ha (by rfl) rfl rfl rfl
  · exact s.reads_self.queueBound hag hl ha hns (by rfl) rfl rfl rfl

theorem KeptOnce.updateEnded (s : State) (g id : Nat) (o : UpdateOutcome) : KeptOnce s (s.updateEnded g id o) :=
  ⟨(Held.refl s).updateEnded g id o, fun hb hU hag => s.updateEnded_agree hb hag g id o (fun _ => hU)⟩

theorem Kept.updateEnded (h : Kept s t) (g id : Nat) {o : UpdateOutcome} (ho : o ≠ .shown) :
    Kept s (t.updateEnded g id o) :=
  h.trans ⟨(Held.refl t).updateEnded g id o, fun hb hag => t.updateEnded_agree hb hag g id o (fun h => absurd h ho)⟩

/-! ### Sightings (R101) -/

theorem State.Reads.moveSet {m : Label} (h : s.Reads I L) (l : Label) (hm : m.id = id) :
    (s.moveSet l m).Reads I (Function.update L id (some m)) := by
  unfold State.moveSet
  split
  · exact h.putLabel_at m hm
  · exact ((h.leaveSet l).putLabel_at m hm).joinSet m

theorem Kept.sighting (h : Kept s t) (n : Nat) (g : Sighting) : Kept s (t.sighting n g) := by
  refine h.trans ⟨(Held.refl t).sighting n g, fun hb hag => ?_⟩
  unfold State.sighting
  split
  · exact hag
  rename_i l hl
  have hr := t.reads_self
  have hid := hag.ids _ l hl
  dsimp only
  have same : ∀ a, l.article = some a → l.phase ≠ .unbinding → Agree none t.item (Function.update t.label g.label
      (some { l with battery := g.battery, signal := g.signal, lastHeard := t.now, home := some n })) := by
    intro a ha hp
    exact hag.record (m := { l with battery := g.battery, signal := g.signal, lastHeard := t.now, home := some n }) hl ha
      rfl rfl rfl (.inr rfl) hp ((hag.labels _ l hl (by simp)).1.sent a ha) (fun hi => ⟨hi, rfl⟩) rfl
  split
  · rename_i hp
    obtain ⟨a, ha⟩ := hag.bound hl (by simp [hp])
    exact (hr.putLabel_at _ (by exact hid)).agree (same a ha (by simp [hp]))
  · rename_i hp
    obtain ⟨a, ha⟩ := hag.bound hl (by simp [hp])
    exact (hr.putLabel_at _ (by exact hid)).agree (same a ha (by simp [hp]))
  · rename_i hp
    obtain ⟨a, ha⟩ := hag.bound hl (by simp [hp])
    exact (hr.moveSet l (by exact hid)).agree (same a ha (by simp [hp]))
  · rename_i hp
    obtain ⟨a, ha⟩ := hag.bound hl (by simp [hp])
    rw [ha]
    exact hr.recover (m := { l with
        battery := g.battery, signal := g.signal, lastHeard := t.now, home := some n, attempts := 0
        staleReason := .noReason, article := some a }) hag hl hp ha rfl ha.symm rfl rfl (.post (.refl _) _ _ _)
  · rename_i hp
    have ha := (hag.article_iff hl).mp hp
    split
    · refine (hr.moveSet l (by exact hid)).agree (hag.replaceUnbound (fun k hk => ?_) ?_)
      · rw [hl] at hk; cases hk; exact ha
      · rintro _ ⟨⟩; exact ⟨hid, hp, ha⟩
    · exact hr.putUnbound hag hl ha (by rfl) (by exact hp) (by exact ha) (.refl _)

/-! ### Picks (R82, R85) -/

/-- What a pick that answers NOTHING finds in a QUEUED label: its target shown (R82). -/
theorem Agree.pick_none (hag : Agree none s.item s.label) (hl : s.label id = some l) (hp : l.phase = .queued)
    (hn : s.pick l = none) : ∃ a i, l.article = some a ∧ s.item a = some i ∧ l.confirmed = some (i.target l.template) := by
  obtain ⟨a, ha⟩ := hag.bound hl (by simp [hp])
  obtain ⟨i, hi, _⟩ := hag.of_bound (by simp) hl ha
  refine ⟨a, i, ha, hi, ?_⟩
  unfold State.pick at hn
  simp only [hp, ha, Option.bind_some, hi] at hn
  split at hn
  · assumption
  · cases hn

/-- What a pick builds for a QUEUED label: an update to the version its item follows, and no BLANK (R82, R83). -/
theorem Agree.pick_some (hag : Agree none s.item s.label) (hl : s.label id = some l) (hp : l.phase = .queued) {u : Update}
    (hu : s.pick l = some u) : ∃ a i, l.article = some a ∧ s.item a = some i ∧ u.version = i.followed.number
      ∧ u.kind ≠ .blankUpdate := by
  obtain ⟨a, ha⟩ := hag.bound hl (by simp [hp])
  obtain ⟨i, hi, _⟩ := hag.of_bound (by simp) hl ha
  refine ⟨a, i, ha, hi, ?_⟩
  unfold State.pick at hu
  simp only [hp, ha, Option.bind_some, hi] at hu
  split at hu
  · cases hu
  · cases hu
    unfold buildUpdate
    dsimp only
    split <;> exact ⟨rfl, by simp⟩

/-- A pick finds something only for a QUEUED or an UNBINDING label (R82). -/
theorem State.pick_phase {u : Update} (hu : s.pick l = some u) : l.phase = .queued ∨ l.phase = .unbinding := by
  unfold State.pick at hu
  split at hu
  · exact .inl ‹_›
  · exact .inr ‹_›
  all_goals cases hu

theorem Agree.pickNothing (hag : Agree none s.item s.label) (hl : s.label id = some l) (hn : s.pick l = none)
    (ht : t.Reads s.item s.label) : Agree none (t.pickNothing l).item (t.pickNothing l).label := by
  unfold State.pickNothing
  dsimp only
  split
  · rename_i hp
    obtain ⟨a, i, ha, hi, hc⟩ := hag.pick_none hl hp hn
    have hnone := hag.inFlight_none hl ha (by simp [hp])
    refine ((ht.leaveSet l).putLabel_at { l with phase := .idle } (hag.ids id l hl)).agree
      (hag.replaceLabel_same hl ha (hag.ids id l hl) ⟨by simp [ha], by simp [hnone], by simp [hnone]⟩
        (fun j hj hf => ⟨hf.article, hf.confirmed, hf.inFlight, fun _ => ?_, hf.carries⟩) rfl ?_)
    · rw [hi] at hj; cases hj; exact hc
    · simp [isStale, hp]
  · exact (ht.leaveSet l).agree hag

theorem Agree.updateSent (hag : Agree none s.item s.label) (hl : s.label id = some l) {u : Update}
    (hu : s.pick l = some u) (ht : t.Reads s.item s.label) (g n : Nat) :
    Agree none (t.updateSent l u g n).item (t.updateSent l u g n).label := by
  unfold State.updateSent
  dsimp only
  split
  · rename_i hp
    obtain ⟨a, i, ha, hi, hv, hk⟩ := hag.pick_some hl hp hu
    refine ((ht.leaveSet l).putLabel_at { l with
        inFlight := some { tag := g, kind := u.kind, version := u.version, template := u.template
                           textRevision := u.textRevision, station := n }
        phase := .sent, again := false } (hag.ids id l hl)).agree
      (hag.replaceLabel_same hl ha (hag.ids id l hl) ⟨by simp [ha], by simp, fun _ _ w hw => ?_⟩
        (fun j hj hf => ⟨hf.article, hf.confirmed, fun w hw => ?_, by simp, fun v c w hv' _ _ hw => ?_⟩) rfl ?_)
    · cases hw; exact hk
    · rw [hi] at hj; cases hj
      cases hw
      show i.Holds u.version
      rw [hv]
      unfold Item.followed Item.Holds
      cases hp' : i.pending with
      | none => exact .inl rfl
      | some v => exact .inr rfl
    · rw [hi] at hj; cases hj
      cases hw
      show u.version = v.number
      rw [hv, Item.followed, hv']; rfl
    · simp [isStale, hp]
  · rename_i hp
    have hub : l.phase = .unbinding := (State.pick_phase hu).resolve_left hp
    have ha := (hag.article_iff hl).mp hub
    exact (ht.leaveSet l).putUnbound (m := { l with
        inFlight := some { tag := g, kind := u.kind, version := u.version, template := u.template
                           textRevision := u.textRevision, station := n }
        blankDue := false }) hag hl ha rfl hub ha (.refl _)

/-! ### Arbiter runs (R113-R115) -/

theorem Kept.arbiterRun (n fuel : Nat) : ∀ {t : State}, Kept s t → Kept s (State.arbiterRun n fuel t) := by
  induction fuel with
  | zero => intro t h; exact h
  | succ k ih =>
    intro t h
    unfold State.arbiterRun
    split
    · exact h
    split
    · exact h
    split
    · exact h.trans (Calm.setWaiting (.refl t) _ _).kept
    split
    · exact ih (h.trans (Calm.putStation (.refl t) _).kept)
    rename_i b _ _ _ id _ _ l hl
    split
    · rename_i hn
      have hc := (Calm.refl t).putStation { b with ready := setDrop b.ready id }
      exact ih (h.trans ⟨((Held.refl t).calm hc).pickNothing ((hc.label id).trans hl),
        fun _ hag => hag.pickNothing hl hn (t.reads_self.calm hc)⟩)
    rename_i u hu
    split
    · exact h.trans (Calm.setWaiting (.refl t) _ _).kept
    split
    · exact h.trans (Calm.setWaiting (.countDrop (.refl t) _ _) _ _).kept
    · refine ih (h.trans ⟨(Held.refl t).sendUpdate hl b u, fun _ hag => ?_⟩)
      rw [State.sendUpdate_eq]
      exact hag.updateSent hl hu (t.reads_self.calm (.frameSent (.refl t) b l u)) _ _

theorem Kept.runArbiter (h : Kept s t) (n : Nat) : Kept s (t.runArbiter n) := by
  unfold State.runArbiter; split
  · exact h
  · exact h.arbiterRun _ _

theorem Kept.bufferReturned (h : Kept s t) : Kept s t.bufferReturned := by
  refine Kept.foldl (fun t b h => ?_) _ h
  split
  · exact h
  split
  · exact h.runArbiter _
  · exact h

/-- The arbiter runs a step owes keep tables and agreement (log 10). -/
theorem State.settle_kept (s : State) : Kept s s.settle := by
  refine Kept.foldl (fun t c h => ?_) _ (Calm.setLink (.refl s) _ (by rfl)).kept
  cases c with
  | station n => exact h.runArbiter n
  | bufferReturned => exact h.bufferReturned

/-! ### Base stations -/

theorem Kept.returnUpdates (h : Kept s t) (rs : List InFlightRecord) : Kept s (t.returnUpdates rs) :=
  Kept.foldl (fun _ _ h => h.updateEnded _ _ (by simp)) _ h

theorem Kept.loseStation (h : Kept s t) (b : BaseStation) : Kept s (t.loseStation b) :=
  .trans (.returnUpdates (h.trans (Calm.putStation (.refl t) _).kept) _) (Calm.post (.refl _) _ _ _).kept

end Sys2Proof.Machine
end

section
/-! PROOFS. Every command keeps the notice log and the tables in bounds, and items and labels in agreement. -/

namespace Sys2Proof.Machine

variable {s t : State} {x : Option Nat} {I I' : Nat → Option Item} {L L' : Nat → Option Label} {a id : Nat} {i : Item}
  {l : Label}

/-! ### Items (chapter 1) -/

/-- A new item, without labels, under an article the table does not have (R24). -/
theorem Agree.newItem (h : Agree none I L) (hn : I i.article = none) (hl : i.labels = []) (hp : i.pending = none)
    (hs : i.staleCount = 0) (ho : i.Ordered) : Agree none (Function.update I i.article (some i)) L := by
  refine h.update (a := i.article) (fun b hb => Function.update_of_ne hb _ _) (fun id l b hl' _ _ => hl') ?_ h.ids ?_
  · intro j hj
    rw [Function.update_self] at hj; cases hj
    exact ⟨rfl, by simp [hl], by simp [hl], by simp [hl], by simp [hl, hs], ho, by simp [hp]⟩
  · intro id l hl' _
    refine .inl ⟨by simp, hl', fun ha => ?_⟩
    obtain ⟨j, hj, _⟩ := (h.labels id l hl' (by simp)).2 _ ha
    rw [hn] at hj; cases hj

/-- An entry that passes its checks becomes an item without labels, its version numbered 1 (R24). -/
theorem ItemEntry.check_ok {e : ItemEntry} {o : Nat} (h : e.check o = .ok i) :
    i.article = e.article ∧ i.labels = [] ∧ i.pending = none ∧ i.waiting = none ∧ i.outstanding = 0 ∧ i.staleCount = 0
      ∧ i.lastVersion = 1 ∧ i.current.number = 1 := by
  unfold ItemEntry.check at h
  repeat' split at h
  all_goals cases h
  all_goals exact ⟨rfl, rfl, rfl, rfl, rfl, rfl, rfl, rfl⟩

theorem Kept.loadEntry (h : Kept s t) (e : ItemEntry) (o : Nat) : Kept s (t.loadEntry e o).1 := by
  refine h.trans ⟨(Held.refl t).loadEntry e o, fun _ hag => ?_⟩
  unfold State.loadEntry
  split
  · exact hag
  rename_i i hi
  obtain ⟨ha, hls, hp, hw, hout, hst, hlast, hcur⟩ := ItemEntry.check_ok hi
  split
  · exact hag
  rename_i hnone
  split
  · exact hag
  · refine (t.reads_self.putItem i).agree (hag.newItem ?_ hls hp hst ⟨?_, ?_, ?_⟩)
    · rw [ha]; simpa using hnone
    · rw [hcur, hlast]
    · exact fun _ => ⟨hout, by simp [hw]⟩
    · simp [hp]

theorem Kept.loadAll (h : Kept s t) (es : List ItemEntry) : Kept s (loadAll t es).1 := by
  induction es generalizing t with
  | nil => exact h
  | cons e es ih => exact ih (h.loadEntry e 0)

/-- An item's waiting change and origin replaced: an unqueried change waits only behind a campaign (R14). -/
theorem State.Reads.setWaiting (h : s.Reads I L) (hag : Agree none I L) (hi : I a = some i) (w : Option WaitingChange)
    (o : Nat) (hw : i.pending = none → ∀ c, w = some c → c.queried = true) {u : State}
    (hu : Calm (s.putItem { i with waiting := w, origin := o }) u) : Agree none u.item u.label := by
  obtain ⟨hia, hf⟩ := hag.items a i hi
  refine ((h.putItem_at { i with waiting := w, origin := o } hia).calm hu).agree (hag.replaceItem hi rfl rfl rfl rfl rfl
    rfl rfl ⟨hf.ordered.current, fun hp => ⟨(hf.ordered.settled hp).1, hw hp⟩, hf.ordered.pending⟩)

/-- An item is SETTLED exactly when it has no pending version (R7). -/
theorem Item.state_settled : i.state = .settled ↔ i.pending = none := by
  unfold Item.state
  split
  · simp [*]
  · rename_i v hv
    split <;> simp [hv]

/-- A version placed on an item of the table, its origin set with it (R11, R12). -/
theorem State.placeVersion_agree (hag : Agree none s.item s.label) (hU : BeforeWrap s.item) (hi : s.item a = some i)
    (hp : i.pending = none) (o : Nat) (b : Nat) (p : Option Promotion) :
    Agree none (s.placeVersion { i with origin := o } b p).1.item (s.placeVersion { i with origin := o } b p).1.label := by
  obtain ⟨hia, hf⟩ := hag.items a i hi
  refine (s.reads_self.placeVersion (i := { i with origin := o }) hia hp (hU a i hi) ?_ b p).agree
  exact hag.replaceItem hi rfl rfl rfl rfl rfl rfl rfl
    ⟨hf.ordered.current, fun hp => ⟨(hf.ordered.settled hp).1, by simp⟩, hf.ordered.pending⟩

theorem KeptOnce.change (s : State) (a b : Nat) (p : Option Promotion) (c : Bool) (o : Nat) :
    KeptOnce s (s.change a b p c o).1 := by
  refine ⟨(Held.refl s).change a b p c o, fun _ hU hag => ?_⟩
  unfold State.change
  split
  · exact hag
  rename_i i hi
  split
  · exact hag
  split
  · exact hag
  split
  · exact hag
  split
  · exact s.reads_self.setWaiting hag hi _ _ (by rintro _ _ ⟨⟩; rfl) (.post (.refl _) _ _ _)
  split
  · rename_i hs
    exact s.placeVersion_agree hag hU hi (Item.state_settled.mp hs) o b p
  · rename_i hs
    exact s.reads_self.setWaiting hag hi _ _ (fun hp => absurd (Item.state_settled.mpr hp) hs) (.refl _)

theorem KeptOnce.changePriceBody (s : State) (b : List Byte) : KeptOnce s (changePriceBody s b).1 := by
  unfold Machine.changePriceBody
  split
  · exact (Kept.refl s).once
  · exact .change s _ _ _ _ _

theorem State.queriedChange_eq_some {w : WaitingChange} (h : s.queriedChange a = some (i, w)) :
    s.item a = some i ∧ i.waiting = some w ∧ w.queried = true := by
  unfold State.queriedChange at h
  repeat' split at h
  all_goals cases h
  exact ⟨‹_›, ‹_›, ‹_›⟩

theorem KeptOnce.confirmChangeBody (s : State) (b : List Byte) : KeptOnce s (confirmChangeBody s b).1 := by
  unfold Machine.confirmChangeBody
  split
  · exact (Kept.refl s).once
  rename_i i w hq
  obtain ⟨hi, hw, hwq⟩ := State.queriedChange_eq_some hq
  split
  · rename_i hs
    exact ⟨(Held.refl s).placeVersion hi i rfl _ _,
      fun _ hU hag => s.placeVersion_agree hag hU hi (Item.state_settled.mp hs) i.origin _ _⟩
  · rename_i hs
    refine ⟨(Held.refl s).putItem_of hi _ rfl, fun _ _ hag => ?_⟩
    exact s.reads_self.setWaiting hag hi _ i.origin (fun hp => absurd (Item.state_settled.mpr hp) hs) (.refl _)

theorem Kept.rejectChangeBody (s : State) (b : List Byte) : Kept s (rejectChangeBody s b).1 := by
  unfold Machine.rejectChangeBody
  split
  · exact .refl s
  rename_i i w hq
  obtain ⟨hi, _, _⟩ := State.queriedChange_eq_some hq
  refine ⟨(Held.refl s).putItem_of hi _ rfl, fun _ hag => ?_⟩
  exact s.reads_self.setWaiting hag hi none i.origin (by simp) (.refl _)

theorem Kept.setTextBody (s : State) (b : List Byte) : Kept s (setTextBody s b).1 := by
  unfold Machine.setTextBody
  dsimp only
  split
  · exact .refl s
  rename_i i hi
  split
  · exact .refl s
  split
  · exact .refl s
  refine ⟨((Held.refl s).putItem_of hi _ (by rfl)).queueRequest _ _ _, fun _ hag => ?_⟩
  obtain ⟨hia, hf⟩ := hag.items _ i hi
  generalize (fieldBytes b 9 24).take (leField b 8 1) = text
  generalize (i.textRevision + 1) % 65536 = rev
  generalize leField b 0 8 = a at *
  subst hia
  have hr := (s.reads_self.putItem_at { i with text := text, textRevision := rev } rfl).queueRequest (k := .text)
    (Function.update_self ..) rfl hf.nodup (fun id hid => hid) hag.ids
  rw [Function.update_idem] at hr
  refine hr.agree (hag.requeue (k := .text) hi (by rfl) rfl (fun n hn => hn) (fun l hlf v c u h1 h2 h3 h4 =>
    hlf.carries v c u h1 h2 h3 h4) rfl ⟨hf.ordered.current, hf.ordered.settled, hf.ordered.pending⟩ hf.outstanding)

theorem Kept.removeItemBody (s : State) (b : List Byte) : Kept s (removeItemBody s b).1 := by
  unfold Machine.removeItemBody
  dsimp only
  split
  · exact .refl s
  rename_i i hi
  split
  · rename_i hls
    refine ⟨(Held.refl s).setItems _ (fun _ ht => ht.del _), fun hb hag => ?_⟩
    have hr : (s.setPrice { s.price with items := s.price.items.del (leField b 0 8) }).Reads
        (Function.update s.item (leField b 0 8) none) s.label := by
      refine ⟨fun y => ?_, fun _ => rfl⟩
      rw [Function.update_apply]
      exact Table.find_del ((State.tablesBounded_iff s).mp hb).1.1 _ _
    refine hr.agree (hag.update (a := leField b 0 8) (fun b hb => Function.update_of_ne hb _ _)
      (fun id l b hl' _ _ => hl') (by simp) hag.ids fun id l hl _ => .inl ⟨by simp, hl, fun ha => ?_⟩)
    obtain ⟨j, hj, hid⟩ := (hag.labels id l hl (by simp)).2 _ ha
    rw [hi] at hj; cases hj
    rw [hls] at hid; cases hid
  · exact .refl s

theorem Kept.loadItemsBody (s : State) (b : List Byte) : Kept s (loadItemsBody s b).1 := by
  unfold Machine.loadItemsBody
  dsimp only
  split
  · exact .refl s
  · exact (Kept.refl s).loadAll _

/-! ### Labels (chapter 5) -/

/-- A new label on an item's list (R21, R88). -/
theorem Agree.bind (hag : Agree none I L) (hi : I a = some i) (hid : L id = none) (hn : i.bindRefusal id = none)
    (x : Nat) : Agree none
      (Function.update I a (some { i with labels := i.labels ++ [id]
                                          outstanding := if i.pending.isSome then i.outstanding + 1 else i.outstanding }))
      (Function.update L id (some (Label.bound id a x))) := by
  obtain ⟨hia, hf⟩ := hag.items a i hi
  have hlen : i.labels.length < 8 := by
    unfold Item.bindRefusal at hn
    split at hn
    · cases hn
    · omega
  have hnew : id ∉ i.labels := by
    unfold Item.bindRefusal at hn
    split at hn
    · cases hn
    split at hn
    · cases hn
    · assumption
  have hold : ∀ y, y ∈ i.labels → Function.update L id (some (Label.bound id a x)) y = L y :=
    fun y hy => Function.update_of_ne (by rintro rfl; exact hnew hy) _ _
  have hcount : ∀ p : Option Label → Bool, i.labels.countP (fun y => p (Function.update L id (some (Label.bound id a x)) y))
      = i.labels.countP (fun y => p (L y)) := fun p => List.countP_congr fun y hy => by rw [hold y hy]
  refine hag.update (a := a) (fun b hb => Function.update_of_ne hb _ _) ?_ ?_ ?_ ?_
  · intro y l b hl _ _
    rw [Function.update_of_ne, hl]
    rintro rfl
    rw [hid] at hl; cases hl
  · intro j hj
    rw [Function.update_self] at hj; cases hj
    refine ⟨hia, ?_, by simp; omega, ?_, ?_, ?_, ?_⟩
    · exact List.nodup_append.mpr ⟨hf.nodup, by simp, by
        rintro y hy z hz rfl
        simp only [List.mem_singleton] at hz
        subst hz; exact hnew hy⟩
    · intro y hy
      rcases List.mem_append.mp hy with hy | hy
      · obtain ⟨l, hl, hlf⟩ := hf.listed y hy
        exact ⟨l, (hold y hy).trans hl, hlf.1, hlf.2, hlf.3, hlf.4, hlf.5⟩
      · simp only [List.mem_singleton] at hy
        subst hy
        exact ⟨_, Function.update_self .., by simp [Label.bound, hia], by simp [Label.bound], by simp [Label.bound],
          by simp [Label.bound], by simp [Label.bound]⟩
    · dsimp only
      rw [List.countP_append, hf.stale, hcount]
      simp [isStale, Label.bound]
    · refine ⟨hf.ordered.current, fun hp => ?_, fun v hv => ?_⟩
      · have hp' : i.pending = none := hp
        simpa [hp'] using hf.ordered.settled hp'
      · have hv' : i.pending = some v := hv
        have := hf.ordered.pending v hv'
        simp only [hv', Option.isSome_some, if_true]
        omega
    · intro v hv
      have hv' : i.pending = some v := hv
      dsimp only
      rw [List.countP_append, hv', hf.outstanding v hv', hcount]
      simp [notConfirmed, Label.bound]
  · intro y l hl
    by_cases hy : y = id
    · subst hy; rw [Function.update_self] at hl; cases hl; rfl
    · rw [Function.update_of_ne hy] at hl; exact hag.ids y l hl
  · intro y l hl _
    by_cases hy : y = id
    · subst hy; rw [Function.update_self] at hl; cases hl
      refine .inr ⟨⟨by simp [Label.bound], by simp [Label.bound], by simp [Label.bound]⟩, fun b hb => ?_⟩
      obtain rfl : a = b := by simpa [Label.bound] using hb
      exact ⟨rfl, _, Function.update_self .., by simp⟩
    · rw [Function.update_of_ne hy] at hl
      by_cases hla : l.article = some a
      · obtain ⟨j, hj, hyj⟩ := (hag.labels y l hl (by simp)).2 a hla
        rw [hi] at hj; cases hj
        refine .inr ⟨(hag.labels y l hl (by simp)).1, fun b hb => ?_⟩
        rw [hla] at hb; cases hb
        exact ⟨rfl, _, Function.update_self .., by simp [hyj]⟩
      · exact .inl ⟨by simp, hl, hla⟩

theorem Kept.bind (s : State) (hi : s.item a = some i) (hid : s.label id = none) (hn : i.bindRefusal id = none)
    (hlen : s.labels.directory.length < 32768) (x : Nat) : Kept s (s.bind i id x) := by
  refine ⟨(Held.refl s).bind hi _ _ hlen, fun _ hag => ?_⟩
  obtain rfl := (hag.items _ i hi).1
  exact State.Reads.agree (State.Reads.queue_at (s.reads_self.putItem { i with
    labels := i.labels ++ [id], outstanding := if i.pending.isSome then i.outstanding + 1 else i.outstanding })
    (Label.bound id i.article x) rfl) (hag.bind hi hid hn _)

theorem Kept.bindLabelBody (s : State) (b : List Byte) : Kept s (bindLabelBody s b).1 := by
  unfold Machine.bindLabelBody
  dsimp only
  split
  · exact .refl s
  split
  · exact .refl s
  rename_i hid
  split
  · exact .refl s
  rename_i i hi
  split
  · exact .refl s
  split
  · exact .refl s
  rename_i hlen
  split
  · exact .refl s
  · rename_i hn
    exact .bind s hi hid hn (by unfold maxLabels at hlen; omega) _

theorem KeptOnce.unbindLabelBody (s : State) (b : List Byte) : KeptOnce s (unbindLabelBody s b).1 := by
  unfold Machine.unbindLabelBody
  split
  · exact (Kept.refl s).once
  rename_i l hl
  split
  · exact (Kept.refl s).once
  · rename_i hp
    refine ⟨(Held.refl s).unbind l, fun hb hU hag => ?_⟩
    obtain ⟨a, ha⟩ := hag.bound hl hp
    exact s.reads_self.unbind hb hl ha hU hag

theorem Kept.changeTemplate (s : State) (hl : s.label id = some l) (x : Nat) : Kept s (s.changeTemplate l x) := by
  refine ⟨(Held.refl s).changeTemplate hl x, fun _ hag => ?_⟩
  have hr := s.reads_self
  have hid := hag.ids id l hl
  unfold State.changeTemplate
  dsimp only
  have put : ∀ g : Bool, l.phase ≠ .unbinding → l.phase ≠ .idle → Agree none
      (s.putLabel { l with template := x, again := g }).item (s.putLabel { l with template := x, again := g }).label := by
    intro g hu hni
    obtain ⟨a, ha⟩ := hag.bound hl hu
    exact (hr.putLabel_at { l with template := x, again := g } hid).agree
      (hag.record (m := { l with template := x, again := g }) hl ha rfl rfl rfl (.inr rfl) hu
        ((hag.labels id l hl (by simp)).1.sent a ha) (fun h => absurd h hni) rfl)
  split
  · rename_i hp
    obtain ⟨a, ha⟩ := hag.bound hl (by simp [hp])
    have hnone := hag.inFlight_none hl ha (by simp [hp])
    exact hr.queueBound hag hl ha (by simp [hp]) (by rfl) rfl rfl hnone
  · rename_i hp; exact put true (by simp [hp]) (by simp [hp])
  · rename_i hp; exact put l.again (by simp [hp]) (by simp [hp])
  · rename_i hp; exact put l.again (by simp [hp]) (by simp [hp])
  · exact hag

theorem Kept.setLabelTemplateBody (s : State) (b : List Byte) : Kept s (setLabelTemplateBody s b).1 := by
  unfold Machine.setLabelTemplateBody
  dsimp only
  split
  · exact .refl s
  rename_i l hl
  split
  · exact .refl s
  split
  · exact .refl s
  split
  · exact .refl s
  · exact .changeTemplate s hl _

theorem Kept.retryLabelBody (s : State) (b : List Byte) : Kept s (retryLabelBody s b).1 := by
  unfold Machine.retryLabelBody
  split
  · exact .refl s
  rename_i l hl
  split
  · rename_i hp
    refine ⟨(Held.refl s).retry hl, fun _ hag => ?_⟩
    obtain ⟨a, ha⟩ := hag.bound hl (by simp [hp])
    unfold State.retry
    dsimp only
    rw [ha]
    exact s.reads_self.recover (m := { l with attempts := 0, staleReason := .noReason, article := some a }) hag hl hp ha
      rfl ha.symm rfl rfl (.refl _)
  · exact .refl s

/-! ### Base stations (chapter 6) -/

theorem Kept.calm {u : State} (h : Kept s t) (h' : Calm t u) : Kept s u := h.trans h'.kept

theorem Kept.hello (h : Kept s t) (f : LabelFrame) (b c z : Nat) : Kept s (t.hello f b c z) := by
  unfold State.hello; split
  · rename_i hf; exact h.calm (.helloNew (.refl t) f b c z hf)
  split
  · exact h.calm (.helloReturn (.refl t) _ _ _ _ _)
  split
  · exact h
  split
  · exact h.calm (.cycleSet (.putStation (.refl t) _) _)
  · unfold State.helloRestart
    dsimp only
    exact (Kept.returnUpdates (h.calm (.putStation (.refl t) _)) _).calm
      (.callArbiter (.cycleSet (.postFound (.putStation (.refl _) _) _ _ _) _) _)

theorem Kept.labelSeen (h : Kept s t) (f : LabelFrame) (gs : List Sighting) : Kept s (t.labelSeen f gs) := by
  unfold State.labelSeen; split
  · exact h
  · rename_i hf
    exact Kept.foldl (fun t g h => (h.sighting _ g).trans (State.settle_kept _)) _ (h.calm (.hearStation (.refl t) hf))

theorem KeptOnce.endUpdate (s : State) (b : BaseStation) (r : InFlightRecord) (o : UpdateOutcome) :
    KeptOnce s (s.endUpdate b r o) :=
  Calm.once (.putStation (.refl s) _) ((KeptOnce.updateEnded _ _ _ _).calm (.callArbiter (.refl _) _))

theorem KeptOnce.updateResult (s : State) (f : LabelFrame) (g id : Nat) (o : UpdateOutcome) :
    KeptOnce s (s.updateResult f g id o) := by
  unfold State.updateResult; split
  · exact (Kept.refl s).once
  rename_i hf
  have hc := Calm.hearStation (.refl s) hf
  split
  · exact hc.kept.once
  split
  · exact hc.once (.endUpdate _ _ _ _)
  · exact hc.kept.once

theorem Kept.stationSilence (s : State) (n : Nat) : Kept s (s.stationSilence n) := by
  unfold State.stationSilence; split
  · exact .refl s
  split
  · exact .loseStation (.refl s) _
  · exact .refl s

theorem KeptOnce.updateDeadline (s : State) (n g : Nat) : KeptOnce s (s.updateDeadline n g) := by
  unfold State.updateDeadline; split
  · exact (Kept.refl s).once
  split
  · exact (Kept.refl s).once
  split
  · exact .endUpdate _ _ _ _
  · exact (Kept.refl s).once

theorem Kept.losePortStations (h : Kept s t) (p : Port) : Kept s (t.losePortStations p) := by
  refine Kept.foldl (fun t b h => ?_) _ h
  split
  · exact h
  split
  · exact h.loseStation _
  · exact h

theorem Calm.ite {c : Prop} (_ : Decidable c) {u v : State} (hu : Calm s u) (hv : Calm s v) :
    Calm s (if c then u else v) := by
  split
  · exact hu
  · exact hv

theorem Kept.cleanPort (h : Kept s t) (p : Port) (o : Option Role) : Kept s (t.cleanPort p o) := by
  have h1 : Calm t ((t.freeLan p).setStations ((t.freeLan p).net.stations.filter (fun e => e.2.port != p))) :=
    .setStations (.freeLan (.refl t) p) _ (fun ht => ht.filter _)
  unfold State.cleanPort
  dsimp only
  split
  · exact h
  have h2 {c d : Prop} (_ : Decidable c) (_ : Decidable d) {u : State} (hu : Calm t u) :
      Calm t (if c then u.sendControl p .resume else if d then u.sendControl p .pause else u) :=
    .ite _ (hu.sendControl _ _) (.ite _ (hu.sendControl _ _) hu)
  have h3 {c : Prop} (_ : Decidable c) {u : State} (hu : Calm t u) : Calm t (if c then u.dropPortSessions p else u) :=
    .ite _ (hu.dropPortSessions _) hu
  have h4 {c : Prop} (_ : Decidable c) {u : State} (hu : Calm t u) : Calm t (if c then u.dropPortTills p else u) :=
    .ite _ (hu.dropPortTills _) hu
  split
  · exact .losePortStations (h.calm (h4 _ (h3 _ (h2 _ _ h1)))) p
  · exact h.calm (h4 _ (h3 _ (h2 _ _ h1)))

theorem Kept.setRoles (h : Kept s t) (r : RoleSettings) : Kept s (t.setRoles r) := by
  unfold State.setRoles
  dsimp only
  exact (Kept.foldl (fun _ p h => h.cleanPort p _) _ (h.calm (.placeRoles (.refl t) r))).calm (.moveUplink (.refl _) _)

theorem Kept.setPortRolesBody (s : State) (b : List Byte) : Kept s (setPortRolesBody s b).1 := by
  unfold Machine.setPortRolesBody; split
  · exact .refl s
  split
  · exact .refl s
  split
  · exact .setRoles (.refl s) _
  · exact .refl s

/-! ### Applying a batch (R136) -/

theorem KeptOnce.applyEntry (s : State) (n : Nat) (c : BatchCounts) (e : BatchEntry) :
    KeptOnce s (s.applyEntry n c e).1 := by
  unfold State.applyEntry; split
  · exact .change s _ _ _ _ _
  · exact (Kept.loadEntry (.refl s) _ _).once

theorem KeptOnce.applyNext (s : State) : KeptOnce s s.applyNext := by
  unfold State.applyNext; split
  · have h := fun n c e x => (KeptOnce.applyEntry s n c e).calm (.setExchange (.refl _) x)
    dsimp only
    split
    · exact (h _ _ _ _).calm (.batchCommitted (.refl _) _)
    · exact h _ _ _ _
  · exact (Kept.refl s).once

/-! ### Requests -/

/-- A record carried out: what its block does with the body, and the finish of the record (R195). -/
theorem KeptOnce.carryOut {f : State → List Byte → State × Reply} (hf : ∀ b, KeptOnce s (f s b).1) (c : Chain)
    (k : RequestKind) (m : List Byte → Bool) : KeptOnce s (s.carryOut c k m f).settle := by
  refine KeptOnce.kept ?_ (State.settle_kept _)
  unfold State.carryOut; split
  · exact (Kept.refl s).once
  split
  · exact (Calm.finish (.refl s) _ _ _ _).kept.once
  split
  · exact (Kept.refl s).once
  split
  · exact (Calm.finish (.refl s) _ _ _ _).kept.once
  split
  · exact (hf _).calm (.finish (.refl _) _ _ _ _)
  · exact (Kept.refl s).once

theorem KeptOnce.request {f : State → List Byte → State × Reply} (hf : ∀ b, KeptOnce s (f s b).1) (c : Chain)
    (k : RequestKind) : KeptOnce s (s.request c k f).settle := .carryOut hf c k _

/-! ### Every command -/

/-- Whatever the two tables are empty of agrees. -/
theorem KeptOnce.emptied (hl : t.LogBounded) (ht : t.TablesBounded) (hi : ∀ a, t.item a = none)
    (hd : ∀ id, t.label id = none) : KeptOnce s t :=
  ⟨⟨fun _ => hl, fun _ => ht⟩, fun _ _ _ => ⟨fun a i h => by simp [hi] at h, fun id l h => by simp [hd] at h,
    fun id l h => by simp [hd] at h⟩⟩

end Sys2Proof.Machine
end

section
/-! PROOFS. The step lemmas of the notice log, the tables, and items against labels. -/

namespace Sys2Proof.Machine

variable {s t : State}

theorem KeptOnce.refl (s : State) : KeptOnce s s := (Kept.refl s).once

theorem KeptOnce.ite {c : Prop} (_ : Decidable c) {u v : State} (hu : KeptOnce s u) (hv : KeptOnce s v) :
    KeptOnce s (if c then u else v) := by
  split
  · exact hu
  · exact hv

theorem Calm.toOnce (h : Calm s t) : KeptOnce s t := h.kept.once

/-- A command that acts only while the part has power. -/
theorem KeptOnce.powered {c : Prop} (_ : Decidable c) {u : State} (hu : KeptOnce s u) :
    KeptOnce s (if c then u else s) := .ite _ hu (.refl s)

theorem KeptOnce.settle {u : State} (hu : KeptOnce s u) : KeptOnce s u.settle := hu.kept (State.settle_kept _)

theorem Calm.settle (h : Calm s t) : KeptOnce s t.settle := h.toOnce.settle

/-! ### Power and resets (R187) -/

theorem State.reset_bounded : State.reset.LogBounded ∧ State.reset.TablesBounded := by decide

theorem KeptOnce.powerUp (s : State) (m : Memory) : KeptOnce s (s.powerUp m) :=
  .emptied State.reset_bounded.1 State.reset_bounded.2 (fun _ => rfl) (fun _ => rfl)

theorem KeptOnce.controllerReset (s : State) : KeptOnce s s.controllerReset :=
  .emptied State.reset_bounded.1 State.reset_bounded.2 (fun _ => rfl) (fun _ => rfl)

theorem Calm.losePower (h : Calm s t) : Calm s t.losePower := ((h.setBacked _).setPowered _).setFreeIndex _

theorem Calm.writeEnables (h : Calm s t) (v : Word) : Calm s (t.writeEnables v) := h.setCauses _ _

theorem KeptOnce.writeControl (s : State) (v : Word) : KeptOnce s (s.writeControl v) := by
  unfold State.writeControl; split
  · exact .controllerReset s
  split
  · exact (Calm.writeRun (.refl s)).toOnce
  · exact .refl s

/-! ### Messages of the server (chapter 7) -/

theorem Calm.takeServer (h : Calm s t) (r : List ServerMessage) (b : Bool) {f : State → State}
    (hf : ∀ u, Calm s u → Calm s (f u)) : Calm s (t.takeServer r b f) := by
  unfold State.takeServer; split
  · exact h.setExchange _
  split
  · exact hf _ (h.setExchange _)
  · exact h.setExchange _

theorem KeptOnce.serverMessage (s : State) (r : List ServerMessage) (b : Bool) {f : State → State}
    (hf : ∀ u, Calm s u → Calm s (f u)) : KeptOnce s (s.takeServer r b f).settle :=
  ((Calm.refl s).takeServer r b hf).settle

/-- Every command keeps the log and the tables in bounds and, while no version number wraps, items and labels in
agreement. -/
theorem KeptOnce.exec {i : Instr} {s t : State} (h : exec i s = .next t) : KeptOnce s t := by
  have r := Calm.refl s
  cases i <;> simp only [Machine.exec] at h
  case powerOn => cases h; exact .powerUp s _
  case reset => cases h; exact .powered _ (.controllerReset s)
  case run => cases h; exact .powered _ r.writeRun.toOnce
  case causeRead => cases h; exact .powered _ r.readCause.toOnce
  case causeEnableWrite => cases h; exact .powered _ (r.writeEnables _).toOnce
  case registerWriteIgnored =>
    cases h
    exact .powered _ (.ite _ (.writeControl s _) (.ite _ (r.writeEnables _).toOnce (.refl s)))
  case startUpScan => cases h; exact .powered _ r.runScan.setReady.toOnce
  case headWrite => cases h; exact .powered _ (r.hostWrite _ _ _).settle
  case stop => cases h; exact .powered _ (r.hostWrite _ _ _).settle
  case commandOtherValue => cases h; exact .powered _ (r.hostWrite _ _ _).settle
  case linkWordWrite => cases h; exact .powered _ (r.hostWrite _ _ _).settle
  case setPortRoles => cases h; exact .powered _ (.request (fun b => (Kept.setPortRolesBody s b).once) _ _)
  case setSlotTables => cases h; exact .powered _ (.request (fun b => (r.setSlotTablesBody b).toOnce) _ _)
  case setPacer => cases h; exact .powered _ (.request (fun b => (r.setPacerBody b).toOnce) _ _)
  case setGuestPolicy => cases h; exact .powered _ (.request (fun b => (r.setGuestPolicyBody b).toOnce) _ _)
  case setLabelParams => cases h; exact .powered _ (.request (fun b => (r.setLabelParamsBody b).toOnce) _ _)
  case loadTemplate => cases h; exact .powered _ (.request (fun b => (r.loadTemplateBody b).toOnce) _ _)
  case setExchangeParams => cases h; exact .powered _ (.request (fun b => (r.setExchangeParamsBody b).toOnce) _ _)
  case setClock => cases h; exact .powered _ (.request (fun b => (r.setClockBody b).toOnce) _ _)
  case setPeriodManual => cases h; exact .powered _ (.carryOut (fun b => (r.setPeriodManualBody b).toOnce) _ _ _)
  case setPeriodScheduled => cases h; exact .powered _ (.carryOut (fun b => (r.setPeriodScheduledBody b).toOnce) _ _ _)
  case setPlausibility => cases h; exact .powered _ (.request (fun b => (r.setPlausibilityBody b).toOnce) _ _)
  case loadItems => cases h; exact .powered _ (.request (fun b => (Kept.loadItemsBody s b).once) _ _)
  case changePrice => cases h; exact .powered _ (.request (fun b => .changePriceBody s b) _ _)
  case confirmChange => cases h; exact .powered _ (.request (fun b => .confirmChangeBody s b) _ _)
  case rejectChange => cases h; exact .powered _ (.request (fun b => (Kept.rejectChangeBody s b).once) _ _)
  case setText => cases h; exact .powered _ (.request (fun b => (Kept.setTextBody s b).once) _ _)
  case removeItem => cases h; exact .powered _ (.request (fun b => (Kept.removeItemBody s b).once) _ _)
  case readItem => cases h; exact .powered _ (.request (fun b => (r.readItemBody b).toOnce) _ _)
  case bindLabel => cases h; exact .powered _ (.request (fun b => (Kept.bindLabelBody s b).once) _ _)
  case unbindLabel => cases h; exact .powered _ (.request (fun b => .unbindLabelBody s b) _ _)
  case setLabelTemplate => cases h; exact .powered _ (.request (fun b => (Kept.setLabelTemplateBody s b).once) _ _)
  case retryLabel => cases h; exact .powered _ (.request (fun b => (Kept.retryLabelBody s b).once) _ _)
  case readLabel => cases h; exact .powered _ (.request (fun b => (r.readLabelBody b).toOnce) _ _)
  case sendFrame => cases h; exact .powered _ (.request (fun b => (r.sendFrameBody b).toOnce) _ _)
  case admitGuest => cases h; exact .powered _ (.request (fun b => (r.admitGuestBody b).toOnce) _ _)
  case revokeGuest => cases h; exact .powered _ (.request (fun b => (r.revokeGuestBody b).toOnce) _ _)
  case readCounts => cases h; exact .powered _ (.request (fun b => (r.readCountsBody b).toOnce) _ _)
  case flushStations => cases h; exact .powered _ (.request (fun b => (r.flushStationsBody b).toOnce) _ _)
  case startExchange => cases h; exact .powered _ (.request (fun b => (r.startExchangeBody b).toOnce) _ _)
  case abortExchange => cases h; exact .powered _ (.request (fun b => (r.abortExchangeBody b).toOnce) _ _)
  case readJournalState => cases h; exact .powered _ (.request (fun b => (r.readJournalStateBody b).toOnce) _ _)
  case deliveryFill => cases h; exact .powered _ r.fillDelivery.settle
  case frameReceive => cases h; exact .powered _ (r.receive _ _ _).settle
  case signOn =>
    cases h
    refine .powered _ ?_
    split
    · exact .refl s
    split
    · exact ((r.setTills _).takeSignOn _).toOnce
    all_goals exact .refl s
  case quoteAsk =>
    cases h
    refine .powered _ ?_
    split
    · exact .refl s
    split
    · exact ((r.setTills _).takeQuoteAsk _ _ _ _).toOnce
    all_goals exact .refl s
  case salePut =>
    cases h
    refine .powered _ ?_
    split
    · exact .refl s
    split
    · exact ((r.setTills _).takeSale _ _ _ _ _ _ _).toOnce
    all_goals exact .refl s
  case signOff =>
    cases h
    refine .powered _ ?_
    split
    · exact .refl s
    split
    · exact ((r.setTills _).takeSignOff _).toOnce
    all_goals exact .refl s
  case bsHello =>
    cases h
    refine .powered _ ?_
    split
    · exact .refl s
    split
    · exact ((Kept.calm (.refl s) (.setLink r _ (by rfl))).hello _ _ _ _).once.settle
    all_goals exact .refl s
  case labelSeen =>
    cases h
    refine .powered _ ?_
    split
    · exact .refl s
    split
    · exact ((Kept.calm (.refl s) (.setLink r _ (by rfl))).labelSeen _ _).once.settle
    all_goals exact .refl s
  case updateResult =>
    cases h
    refine .powered _ ?_
    split
    · exact .refl s
    split
    · exact (Calm.once (.setLink r _ (by rfl)) (.updateResult _ _ _ _ _)).settle
    all_goals exact .refl s
  case welcome =>
    cases h
    refine .powered _ ?_
    split
    · split
      · exact .refl s
      · exact .serverMessage s _ _ (fun _ h => h.onWelcome _)
    · exact .refl s
  case jack =>
    cases h
    refine .powered _ ?_
    split
    · split
      · exact .refl s
      · exact .serverMessage s _ _ (fun _ h => h.onJack _)
    · exact .refl s
  case pblock =>
    cases h
    refine .powered _ ?_
    split
    · refine .serverMessage s _ _ (fun _ h => ?_)
      exact .ite _ (h.setExchange _) ((h.setExchange _).onPblock _ _ _ _)
    · exact .refl s
  case commit =>
    cases h
    refine .powered _ ?_
    split
    · exact .serverMessage s _ _ (fun _ h => (h.setExchange _).onCommit _ _ _)
    · exact .refl s
  case noMore =>
    cases h
    refine .powered _ ?_
    split
    · refine .serverMessage s _ _ (fun _ h => ?_)
      exact .ite _ (h.setExchange _) (h.setExchange _).onNoMore
    · exact .refl s
  case byeAck =>
    cases h
    refine .powered _ ?_
    split
    · exact .serverMessage s _ _ (fun _ h => h.endSession _ _)
    · exact .refl s
  case refuse =>
    cases h
    refine .powered _ ?_
    split
    · exact .serverMessage s _ _ (fun _ h => h.endSession _ _)
    · exact .refl s
  case batchEntryApply => cases h; exact .powered _ (KeptOnce.applyNext s).settle
  case appendStart => cases h; exact .powered _ r.startAppend.settle
  case appendEnd => cases h; exact .powered _ r.endAppend.settle
  case releaseComplete => cases h; exact .powered _ r.endRelease.settle
  case lanEgressStart => cases h; exact .powered _ (r.startLan _).toOnce
  case uplinkPick => cases h; exact .powered _ r.pickUplink.toOnce
  case transmitEnd => cases h; exact .powered _ (r.endTransmit _).settle
  case phyLinkDown => cases h; exact .powered _ (r.linkDown _).settle
  case phyLinkUp => cases h; exact .powered _ (r.linkUp _).settle
  case millisecondStep => cases h; exact .powered _ r.tick.toOnce
  case tillSilenceExpiry => cases h; exact .powered _ (r.tillSilence _).toOnce
  case baseStationSilence => cases h; exact .powered _ (Kept.stationSilence s _).once.settle
  case updateDeadline => cases h; exact .powered _ (KeptOnce.updateDeadline s _ _).settle
  case stationAging => cases h; exact .powered _ (r.ageStation _).toOnce
  case helloResend => cases h; exact .powered _ (r.resendOr _ (r.sendMessage _ _)).toOnce
  case jblockResend => cases h; exact .powered _ (r.resendOr _ r.resendWindow).toOnce
  case pullResend => cases h; exact .powered _ (r.resendOr _ (r.sendMessage _ _)).toOnce
  case byeResend => cases h; exact .powered _ (r.resendOr _ (r.sendMessage _ _)).toOnce
  case serverIdleExpiry => cases h; exact .powered _ (r.endSession _ _).toOnce
  case sessionDeadline => cases h; exact .powered _ r.deadlineReached.toOnce
  case guestTimeLimit => cases h; exact .powered _ (r.guestExpire _).toOnce
  case guestIdleRemoval => cases h; exact .powered _ (r.guestIdle _).toOnce
  case openTimeReached => cases h; exact .powered _ r.actOnOpen.settle
  case closeTimeReached => cases h; exact .powered _ r.actOnClose.settle
  case windowStartReached => cases h; exact .powered _ r.actOnWindow.settle
  case powerLoss => cases h; exact .powered _ r.losePower.toOnce

/-- Every step keeps the log and the tables in bounds and, while no version number wraps, items and labels in agreement. -/
theorem KeptOnce.step {s t : State} (h : step s = .next t) : KeptOnce s t := by
  unfold Machine.step at h
  split at h
  · cases h; exact .refl s
  · exact Calm.once (.setPending (.refl s) _) (.exec h)

/-- Settles O58: no operation stores a record under a key it is not, or past its table's size. -/
theorem tablesKept : Obligations.TablesKept := fun _ _ hb h => (KeptOnce.step h).held.tables hb

/-- Settles O57: a notice is written only into a log with room, and every change of an item or a label record fits the
records it is tied to. -/
theorem logKept : Obligations.LogKept := by
  refine ⟨fun _ _ hl h => (KeptOnce.step h).held.log hl, fun s t hb hag hU h => ?_⟩
  have hk := KeptOnce.step h
  rw [State.itemsAgree_iff hb] at hag
  rw [State.itemsAgree_iff (hk.held.tables hb)]
  exact hk.agree hb (fun a i hi => hU (a, i) (Table.mem_of_find hi)) hag

end Sys2Proof.Machine
end

section
/-! PROOFS. A record finished (R192, R194, R195): what the walker of a chain writes, and that it answers a request as
`Answered` has it. -/

namespace Sys2Proof.Machine

/-! ### Memories that agree -/

theorem Memory.readBytes_congr {m m' : Memory} {a n : Nat} (h : ∀ x, a ≤ x → x < a + n → m'.read x = m.read x) :
    m'.readBytes a n = m.readBytes a n := by
  induction n generalizing a with
  | zero => rfl
  | succ n ih =>
    rw [Memory.readBytes, Memory.readBytes, h a (Nat.le_refl a) (by omega),
      ih (fun x hx hx' => h x (by omega) (by omega))]

theorem Memory.word_congr {m m' : Memory} {a : Nat} (h : ∀ x, a ≤ x → x < a + 4 → m'.read x = m.read x) :
    m'.word a = m.word a := by
  unfold Memory.word
  rw [Memory.readBytes_congr h]

theorem Memory.read_setWord_outside (m : Memory) {a x : Nat} (v : Word) (h : x < a ∨ a + 4 ≤ x) :
    (m.setWord a v).read x = m.read x :=
  Memory.read_writeBytes_outside m _ (by rwa [leBytes_length])

/-- What the walkers read of a record to take it: the state, kind, tell, length and body (R194). -/
theorem State.readRecord_congr {s t : State} {x : Nat}
    (h : ∀ a, x + 5 ≤ a → a < x + 32 + s.bodyLength x → t.store.read a = s.store.read a) :
    t.readRecord x = s.readRecord x := by
  have hn : t.bodyLength x = s.bodyLength x := by
    unfold State.bodyLength
    rw [Memory.readBytes_congr (fun a _ _ => h a (by omega) (by omega))]
  unfold State.readRecord State.recordByte
  rw [hn, h (x + 5) (by omega) (by omega), h (x + 6) (by omega) (by omega),
    Memory.readBytes_congr (fun a _ _ => h a (by omega) (by omega))]

theorem State.recordFault_congr {s t : State} {x : Nat}
    (h : goodOffset x = true → ∀ a, x + 4 ≤ a → a < x + 12 → t.store.read a = s.store.read a) :
    t.recordFault x = s.recordFault x := by
  unfold State.recordFault
  by_cases hx : goodOffset x = true
  · have hr := h hx
    have hn : t.bodyLength x = s.bodyLength x := by
      unfold State.bodyLength
      rw [Memory.readBytes_congr (fun a _ _ => hr a (by omega) (by omega))]
    unfold State.recordByte
    rw [hn, hr (x + 4) (by omega) (by omega)]
  · simp [hx]

/-! ### What a walker moves -/

/-- Between two states the walker of a chain has moved: only its chain, the cause set, which keeps what is pending, and the
bytes of `own` may have changed. -/
structure Walked (s t : State) (c : Chain) (own : Nat → Prop) : Prop where
  frame : t.withLogOf s = s
  written : t.requests.written = s.requests.written
  accepted : t.requests.accepted = s.requests.accepted
  dropped : t.requests.dropped = s.requests.dropped
  causes : ∀ d : Cause, s.Pending d → t.Pending d
  others : ∀ d, d ≠ c → t.chain d = s.chain d
  wf : s.store.wf → t.store.wf
  bytes : ∀ a, ¬ own a → t.store.read a = s.store.read a

theorem Walked.refl (s : State) (c : Chain) (own : Nat → Prop) : Walked s s c own :=
  ⟨rfl, rfl, rfl, rfl, fun _ h => h, fun _ _ => rfl, fun h => h, fun _ _ => rfl⟩

theorem Walked.trans {s t u : State} {c : Chain} {own : Nat → Prop} (h : Walked s t c own) (h' : Walked t u c own) :
    Walked s u c own where
  frame := ((congrArg (fun x : State => x.withLogOf s) h'.frame :)).trans h.frame
  written := h'.written.trans h.written
  accepted := h'.accepted.trans h.accepted
  dropped := h'.dropped.trans h.dropped
  causes d hd := h'.causes d (h.causes d hd)
  others d hd := (h'.others d hd).trans (h.others d hd)
  wf hw := h'.wf (h.wf hw)
  bytes a ha := (h'.bytes a ha).trans (h.bytes a ha)

theorem Walked.mono {s t : State} {c : Chain} {own own' : Nat → Prop} (h : Walked s t c own) (ho : ∀ a, own a → own' a) :
    Walked s t c own' :=
  { h with bytes := fun a ha => h.bytes a (fun hb => ha (ho a hb)) }

theorem Walked.writeStore (s : State) (c : Chain) (x : Nat) (b : List Byte) :
    Walked s (s.writeStore x b) c (fun a => x ≤ a ∧ a < x + b.length) where
  frame := rfl
  written := rfl
  accepted := rfl
  dropped := rfl
  causes _ h := h
  others _ _ := rfl
  wf h := Memory.writeBytes_wf x b h
  bytes a ha := Memory.read_writeBytes_outside s.store b (by omega)

theorem Walked.writeWord (s : State) (c : Chain) (x : Nat) (v : Word) :
    Walked s (s.writeWord x v) c (fun a => x ≤ a ∧ a < x + 4) :=
  (Walked.writeStore s c x (leBytes 4 v.toNat)).mono (fun a ha => by rwa [leBytes_length] at ha)

theorem Walked.raise (s : State) (c : Chain) (d : Cause) (own : Nat → Prop) : Walked s (s.raise d) c own where
  frame := rfl
  written := rfl
  accepted := rfl
  dropped := rfl
  causes e h := by
    intro hz
    apply h
    have hz' : (s.requests.causes ||| d.bit) &&& e.bit = 0 := hz
    ext i hi
    have := congrArg (fun v : BitVec 5 => v[i]) hz'
    simp only [BitVec.getElem_and, BitVec.getElem_or] at this ⊢
    revert this
    cases s.requests.causes[i] <;> cases d.bit[i] <;> cases e.bit[i] <;> simp
  others _ _ := rfl
  wf h := h
  bytes _ _ := rfl

theorem Walked.storeChain (s : State) (c : Chain) (x : ChainState) (own : Nat → Prop) : Walked s (s.storeChain c x) c own where
  frame := rfl
  written := rfl
  accepted := rfl
  dropped := rfl
  causes _ h := h
  others _ h := PerChain.get_set_other _ _ h
  wf h := h
  bytes _ _ := rfl

/-- The words of a chain that its walker keeps: those of the directory entry behind head and command, and the status word. -/
def entryBytes (c : Chain) (a : Nat) : Prop :=
  (dirEntry c + 8 ≤ a ∧ a < dirEntry c + 64) ∨ (offChainStates + 4 * Chain.index c ≤ a ∧ a < offChainStates + 4 * Chain.index c + 4)

theorem entryBytes_lt {c : Chain} {a : Nat} (h : entryBytes c a) :
    (0x400 ≤ a ∧ a < 0x580) ∨ (0x10 ≤ a ∧ a < 0x28) := by
  unfold entryBytes dirEntry offChainStates at h
  have : Chain.index c ≤ 5 := by cases c <;> decide
  omega

theorem Walked.writeChanged (s : State) (c : Chain) (x : Nat) (v w : Word) :
    Walked s (s.writeChanged x v w) c (fun a => x ≤ a ∧ a < x + 4) := by
  unfold State.writeChanged
  split
  · exact .refl s c _
  · exact .writeWord s c x w

theorem Walked.writeEntry (s : State) (c : Chain) (x y : ChainState) :
    Walked s (s.writeEntry c x y) c (entryBytes c) := by
  have hw : ∀ (t : State) (o : Nat) (v w : Word), (dirEntry c + 8 ≤ o ∧ o ≤ dirEntry c + 20) →
      Walked t (t.writeChanged o v w) c (entryBytes c) :=
    fun t o v w ho => (Walked.writeChanged t c o v w).mono (fun a ha => .inl (by omega))
  unfold State.writeEntry
  exact ((((hw _ _ _ _ (by omega)).trans (hw _ _ _ _ (by omega))).trans (hw _ _ _ _ (by omega))).trans
    (hw _ _ _ _ (by omega))).trans ((Walked.writeChanged _ c _ _ _).mono (fun a ha => .inr ha))

theorem Walked.setChain (s : State) {c : Chain} (x : ChainState) (hc : c ≠ .delivery) :
    Walked s (s.setChain c x) c (entryBytes c) := by
  unfold State.setChain
  dsimp only
  rw [if_neg (fun h => hc h.1)]
  exact (Walked.storeChain s c x _).trans (.writeEntry _ c _ x)

theorem Walked.writeCurrent (s : State) (c : Chain) : Walked s (s.writeCurrent c) c (entryBytes c) :=
  (Walked.writeWord s c _ _).mono (fun a ha => .inl (by omega))

theorem Walked.writeFault (s : State) (c : Chain) : Walked s (s.writeFault c) c (entryBytes c) :=
  (Walked.writeWord s c _ _).mono (fun a ha => .inl (by omega))

theorem State.writeCurrent_chain (s : State) (c d : Chain) : (s.writeCurrent c).chain d = s.chain d := rfl

theorem Walked.writeRecordState (s : State) (c : Chain) (x : Nat) (r : RecordState) :
    Walked s (s.writeRecordState x r) c (fun a => a = x + 4) :=
  (Walked.writeStore s c (x + 4) _).mono (fun a ha => by rw [leBytes_length] at ha; omega)

theorem Walked.faultChain (s : State) {c : Chain} (x : Word) (f : FaultCode) (hc : c ≠ .delivery) :
    Walked s (s.faultChain c x f) c (entryBytes c) :=
  ((((Walked.setChain s _ hc).trans (.writeCurrent _ c)).trans (.writeFault _ c)).trans (.raise _ c .fault _))

theorem State.faultChain_chain (s : State) (c : Chain) (x : Word) (f : FaultCode) :
    (s.faultChain c x f).chain c
      = { s.chain c with phase := .faulted, current := x, fault := f, inHand := none, stopping := false } :=
  State.setChain_chain s c _

theorem State.faultChain_pending_fault (s : State) (c : Chain) (x : Word) (f : FaultCode) :
    (s.faultChain c x f).Pending .fault := State.raise_pending_cause _ _

theorem State.takeRecord_of_fault (s : State) (c : Chain) (x : Word) (h : s.recordFault x.toNat ≠ .noFault) :
    s.takeRecord c x = s.faultChain c x (s.recordFault x.toNat) := by
  unfold State.takeRecord
  split
  · rename_i hf; exact absurd hf h
  · rfl

/-- The state once a record that passes its checks is taken (R194). -/
theorem State.takeRecord_of_noFault (s : State) (c : Chain) (x : Word) (h : s.recordFault x.toNat = .noFault) :
    s.takeRecord c x = ((s.writeRecordState x.toNat .taken).setChain c { s.chain c with
      phase := .running, current := x, inHand := some (s.readRecord x.toNat) }).writeCurrent c := by
  unfold State.takeRecord
  rw [h]
  rfl

theorem Walked.takeRecord (s : State) {c : Chain} (x : Word) (hc : c ≠ .delivery) :
    Walked s (s.takeRecord c x) c (fun a => entryBytes c a ∨ (a = x.toNat + 4 ∧ s.recordFault x.toNat = .noFault)) := by
  by_cases hf : s.recordFault x.toNat = .noFault
  · rw [State.takeRecord_of_noFault s c x hf]
    exact (((Walked.writeRecordState s c x.toNat .taken).mono (fun a ha => .inr ⟨ha, hf⟩)).trans
      ((Walked.setChain _ _ hc).mono (fun a => .inl))).trans ((Walked.writeCurrent _ c).mono (fun a => .inl))
  · rw [State.takeRecord_of_fault s c x hf]
    exact (Walked.faultChain s x _ hc).mono (fun a => .inl)

/-- A record that passes the checks lies whole in record space, marked NEW (R194). -/
theorem State.recordFault_noFault {s : State} {x : Nat} (h : s.recordFault x = .noFault) :
    goodOffset x = true ∧ 32 + s.bodyLength x ≤ 4096 ∧ x + 32 + s.bodyLength x ≤ storeEnd ∧ s.recordByte x 4 = 1 := by
  unfold State.recordFault at h
  split at h
  · exact absurd h (by decide)
  · rename_i h1
    split at h
    · exact absurd h (by decide)
    · rename_i h2
      split at h
      · exact absurd h (by decide)
      · rename_i h3
        exact ⟨by simpa using h1, by omega, by omega, by simpa [RecordState.code] using h3⟩

theorem goodOffset_iff {x : Nat} : goodOffset x = true ↔ x % 64 = 0 ∧ 0x3000 ≤ x ∧ x + 32 ≤ 0x40000 := by
  unfold goodOffset
  rw [Bool.and_eq_true, Bool.and_eq_true, beq_iff_eq, decide_eq_true_iff, decide_eq_true_iff, and_assoc]
  rfl

/-! ### Result parts -/

/-- Two byte ranges of a body have nothing in common. -/
def Apart (p q : Nat × List Byte) : Prop := p.1 + p.2.length ≤ q.1 ∨ q.1 + q.2.length ≤ p.1

theorem State.writeParts_cons (s : State) (x : Nat) (p : Nat × List Byte) (ps : List (Nat × List Byte)) :
    s.writeParts x (p :: ps) = (s.writeStore (x + 32 + p.1) p.2).writeParts x ps := rfl

theorem Walked.writeParts (s : State) (c : Chain) (x : Nat) (ps : List (Nat × List Byte)) :
    Walked s (s.writeParts x ps) c (fun a => ∃ p ∈ ps, x + 32 + p.1 ≤ a ∧ a < x + 32 + p.1 + p.2.length) := by
  induction ps generalizing s with
  | nil => exact .refl s c _
  | cons p ps ih =>
    rw [State.writeParts_cons]
    exact ((Walked.writeStore s c _ p.2).mono (fun a ha => ⟨p, List.mem_cons_self, ha⟩)).trans
      ((ih _).mono (fun a ⟨q, hq, ha⟩ => ⟨q, List.mem_cons_of_mem _ hq, ha⟩))

theorem State.readBytes_writeParts {s : State} (x : Nat) {ps : List (Nat × List Byte)} (hw : s.store.wf)
    (hd : ps.Pairwise Apart) {p : Nat × List Byte} (hp : p ∈ ps) :
    (s.writeParts x ps).store.readBytes (x + 32 + p.1) p.2.length = p.2 := by
  induction ps generalizing s with
  | nil => cases hp
  | cons q qs ih =>
    obtain ⟨hq, hd'⟩ := List.pairwise_cons.mp hd
    rw [State.writeParts_cons]
    rcases List.mem_cons.mp hp with rfl | hp'
    · rw [← Memory.readBytes_writeBytes (x + 32 + p.1) p.2 hw]
      have hl : (s.store.writeBytes (x + 32 + p.1) p.2).readBytes (x + 32 + p.1) p.2.length = p.2 :=
        Memory.readBytes_writeBytes _ _ hw
      rw [hl]
      refine (Memory.readBytes_congr (fun a ha ha' => ?_)).trans hl
      refine (Walked.writeParts (s.writeStore (x + 32 + p.1) p.2) .setup x qs).bytes a ?_
      rintro ⟨q, hq', h1, h2⟩
      rcases hq q hq' with h | h <;> omega
    · exact ih (Memory.writeBytes_wf _ _ hw) hd' hp'

/-- The bytes of a record behind its link word. -/
def recordBytes (r : RecordInHand) (a : Nat) : Prop := r.offset + 4 ≤ a ∧ a < r.offset + 32 + r.body.length

/-- The parts of a reply lie in the body of a record, apart from each other. -/
structure Reply.FitsIn (rep : Reply) (n : Nat) : Prop where
  inside : ∀ p ∈ rep.parts, p.1 + p.2.length ≤ n
  apart : rep.parts.Pairwise Apart

theorem Walked.writeResult (s : State) (c : Chain) (r : RecordInHand) {rep : Reply} (h : rep.FitsIn r.body.length) :
    Walked s (s.writeResult r.offset rep) c (recordBytes r) := by
  have hs : ∀ (t : State) (o : Nat) (b : List Byte), b.length = 1 → r.offset + 4 ≤ o → o ≤ r.offset + 31 →
      Walked t (t.writeStore o b) c (recordBytes r) := fun t o b hb h1 h2 =>
    (Walked.writeStore t c o b).mono (fun a ha => by unfold recordBytes; omega)
  unfold State.writeResult
  refine (((Walked.writeParts s c r.offset rep.parts).mono ?_).trans (hs _ _ _ (by simp) (by omega) (by omega))).trans
    (((hs _ _ _ (by simp) (by omega) (by omega))).trans ((Walked.writeRecordState _ c _ _).mono ?_))
  · rintro a ⟨p, hp, h1, h2⟩
    have := h.inside p hp
    unfold recordBytes
    omega
  · rintro a rfl
    unfold recordBytes
    omega

theorem State.writeResult_state {s : State} (x : Nat) (rep : Reply) (hw : s.store.wf) :
    (s.writeResult x rep).store.read (x + 4) = if rep.done then 3 else 4 := by
  have hw' := (Walked.writeParts s .setup x rep.parts).wf hw
  have h : (s.writeResult x rep).store.read (x + 4)
      = BitVec.ofNat 8 (if rep.done then RecordState.done else RecordState.failed).code :=
    Memory.read_write_same _ _ (Memory.write_wf _ _ (Memory.write_wf _ _ hw'))
  rw [h]
  cases rep.done <;> rfl

theorem State.writeResult_flags {s : State} (x : Nat) (rep : Reply) (hw : s.store.wf) :
    (s.writeResult x rep).store.read (x + 8) = rep.flags.byte := by
  have hw' := (Walked.writeParts s .setup x rep.parts).wf hw
  unfold State.writeResult
  exact ((Walked.writeRecordState _ .setup x _).bytes _ (by omega)).trans
    (Memory.read_write_same _ _ (Memory.write_wf _ _ hw'))

theorem State.writeResult_code {s : State} (x : Nat) (rep : Reply) (hw : s.store.wf) :
    ((s.writeResult x rep).store.read (x + 7)).toNat = rep.code.number := by
  have hw' := (Walked.writeParts s .setup x rep.parts).wf hw
  have h : (s.writeResult x rep).store.read (x + 7) = BitVec.ofNat 8 rep.code.number := by
    unfold State.writeResult
    exact (((Walked.writeRecordState _ .setup x _).bytes _ (by omega)).trans
      ((Walked.writeStore _ .setup (x + 8) [rep.flags.byte]).bytes _ (by simp))).trans
      (Memory.read_write_same _ _ hw')
  rw [h]
  cases rep.code <;> rfl

theorem State.writeResult_parts {s : State} (x : Nat) {rep : Reply} (hw : s.store.wf) (hd : rep.parts.Pairwise Apart)
    {p : Nat × List Byte} (hp : p ∈ rep.parts) :
    (s.writeResult x rep).store.readBytes (x + 32 + p.1) p.2.length = p.2 := by
  refine (Memory.readBytes_congr (fun a h1 h2 => ?_)).trans (State.readBytes_writeParts x hw hd hp)
  unfold State.writeResult
  exact (((Walked.writeRecordState _ .setup x _).bytes _ (by omega)).trans
    ((Walked.writeStore _ .setup (x + 8) [rep.flags.byte]).bytes _ (by simp; omega))).trans
    ((Walked.writeStore _ .setup (x + 7) (leBytes 1 rep.code.number)).bytes _ (by simp; omega))

end Sys2Proof.Machine
end

section
/-! PROOFS. A request answered (R193-R196): the finish of a record gives `Answered`, before and after the arbiter's runs. -/

namespace Sys2Proof.Machine

/-! ### The finish of a record, taken apart -/

/-- The state once a record's result is written and its chain's done count raised, before the link is read (R195). -/
def State.finished (s : State) (c : Chain) (x : Nat) (tell : Bool) (rep : Reply) : State :=
  let u := s.writeResult x rep
  let u := u.setChain c { u.chain c with done := (u.chain c).done + 1, inHand := none, stopping := false }
  if tell then u.raise (tellCause c) else u

theorem State.finish_eq (s : State) (c : Chain) (x : Nat) (tell : Bool) (rep : Reply) :
    s.finish c x tell rep =
      let t := s.finished c x tell rep
      if (s.chain c).stopping then t.setChain c { t.chain c with phase := .off } else t.readLink c x := by
  have h : (s.writeResult x rep).chain c = s.chain c := by unfold State.chain; rw [State.writeResult_requests]
  unfold State.finish State.finished
  dsimp only
  rw [h]

theorem State.finished_chain (s : State) (c : Chain) (x : Nat) (tell : Bool) (rep : Reply) :
    (s.finished c x tell rep).chain c
      = { s.chain c with done := (s.chain c).done + 1, inHand := none, stopping := false } := by
  have h : (s.writeResult x rep).chain c = s.chain c := by unfold State.chain; rw [State.writeResult_requests]
  unfold State.finished
  dsimp only
  rw [h]
  split
  · exact State.setChain_chain _ c _
  · exact State.setChain_chain _ c _

theorem Walked.told (s : State) {c : Chain} (x : ChainState) (tell : Bool) (hc : c ≠ .delivery) :
    Walked s (if tell then (s.setChain c x).raise (tellCause c) else s.setChain c x) c (entryBytes c) := by
  split
  · exact (Walked.setChain s x hc).trans (.raise _ c _ _)
  · exact .setChain s x hc

theorem Walked.finished (s : State) {c : Chain} {r : RecordInHand} {rep : Reply} (hc : c ≠ .delivery)
    (h : rep.FitsIn r.body.length) :
    Walked s (s.finished c r.offset r.tell rep) c (fun a => recordBytes r a ∨ entryBytes c a) :=
  ((Walked.writeResult s c r h).mono (fun _ => .inl)).trans ((Walked.told _ _ _ hc).mono (fun _ => .inr))

/-- Where the walker of a chain goes from a finished record (R193, R196). -/
def State.linkFollowed (s : State) (c : Chain) (r : RecordInHand) (stop : Bool) : State :=
  if stop then s.setChain c { s.chain c with phase := .off } else s.readLink c r.offset

theorem State.linkFollowed_of_stop (s : State) (c : Chain) (r : RecordInHand) :
    s.linkFollowed c r true = s.setChain c { s.chain c with phase := .off } := rfl

theorem State.linkFollowed_of_end {s : State} (c : Chain) {r : RecordInHand} (h : s.storeWord r.offset = 0) :
    s.linkFollowed c r false
      = s.setChain c { s.chain c with phase := .parked, current := BitVec.ofNat 32 r.offset, inHand := none } := by
  unfold State.linkFollowed State.readLink
  rw [if_neg (by decide)]
  dsimp only
  rw [if_pos h]

theorem State.linkFollowed_of_link {s : State} {c : Chain} {r : RecordInHand} (hc : c ≠ .delivery)
    (h : s.storeWord r.offset ≠ 0) : s.linkFollowed c r false = s.takeRecord c (s.storeWord r.offset) := by
  unfold State.linkFollowed State.readLink State.goTo
  rw [if_neg (by decide)]
  dsimp only
  rw [if_neg h, if_neg hc]

theorem Walked.linkFollowed (s : State) {c : Chain} (r : RecordInHand) (stop : Bool) (hc : c ≠ .delivery) :
    Walked s (s.linkFollowed c r stop) c (fun a => entryBytes c a
      ∨ (a = (s.storeWord r.offset).toNat + 4 ∧ s.recordFault (s.storeWord r.offset).toNat = .noFault)) := by
  cases stop
  · by_cases h : s.storeWord r.offset = 0
    · rw [State.linkFollowed_of_end c h]
      exact (Walked.setChain s _ hc).mono (fun _ => .inl)
    · rw [State.linkFollowed_of_link hc h]
      exact .takeRecord s _ hc
  · exact (Walked.setChain s _ hc).mono (fun _ => .inl)

/-! ### The answer -/

/-- A record that lies whole in record space. -/
structure RecordInHand.InSpace (r : RecordInHand) : Prop where
  good : goodOffset r.offset = true
  short : 32 + r.body.length ≤ 4096
  inside : r.offset + 32 + r.body.length ≤ storeEnd

theorem RecordInHand.InSpace.offset {r : RecordInHand} (h : r.InSpace) : r.offset % 64 = 0 ∧ 0x3000 ≤ r.offset :=
  have ⟨h1, h2, _⟩ := goodOffset_iff.mp h.good
  ⟨h1, h2⟩

theorem State.finish_eq_linkFollowed (s : State) (c : Chain) (r : RecordInHand) (rep : Reply) :
    s.finish c r.offset r.tell rep
      = (s.finished c r.offset r.tell rep).linkFollowed c r (s.chain c).stopping :=
  State.finish_eq s c r.offset r.tell rep

theorem State.finished_link (s : State) {c : Chain} {r : RecordInHand} {rep : Reply} (hc : c ≠ .delivery)
    (hr : r.InSpace) (h : rep.FitsIn r.body.length) :
    (s.finished c r.offset r.tell rep).storeWord r.offset = s.storeWord r.offset := by
  refine Memory.word_congr (fun a h1 h2 => (Walked.finished s hc h).bytes a ?_)
  have ⟨_, h3⟩ := hr.offset
  rintro (h4 | h4)
  · unfold recordBytes at h4; omega
  · have := entryBytes_lt h4; omega

/-- The finish of a record leaves the bytes that are neither the record's nor its chain's nor the next record's state. -/
theorem Walked.finish_record (s : State) {c : Chain} {r : RecordInHand} {rep : Reply} (hc : c ≠ .delivery)
    (hr : r.InSpace) (h : rep.FitsIn r.body.length) :
    Walked s (s.finish c r.offset r.tell rep) c (fun a => finishBytes s c r a = true) := by
  have hlink := State.finished_link s hc hr h
  rw [State.finish_eq_linkFollowed]
  refine ((Walked.finished s hc h).mono ?_).trans ((Walked.linkFollowed _ r _ hc).mono ?_)
  · rintro a (ha | ha)
    · unfold recordBytes at ha
      simp [finishBytes, ha.1, ha.2]
    · rcases ha with ha | ha <;> simp [finishBytes, ha.1, ha.2]
  · rintro a (ha | ⟨ha, -⟩)
    · rcases ha with ha | ha <;> simp [finishBytes, ha.1, ha.2]
    · rw [hlink] at ha
      simp [finishBytes, ha]

theorem State.finished_read (s : State) {c : Chain} (r : RecordInHand) (rep : Reply) {a : Nat} (hc : c ≠ .delivery)
    (ha : 0x3000 ≤ a) : (s.finished c r.offset r.tell rep).store.read a = (s.writeResult r.offset rep).store.read a :=
  (Walked.told _ _ _ hc).bytes a (fun h => by have := entryBytes_lt h; omega)

/-- The finished record is not marked NEW, so its chain does not take it again (R194). -/
theorem State.finished_recordFault {s : State} {c : Chain} {r : RecordInHand} (rep : Reply) (hc : c ≠ .delivery)
    (hr : r.InSpace) (hw : s.store.wf) : (s.finished c r.offset r.tell rep).recordFault r.offset ≠ .noFault := by
  intro h
  have hb := (State.recordFault_noFault h).2.2.2
  unfold State.recordByte at hb
  have ⟨_, h3⟩ := hr.offset
  rw [State.finished_read s r rep hc (by omega), State.writeResult_state r.offset rep hw] at hb
  revert hb
  cases rep.done <;> decide

/-- A byte of record space after the finish, but for the state byte of the record the link names (R195). -/
theorem State.finish_read {s : State} {c : Chain} {r : RecordInHand} {rep : Reply} {a : Nat} (hc : c ≠ .delivery)
    (hr : r.InSpace) (h : rep.FitsIn r.body.length) (hw : s.store.wf) (ha : 0x3000 ≤ a)
    (hy : (s.chain c).stopping = true ∨ s.storeWord r.offset = 0 ∨ a % 64 ≠ 4 ∨ a = r.offset + 4) :
    (s.finish c r.offset r.tell rep).store.read a = (s.writeResult r.offset rep).store.read a := by
  rw [State.finish_eq_linkFollowed, ← State.finished_read s r rep hc ha]
  have he : ¬ entryBytes c a := fun h => by have := entryBytes_lt h; omega
  have hlink := State.finished_link s hc hr h
  cases hstop : (s.chain c).stopping
  · by_cases hz : s.storeWord r.offset = 0
    · rw [State.linkFollowed_of_end c (hlink.trans hz)]
      exact (Walked.setChain _ _ hc).bytes a he
    · refine (Walked.linkFollowed _ r false hc).bytes a ?_
      rintro (h1 | ⟨h1, h2⟩)
      · exact he h1
      · have ⟨hg, _⟩ := goodOffset_iff.mp (State.recordFault_noFault h2).1
        rcases hy with hy | hy | hy | hy
        · simp [hstop] at hy
        · exact hz hy
        · omega
        · have hx : (State.storeWord (s.finished c r.offset r.tell rep) r.offset).toNat = r.offset := by omega
          rw [hx] at h2
          exact State.finished_recordFault rep hc hr hw h2
  · exact (Walked.setChain _ _ hc).bytes a he

theorem State.writeRecordState_read {s : State} (x : Nat) (k : RecordState) (hw : s.store.wf) :
    (s.writeRecordState x k).store.read (x + 4) = BitVec.ofNat 8 k.code := Memory.read_write_same _ _ hw

/-- Where a chain stands that has taken, or failed to take, the record at an offset (R194). -/
theorem WentTo.takeRecord {s : State} {c : Chain} {x : ChainState} (y : Word) (hc : c ≠ .delivery)
    (hx : s.chain c = x) (hw : s.store.wf) : WentTo (s.takeRecord c y) c x y := by
  have htaken := Walked.takeRecord s y hc
  have hfar : ∀ a, 0x3000 ≤ a → a ≠ y.toNat + 4 → (s.takeRecord c y).store.read a = s.store.read a := fun a h1 h2 =>
    htaken.bytes a (by
      rintro (h3 | h3)
      · have := entryBytes_lt h3; omega
      · exact h2 h3.1)
  unfold WentTo
  rw [if_neg hc]
  by_cases hf : s.recordFault y.toNat = .noFault
  · obtain ⟨hg, hl, he, -⟩ := State.recordFault_noFault hf
    have ⟨hm, hs, _⟩ := goodOffset_iff.mp hg
    have hr : (s.takeRecord c y).readRecord y.toNat = s.readRecord y.toNat :=
      State.readRecord_congr (fun a h1 _ => hfar a (by omega) (by omega))
    have hn : (s.takeRecord c y).bodyLength y.toNat = s.bodyLength y.toNat := by
      unfold State.bodyLength
      rw [Memory.readBytes_congr (fun a h1 _ => hfar a (by omega) (by omega))]
    have hch : (s.takeRecord c y).chain c
        = { x with phase := .running, current := y, inHand := some (s.readRecord y.toNat) } := by
      rw [State.takeRecord_of_noFault s c y hf, State.writeCurrent_chain, hx]
      exact State.setChain_chain _ c _
    have hb : (s.takeRecord c y).store.read (y.toNat + 4) = 2 := by
      rw [State.takeRecord_of_noFault s c y hf]
      have hstate : (s.writeRecordState y.toNat .taken).store.read (y.toNat + 4) = BitVec.ofNat 8 RecordState.taken.code :=
        State.writeRecordState_read _ _ hw
      refine (((Walked.setChain (s.writeRecordState y.toNat .taken) _ hc).trans (.writeCurrent _ c)).bytes _ ?_).trans hstate
      intro h; have := entryBytes_lt h; omega
    rw [if_pos (by rw [hch]), hr, hn]
    exact ⟨hch, hb, hg, hl, he⟩
  · have hch : (s.takeRecord c y).chain c = { x with
        phase := .faulted, current := y, fault := s.recordFault y.toNat, inHand := none, stopping := false } := by
      rw [State.takeRecord_of_fault s c y hf, State.faultChain_chain, hx]
    have hsame : (s.takeRecord c y).recordFault y.toNat = s.recordFault y.toNat := by
      refine State.recordFault_congr (fun hg a h1 _ => htaken.bytes a ?_)
      have ⟨hm, hs, _⟩ := goodOffset_iff.mp hg
      rintro (h3 | h3)
      · have := entryBytes_lt h3; omega
      · exact hf h3.2
    rw [if_neg (by rw [hch]; exact fun h => nomatch h), hsame]
    refine ⟨hch, hf, ?_⟩
    rw [State.takeRecord_of_fault s c y hf]
    exact State.faultChain_pending_fault s c y _

theorem State.takeRecord_running_iff (s : State) (c : Chain) (y : Word) :
    ((s.takeRecord c y).chain c).phase = .running ↔ s.recordFault y.toNat = .noFault := by
  by_cases hf : s.recordFault y.toNat = .noFault
  · refine ⟨fun _ => hf, fun _ => ?_⟩
    rw [State.takeRecord_of_noFault s c y hf, State.writeCurrent_chain, State.setChain_chain]
  · rw [State.takeRecord_of_fault s c y hf, State.faultChain_chain]
    exact ⟨fun h => (nomatch h), fun h => absurd h hf⟩

theorem GoneOn.of_finish {s u : State} {c : Chain} {r : RecordInHand} {rep : Reply} (hc : c ≠ .delivery) (hr : r.InSpace)
    (h : rep.FitsIn r.body.length) (hchain : u.chain c = s.chain c) (hw : u.store.wf)
    (hfar : ∀ a, 0x3000 ≤ a → u.store.read a = s.store.read a) :
    GoneOn s (u.finish c r.offset r.tell rep) c r := by
  have ⟨hm, hs⟩ := hr.offset
  have hword : u.storeWord r.offset = s.storeWord r.offset :=
    Memory.word_congr (fun a h1 _ => hfar a (by omega))
  have hlink := (State.finished_link u hc hr h).trans hword
  have hx := State.finished_chain u c r.offset r.tell rep
  have hwv := (Walked.finished u hc h).wf hw
  rw [hchain] at hx
  rw [State.finish_eq_linkFollowed, hchain]
  unfold GoneOn
  dsimp only
  by_cases hstop : (s.chain c).stopping = true
  · rw [if_pos hstop, hstop, State.linkFollowed_of_stop, State.setChain_chain, hx]
  · rw [if_neg hstop, Bool.eq_false_iff.mpr hstop]
    by_cases hz : s.storeWord r.offset = 0
    · rw [if_pos hz, State.linkFollowed_of_end c (hlink.trans hz), State.setChain_chain, hx]
    · rw [if_neg hz, State.linkFollowed_of_link hc (by rwa [hlink]), hlink]
      refine ⟨.takeRecord _ hc hx hwv, fun _ => ⟨fun hapart => ?_, fun heq => ?_⟩⟩
      · rw [State.takeRecord_running_iff, State.recordFault_congr (s := s)]
        intro hg a h1 h2
        have ⟨_, hs', _⟩ := goodOffset_iff.mp hg
        refine ((Walked.finished u hc h).bytes a ?_).trans (hfar a (by omega))
        rintro (h4 | h4)
        · unfold recordBytes at h4; omega
        · have := entryBytes_lt h4; omega
      · have hf : (u.finished c r.offset r.tell rep).recordFault (s.storeWord r.offset).toNat ≠ .noFault := by
          rw [heq]; exact State.finished_recordFault rep hc hr hw
        rw [State.takeRecord_of_fault _ c _ hf, State.faultChain_chain, heq]
        refine ⟨rfl, fun hlen => ?_⟩
        have hn : (u.finished c r.offset r.tell rep).bodyLength r.offset = r.body.length := by
          rw [← hlen]
          unfold State.bodyLength
          rw [Memory.readBytes_congr (fun a h1 h2 => ?_)]
          rw [State.finished_read u r rep hc (by omega)]
          refine Eq.trans ?_ (hfar a (by omega))
          unfold State.writeResult
          exact (((Walked.writeRecordState _ c _ _).bytes _ (by omega)).trans
            ((Walked.writeStore _ c _ _).bytes _ (by simp; omega))).trans
            (((Walked.writeStore _ c _ _).bytes _ (by simp; omega)).trans
              ((Walked.writeParts _ c _ _).bytes _ (by rintro ⟨p, _, h3, _⟩; omega)))
        show State.recordFault _ _ = _
        rw [heq] at hf
        unfold State.recordFault at hf ⊢
        rw [hr.good, hn] at hf ⊢
        have h1 := hr.short
        have h2 := hr.inside
        simp only [Bool.not_true, Bool.false_eq_true, if_false] at hf ⊢
        rw [if_neg (by omega)] at hf ⊢
        split at hf
        · rename_i hne
          rw [if_pos hne]
        · exact absurd rfl hf

/-- The finish of a record answers it: the effect of the request `u` keeps the chains and writes only its own bytes, below
record space (R195). -/
theorem Answered.of_finish {s u : State} {c : Chain} {r : RecordInHand} {rep : Reply} {own : Nat → Bool}
    (hc : c ≠ .delivery) (hr : r.InSpace) (h : rep.FitsIn r.body.length)
    (hchains : u.requests.chains = s.requests.chains) (hw : u.store.wf) (hown : ∀ a, own a = true → a < 0x3000)
    (hbytes : ∀ a, own a = false → u.store.read a = s.store.read a) :
    Answered s (u.finish c r.offset r.tell rep) c r rep own := by
  have hchain : ∀ d, u.chain d = s.chain d := fun d => by unfold State.chain; rw [hchains]
  have ⟨hm, hs⟩ := hr.offset
  have hfar : ∀ a, 0x3000 ≤ a → u.store.read a = s.store.read a := fun a ha =>
    hbytes a (Bool.eq_false_iff.mpr (fun ho => by have := hown a ho; omega))
  have hword : u.storeWord r.offset = s.storeWord r.offset := Memory.word_congr (fun a h1 _ => hfar a (by omega))
  have hmoved := Walked.finish_record u hc hr h
  have hfollowed := Walked.linkFollowed (u.finished c r.offset r.tell rep) r (u.chain c).stopping hc
  refine ⟨?_, ?_, ?_, ?_, ?_, ?_, ?_, ?_, ?_⟩
  · rw [State.finish_read hc hr h hw (by omega) (.inr (.inr (.inr rfl)))]
    exact State.writeResult_state r.offset rep hw
  · rw [State.finish_read hc hr h hw (by omega) (.inr (.inr (.inl (by omega))))]
    exact State.writeResult_code r.offset rep hw
  · rw [State.finish_read hc hr h hw (by omega) (.inr (.inr (.inl (by omega))))]
    exact State.writeResult_flags r.offset rep hw
  · intro hend p hp
    refine (Memory.readBytes_congr (fun a h1 h2 => State.finish_read hc hr h hw (by omega) ?_)).trans
      (State.writeResult_parts r.offset hw h.apart hp)
    rw [hchain, hword]
    exact hend.imp id .inl
  · have hx := State.finished_chain u c r.offset r.tell rep
    rw [State.finish_eq_linkFollowed, ← hchain]
    cases (u.chain c).stopping
    · by_cases hz : (u.finished c r.offset r.tell rep).storeWord r.offset = 0
      · rw [State.linkFollowed_of_end c hz, State.setChain_chain, hx]
      · rw [State.linkFollowed_of_link hc hz]
        by_cases hf : (u.finished c r.offset r.tell rep).recordFault
            ((u.finished c r.offset r.tell rep).storeWord r.offset).toNat = .noFault
        · rw [State.takeRecord_of_noFault _ c _ hf, State.writeCurrent_chain, State.setChain_chain]
          show ((u.finished c r.offset r.tell rep).chain c).done = _
          rw [hx]
        · rw [State.takeRecord_of_fault _ c _ hf, State.faultChain_chain, hx]
    · rw [State.linkFollowed_of_stop, State.setChain_chain, hx]
  · intro htell
    rw [State.finish_eq_linkFollowed]
    refine hfollowed.causes _ ?_
    unfold State.finished
    dsimp only
    rw [if_pos htell]
    exact State.raise_pending_cause _ _
  · exact .of_finish hc hr h (hchain c) hw hfar
  · exact fun d hd => (hmoved.others d hd).trans (hchain d)
  · intro a ha ho
    refine (hmoved.bytes a ?_).trans (hbytes a ho)
    unfold finishBytes at ha ⊢
    rw [hword, ha]
    exact Bool.false_ne_true

/-- An answer stays one through changes of the common store below record space that keep the Request Unit. -/
theorem Answered.mono {s t t' : State} {c : Chain} {r : RecordInHand} {rep : Reply} {own own' : Nat → Bool}
    (h : Answered s t c r rep own) (hc : c ≠ .delivery) (hr : r.InSpace) (hreq : t'.requests = t.requests)
    (hfar : ∀ a, 0x3000 ≤ a → t'.store.read a = t.store.read a)
    (hbytes : ∀ a, own' a = false → own a = false ∧ t'.store.read a = t.store.read a) :
    Answered s t' c r rep own' := by
  have ⟨hm, hs⟩ := hr.offset
  have hchain : ∀ d, t'.chain d = t.chain d := fun d => by unfold State.chain; rw [hreq]
  have hpend : ∀ d, t.Pending d → t'.Pending d := fun d hd => by unfold State.Pending; rwa [hreq]
  refine ⟨?_, ?_, ?_, ?_, ?_, ?_, ?_, ?_, ?_⟩
  · rw [hfar _ (by omega)]; exact h.state
  · rw [hfar _ (by omega)]; exact h.code
  · rw [hfar _ (by omega)]; exact h.flags
  · intro hend p hp
    exact (Memory.readBytes_congr (fun a h1 _ => hfar a (by omega))).trans (h.parts hend p hp)
  · rw [hchain]; exact h.done
  · exact fun ht => hpend _ (h.told ht)
  · have hg := h.goneOn
    unfold GoneOn at hg ⊢
    dsimp only at hg ⊢
    rw [hchain]
    split at hg
    · rename_i h1; rw [if_pos h1]; exact hg
    · rename_i h1
      rw [if_neg h1]
      split at hg
      · rename_i h2; rw [if_pos h2]; exact hg
      · rename_i h2
        rw [if_neg h2]
        refine ⟨?_, hg.2⟩
        have hgo := hg.1
        unfold WentTo at hgo ⊢
        rw [if_neg hc] at hgo ⊢
        rw [hchain]
        split at hgo
        · rename_i h3
          obtain ⟨h4, h5, h6, h7, h8⟩ := hgo
          have ⟨_, h9, _⟩ := goodOffset_iff.mp h6
          have hn : t'.bodyLength (s.storeWord r.offset).toNat = t.bodyLength (s.storeWord r.offset).toNat := by
            unfold State.bodyLength
            rw [Memory.readBytes_congr (fun a h1 _ => hfar a (by omega))]
          rw [if_pos h3, State.readRecord_congr (s := t) (fun a h1 _ => hfar a (by omega)), hn, hfar _ (by omega)]
          exact ⟨h4, h5, h6, h7, h8⟩
        · rename_i h3
          have hf : t'.recordFault (s.storeWord r.offset).toNat = t.recordFault (s.storeWord r.offset).toNat :=
            State.recordFault_congr (fun hg' a h1 _ => by
              have ⟨_, h9, _⟩ := goodOffset_iff.mp hg'
              exact hfar a (by omega))
          rw [if_neg h3, hf]
          exact ⟨hgo.1, hgo.2.1, hpend _ hgo.2.2⟩
  · exact fun d hd => (hchain d).trans (h.others d hd)
  · intro a ha ho
    obtain ⟨h1, h2⟩ := hbytes a ho
    exact h2.trans (h.bytes a ha h1)

end Sys2Proof.Machine
end

section
/-! PROOFS. A request carried out (R195): what its effect may write, the record's answer, the notices between two states, and
what the arbiter's runs may write of the common store. -/

namespace Sys2Proof.Machine

/-! ### What an effect writes -/

/-- Between two states a unit's effect has written the bytes of `own` only, left every chain and the clock, kept what is
pending, and posted nothing where the log is not among those bytes. -/
structure Writes (s u : State) (own : Nat → Bool) : Prop where
  chains : u.requests.chains = s.requests.chains
  clock : u.clock = s.clock
  causes : ∀ d : Cause, s.Pending d → u.Pending d
  wf : s.store.wf → u.store.wf
  bytes : ∀ a, own a = false → u.store.read a = s.store.read a
  log : own offWritten = false → u.requests.written = s.requests.written ∧ u.requests.accepted = s.requests.accepted
    ∧ u.requests.dropped = s.requests.dropped

theorem Writes.of_eq {s u : State} {own : Nat → Bool} (hs : u.store = s.store) (hr : u.requests = s.requests)
    (hc : u.clock = s.clock) : Writes s u own where
  chains := by rw [hr]
  clock := hc
  causes d h := by unfold State.Pending; rwa [hr]
  wf h := by rwa [hs]
  bytes _ _ := by rw [hs]
  log _ := by rw [hr]; exact ⟨rfl, rfl, rfl⟩

theorem Writes.refl (s : State) (own : Nat → Bool) : Writes s s own := .of_eq rfl rfl rfl

theorem Writes.trans {s t u : State} {own : Nat → Bool} (h : Writes s t own) (h' : Writes t u own) : Writes s u own where
  chains := h'.chains.trans h.chains
  clock := h'.clock.trans h.clock
  causes d hd := h'.causes d (h.causes d hd)
  wf hw := h'.wf (h.wf hw)
  bytes a ha := (h'.bytes a ha).trans (h.bytes a ha)
  log ho := by
    obtain ⟨h1, h2, h3⟩ := h.log ho
    obtain ⟨h4, h5, h6⟩ := h'.log ho
    exact ⟨h4.trans h1, h5.trans h2, h6.trans h3⟩

theorem Writes.mono {s u : State} {own own' : Nat → Bool} (h : Writes s u own) (ho : ∀ a, own a = true → own' a = true) :
    Writes s u own' :=
  have hn : ∀ a, own' a = false → own a = false := fun a ha => by
    by_contra hc
    rw [ho a (by simpa using hc)] at ha
    exact Bool.noConfusion ha
  { h with bytes := fun a ha => h.bytes a (hn a ha), log := fun hl => h.log (hn _ hl) }

theorem labelCountBytes_iff {a : Nat} : labelCountBytes a = true ↔ 0x58 ≤ a ∧ a < 0x6C := by
  simp [labelCountBytes]

theorem logBytes_iff {a : Nat} : logBytes a = true ↔ (0x28 ≤ a ∧ a < 0x30) ∨ (0x1000 ≤ a ∧ a < 0x3000) := by
  simp [logBytes]

theorem Writes.status {s u : State} {own : Nat → Bool} (h : Writes s u own) (o v : Nat)
    (ho : ∀ a, o ≤ a → a < o + 4 → own a = true) : Writes s (u.status o v) own where
  chains := h.chains
  clock := h.clock
  causes := h.causes
  wf hw := Memory.setWord_wf _ _ (h.wf hw)
  bytes a ha := by
    refine (Memory.read_setWord_outside u.store _ ?_).trans (h.bytes a ha)
    by_contra hc
    rw [ho a (by omega) (by omega)] at ha
    exact Bool.noConfusion ha
  log := h.log

theorem Writes.setDirectory {s u : State} (h : Writes s u labelCountBytes) (x : Table Label) :
    Writes s (u.setDirectory x) labelCountBytes := by
  have hs : Writes s (u.setLabels { u.labels with directory := x }) labelCountBytes := h.trans (.of_eq rfl rfl rfl)
  have hw : ∀ (t : State) (n v : Nat), n ≤ 16 → Writes s t labelCountBytes →
      Writes s (t.status (offLabelCounts + n) v) labelCountBytes := fun t n v hn ht =>
    ht.status _ v (fun a h1 h2 => labelCountBytes_iff.mpr (by unfold offLabelCounts at h1 h2; omega))
  unfold State.setDirectory
  dsimp only
  split
  · exact hs
  · unfold State.writeLabelCounts
    exact hw _ 16 _ (by omega) (hw _ 12 _ (by omega) (hw _ 8 _ (by omega) (hw _ 4 _ (by omega) (hw _ 0 _ (by omega) hs))))

theorem State.post_causes (s : State) (k : NoticeKind) (x d : Nat) (c : Cause) (h : s.Pending c) :
    (s.post k x d).Pending c := by
  have hr : ∀ (t u : State) (e : Cause), u.requests.causes = t.requests.causes → u.Pending c → (t.raise e).Pending c :=
    fun t u e ht hu => (Walked.raise t .setup e (fun _ => False)).causes c (by unfold State.Pending; rwa [← ht])
  have h0 : ∀ t : State, t.requests.causes = s.requests.causes → t.Pending c := fun t ht => by
    unfold State.Pending; rwa [ht]
  unfold State.post
  dsimp only
  split
  · split
    · exact hr _ _ _ rfl (hr _ _ _ rfl (h0 _ rfl))
    · exact hr _ s _ rfl h
  · exact h0 _ rfl

theorem Writes.post (s : State) (k : NoticeKind) (x d : Nat) : Writes s (s.post k x d) logBytes where
  chains := by
    rw [State.post_requests]
    dsimp only
    split <;> rfl
  clock := State.post_clock s k x d
  causes := State.post_causes s k x d
  wf := State.post_wf k x d
  bytes a ha := by
    have hn : ¬ ((0x28 ≤ a ∧ a < 0x30) ∨ (0x1000 ≤ a ∧ a < 0x3000)) := by rw [← logBytes_iff, ha]; exact Bool.false_ne_true
    exact State.post_read s k x d a (fun h => hn (.inl h)) (fun h => hn (.inr h))
  log h := absurd h (by decide)

/-! ### The log between two states -/

/-- Two states have the same notice log, read count and clock, and the second keeps NOTICE pending. -/
structure SameLog (s t : State) : Prop where
  written : t.requests.written = s.requests.written
  accepted : t.requests.accepted = s.requests.accepted
  dropped : t.requests.dropped = s.requests.dropped
  notice : s.Pending .notice → t.Pending .notice
  clock : t.clock = s.clock
  bytes : ∀ a, logBytes a = true → t.store.read a = s.store.read a
  offered : t.storeWord offReadCount = s.storeWord offReadCount

theorem SameLog.refl (s : State) : SameLog s s := ⟨rfl, rfl, rfl, fun h => h, rfl, fun _ _ => rfl, rfl⟩

theorem SameLog.trans {s t u : State} (h : SameLog s t) (h' : SameLog t u) : SameLog s u where
  written := h'.written.trans h.written
  accepted := h'.accepted.trans h.accepted
  dropped := h'.dropped.trans h.dropped
  notice hp := h'.notice (h.notice hp)
  clock := h'.clock.trans h.clock
  bytes a ha := (h'.bytes a ha).trans (h.bytes a ha)
  offered := h'.offered.trans h.offered

theorem Writes.sameLog {s u : State} (h : Writes s u labelCountBytes) : SameLog s u := by
  obtain ⟨h1, h2, h3⟩ := h.log (by decide)
  refine ⟨h1, h2, h3, h.causes _, h.clock, fun a ha => h.bytes a ?_, Memory.word_congr (fun a h4 h5 => h.bytes a ?_)⟩
  · rw [Bool.eq_false_iff]
    intro hc
    have := labelCountBytes_iff.mp hc
    have := logBytes_iff.mp ha
    omega
  · rw [Bool.eq_false_iff]
    intro hc
    have := labelCountBytes_iff.mp hc
    unfold offReadCount at h4
    omega

/-- A notice written is pending (R199, R201). -/
theorem State.post_pending_notice (s : State) (k : NoticeKind) (x d : Nat) (h : s.LogRoom) :
    (s.post k x d).Pending .notice := by
  unfold State.post
  dsimp only
  split
  · split
    · exact (Walked.raise _ .setup .logFull (fun _ => False)).causes .notice (State.raise_pending_cause _ _)
    · exact State.raise_pending_cause _ _
  · rename_i hn
    exact absurd h hn

/-- A post as R199 has it. -/
theorem Posted.post {s : State} (k : NoticeKind) (x d : Nat) (hw : s.store.wf) : Posted s (s.post k x d) k x d := by
  have hroom : (s.LogRoom) = (s.requests.written
      - acceptedRead s.requests.written s.requests.accepted (s.storeWord offReadCount) < 256) := rfl
  have hword : ∀ w : Word, BitVec.ofNat 32 w.toNat = w := fun w => by simp
  unfold Posted
  split
  · rename_i h
    rw [hroom] at h
    have hreq := State.post_requests s k x d
    have hst := State.post_store s k x d
    dsimp only at hreq hst
    rw [if_pos h] at hreq hst
    have hlen : (noticeBytes k x d s.clock.stamp).length = 32 := by simp [noticeBytes, zeros]
    refine ⟨?_, ?_, ?_, ?_, ?_, ?_⟩
    · rw [hreq]
    · rw [hreq]; rfl
    · rw [hreq]
    · rw [hst]
      refine (Memory.readBytes_congr (fun a h1 h2 => Memory.read_setWord_outside _ _ ?_)).trans ?_
      · unfold offWritten; unfold offLog at h1; omega
      · have hb := Memory.readBytes_writeBytes (offLog + 32 * (s.requests.written.toNat % 256))
          (noticeBytes k x d s.clock.stamp) hw
        rwa [hlen] at hb
    · unfold State.storeWord
      rw [hst, Memory.word_setWord _ _ (Memory.writeBytes_wf _ _ hw), hword]
    · exact State.post_pending_notice s k x d h
  · rename_i h
    rw [hroom] at h
    have hreq := State.post_requests s k x d
    have hst := State.post_store s k x d
    dsimp only at hreq hst
    rw [if_neg h] at hreq hst
    refine ⟨?_, ?_, ?_, ?_⟩
    · rw [hreq]
    · rw [hreq]; rfl
    · rw [hreq]
    · unfold State.storeWord
      rw [hst, Memory.word_setWord _ _ hw, hword]

/-- A post stays one when the state before it, or the one after it, is another with the same log. -/
theorem Posted.of_sameLog {s s' t t' : State} {k : NoticeKind} {x d : Nat} (h : Posted s t k x d) (hs : SameLog s' s)
    (ht : SameLog t t') : Posted s' t' k x d := by
  have hoff : s'.offeredRead = s.offeredRead := by
    unfold State.offeredRead
    rw [hs.written, hs.accepted, hs.offered]
  have hword : ∀ o, o = offWritten ∨ o = offDropped → t'.storeWord o = t.storeWord o := fun o ho =>
    Memory.word_congr (fun a h1 h2 => ht.bytes a (logBytes_iff.mpr (by unfold offWritten offDropped at ho; omega)))
  unfold Posted State.LogRoom NoticeWritten NoticeDropped at h ⊢
  rw [hoff, ← hs.written, ← hs.dropped, ← hs.clock, ht.written, ht.accepted, ht.dropped, hword _ (.inl rfl),
    hword _ (.inr rfl)]
  split at h
  · rename_i hr
    rw [if_pos hr]
    obtain ⟨h1, h2, h3, h4, h5, h6⟩ := h
    refine ⟨h1, h2, h3, ?_, h5, ht.notice h6⟩
    refine (Memory.readBytes_congr (fun a h7 h8 => ht.bytes a (logBytes_iff.mpr ?_))).trans h4
    unfold offLog at h7 h8
    omega
  · rename_i hr
    rw [if_neg hr]
    exact h

/-! ### The arbiter's runs and the common store -/

/-- The arbiter's runs write the label counts only (R78, R190). -/
theorem Writes.arbiterRun {s : State} (station fuel : Nat) :
    ∀ {t : State}, Writes s t labelCountBytes → Writes s (State.arbiterRun station fuel t) labelCountBytes := by
  have hleave : ∀ (t : State) (l : Label), Writes s t labelCountBytes → Writes s (t.leaveSet l) labelCountBytes := by
    intro t l h
    unfold State.leaveSet
    split
    · exact h.trans (.of_eq rfl rfl rfl)
    · split
      · exact h
      · exact h.trans (.of_eq rfl rfl rfl)
  have hput : ∀ (t : State) (l : Label), Writes s t labelCountBytes → Writes s (t.putLabel l) labelCountBytes :=
    fun t l h => h.setDirectory _
  induction fuel with
  | zero => exact fun h => h
  | succ n ih =>
    intro t h
    unfold State.arbiterRun
    split
    · exact h
    split
    · exact h
    split
    · exact h.trans (.of_eq rfl rfl rfl)
    split
    · exact ih (h.trans (.of_eq rfl rfl rfl))
    split
    · refine ih ?_
      unfold State.pickNothing
      dsimp only
      split
      · exact hput _ _ (hleave _ _ (h.trans (.of_eq rfl rfl rfl)))
      · exact hleave _ _ (h.trans (.of_eq rfl rfl rfl))
    split
    · exact h.trans (.of_eq rfl rfl rfl)
    split
    · exact h.trans (.of_eq rfl rfl rfl)
    · refine ih ?_
      unfold State.sendUpdate
      dsimp only
      have hoffer : ∀ (t : State) (p : Port) (f : Frame), Writes s t labelCountBytes →
          Writes s (t.offerOwn p f) labelCountBytes := by
        intro t p f h
        unfold State.offerOwn State.offer
        split
        · exact h.trans (.of_eq rfl rfl rfl)
        · exact h.trans (.of_eq rfl rfl rfl)
      unfold State.updateSent
      dsimp only
      split
      · exact hput _ _ (hleave _ _ (hoffer _ _ _ (h.trans (.of_eq rfl rfl rfl))))
      · exact hput _ _ (hleave _ _ (hoffer _ _ _ (h.trans (.of_eq rfl rfl rfl))))

theorem Writes.runArbiter {s t : State} (n : Nat) (h : Writes s t labelCountBytes) :
    Writes s (t.runArbiter n) labelCountBytes := by
  unfold State.runArbiter
  split
  · exact h
  · exact h.arbiterRun _ _

theorem Writes.bufferReturned {s t : State} (h : Writes s t labelCountBytes) :
    Writes s t.bufferReturned labelCountBytes := by
  unfold State.bufferReturned
  generalize t.link.table = bs
  induction bs generalizing t with
  | nil => exact h
  | cons b bs ih =>
    refine ih ?_
    dsimp only
    split
    · exact h
    · split
      · exact h.runArbiter _
      · exact h

theorem Writes.settle (s : State) : Writes s s.settle labelCountBytes := by
  unfold State.settle
  generalize s.link.due = cs
  have h : Writes s (s.setLink { s.link with due := [] }) labelCountBytes := .of_eq rfl rfl rfl
  revert h
  generalize s.setLink { s.link with due := [] } = t
  intro h
  induction cs generalizing t with
  | nil => exact h
  | cons c cs ih =>
    refine ih _ ?_
    cases c with
    | station id => exact h.runArbiter id
    | bufferReturned => exact h.bufferReturned

theorem State.settle_requests (s : State) : s.settle.requests = s.requests := (congrArg State.requests s.settle_only :)

/-! ### A record carried out -/

theorem InHand.inSpace {s : State} {c : Chain} {k : RequestKind} {r : RecordInHand} (h : InHand s c k r) : r.InSpace := by
  obtain ⟨-, -, -, -, -, hg, hs, hi⟩ := h
  exact ⟨hg, hs, hi⟩

theorem InHand.request {s : State} {c : Chain} {k : RequestKind} {r : RecordInHand} (h : InHand s c k r)
    (hk : k.code ∈ chainKinds c) (f : State → List Byte → State × Reply) :
    s.request c k f = (f s r.body).1.finish c r.offset r.tell (f s r.body).2 := by
  obtain ⟨-, -, hr, hcode, hlen, -⟩ := h
  unfold State.request State.carryOut
  rw [hr]
  dsimp only
  rw [if_neg (by rw [hcode]; exact not_not_intro hk), if_neg (not_not_intro hcode), if_neg (by omega), if_pos rfl]

theorem Walked.sameLog {s t : State} {c : Chain} (h : Walked s t c (fun a => 0x3000 ≤ a ∨ entryBytes c a))
    (hc : t.clock = s.clock) : SameLog s t := by
  refine ⟨h.written, h.accepted, h.dropped, h.causes _, hc, fun a ha => h.bytes a ?_,
    Memory.word_congr (fun a h1 h2 => h.bytes a ?_)⟩
  · have := logBytes_iff.mp ha
    rintro (h1 | h1)
    · omega
    · have := entryBytes_lt h1; omega
  · unfold offReadCount at h1 h2
    rintro (h3 | h3)
    · omega
    · have := entryBytes_lt h3; omega

theorem Walked.finish_space (s : State) {c : Chain} {r : RecordInHand} {rep : Reply} (hc : c ≠ .delivery)
    (hr : r.InSpace) (h : rep.FitsIn r.body.length) :
    Walked s (s.finish c r.offset r.tell rep) c (fun a => 0x3000 ≤ a ∨ entryBytes c a) := by
  have ⟨_, hs⟩ := hr.offset
  rw [State.finish_eq_linkFollowed]
  refine ((Walked.finished s hc h).mono ?_).trans ((Walked.linkFollowed _ r _ hc).mono ?_)
  · rintro a (ha | ha)
    · unfold recordBytes at ha; exact .inl (by omega)
    · exact .inr ha
  · rintro a (ha | ⟨ha, hf⟩)
    · exact .inr ha
    · have ⟨_, h1, _⟩ := goodOffset_iff.mp (State.recordFault_noFault hf).1
      exact .inl (by omega)

/-- A request of a chain is answered, its effect `u` having written its own bytes only; the arbiter has not run yet. -/
theorem InHand.answers {s u : State} {c : Chain} {k : RequestKind} {r : RecordInHand} (h : InHand s c k r)
    (hk : k.code ∈ chainKinds c) (hc : c ≠ .delivery) {f : State → List Byte → State × Reply} {rep : Reply}
    {own : Nat → Bool} (hf : f s r.body = (u, rep)) (hu : Writes s u own) (hown : ∀ a, own a = true → a < 0x3000)
    (hfit : rep.FitsIn r.body.length) :
    (s.request c k f).withLogOf u = u ∧ SameLog u (s.request c k f) ∧ Answered s (s.request c k f) c r rep own := by
  rw [h.request hk f, hf]
  have hr := h.inSpace
  have hmoved := Walked.finish_space u hc hr hfit
  exact ⟨hmoved.frame, hmoved.sameLog (State.finish_clock ..),
    .of_finish hc hr hfit hu.chains (hu.wf h.1.2.1.1) hown hu.bytes⟩

/-- The same once the arbiter's runs are made, of which the label counts may tell. -/
theorem InHand.settles {s u : State} {c : Chain} {k : RequestKind} {r : RecordInHand} (h : InHand s c k r)
    (hk : k.code ∈ chainKinds c) (hc : c ≠ .delivery) {f : State → List Byte → State × Reply} {rep : Reply}
    {own : Nat → Bool} (hf : f s r.body = (u, rep)) (hu : Writes s u own) (hown : ∀ a, own a = true → a < 0x3000)
    (hlabels : ∀ a, labelCountBytes a = true → own a = true) (hfit : rep.FitsIn r.body.length) :
    ∃ w, s.request c k f = w ∧ w.withLogOf u = u ∧ SameLog u w.settle ∧ Answered s w.settle c r rep own := by
  obtain ⟨h1, h2, h3⟩ := h.answers hk hc hf hu hown hfit
  have hset := Writes.settle (s.request c k f)
  refine ⟨_, rfl, h1, h2.trans hset.sameLog, h3.mono hc h.inSpace (State.settle_requests _) ?_ ?_⟩
  · intro a ha
    refine hset.bytes a (Bool.eq_false_iff.mpr (fun hb => ?_))
    have := labelCountBytes_iff.mp hb
    omega
  · intro a ha
    refine ⟨ha, hset.bytes a (Bool.eq_false_iff.mpr (fun hb => ?_))⟩
    rw [hlabels a hb] at ha
    exact Bool.noConfusion ha

/-- A request that asks for no arbiter run. -/
theorem InHand.replies {s u : State} {c : Chain} {k : RequestKind} {r : RecordInHand} (h : InHand s c k r)
    (hk : k.code ∈ chainKinds c) (hc : c ≠ .delivery) {f : State → List Byte → State × Reply} {rep : Reply}
    {own : Nat → Bool} (hf : f s r.body = (u, rep)) (hu : Writes s u own) (hown : ∀ a, own a = true → a < 0x3000)
    (hdue : u.link.due = []) (hfit : rep.FitsIn r.body.length) :
    ∃ t, (s.request c k f).settle = t ∧ t.withLogOf u = u ∧ SameLog u t ∧ Answered s t c r rep own := by
  obtain ⟨h1, h2, h3⟩ := h.answers hk hc hf hu hown hfit
  refine ⟨_, State.settle_of_none _ ?_, h1, h2, h3⟩
  have hl : (s.request c k f).link = u.link := (congrArg State.link h1 :)
  rw [hl, hdue]

/-- A request that changes nothing but its record. -/
theorem InHand.refuses {s : State} {c : Chain} {k : RequestKind} {r : RecordInHand} (h : InHand s c k r)
    (hk : k.code ∈ chainKinds c) (hc : c ≠ .delivery) {f : State → List Byte → State × Reply} {rep : Reply}
    (hf : f s r.body = (s, rep)) (hfit : rep.FitsIn r.body.length) :
    ∃ t, (s.request c k f).settle = t ∧ t.withLogOf s = s ∧ Answered s t c r rep noBytes := by
  obtain ⟨t, h1, h2, -, h3⟩ := h.replies hk hc hf (.refl s noBytes) (fun a ha => Bool.noConfusion ha) h.1.2.2 hfit
  exact ⟨t, h1, h2, h3⟩

theorem Reply.fitsIn_of_no_parts {rep : Reply} (h : rep.parts = []) (n : Nat) : rep.FitsIn n :=
  ⟨fun p hp => (by rw [h] at hp; cases hp), (by rw [h]; exact .nil)⟩

theorem Reply.fitsIn_of_one_part {rep : Reply} {o : Nat} {b : List Byte} {n : Nat} (h : rep.parts = [(o, b)])
    (hn : o + b.length ≤ n) : rep.FitsIn n := by
  refine ⟨fun p hp => ?_, by rw [h]; exact List.pairwise_singleton ..⟩
  rw [h, List.mem_singleton] at hp
  rw [hp]
  exact hn

end Sys2Proof.Machine
end

section
/-! PROOFS. The read requests (R26, R75, R92, R153, R162, R212): the images as rows of fields, and O30. -/

namespace Sys2Proof.Machine

/-- A row's state when the part is powered. -/
theorem powered_next {s t x : State} (h : s.powered = true) (ht : x = t) :
    (Host.Outcome.next (if s.powered then x else s) : Host.Outcome State Fault Refusal) = .next t := by
  rw [if_pos h, ht]

/-! ### Rows of fields -/

/-- Fields one after the other, each with its width and value. -/
def packed (fs : List (Nat × Nat)) : List Byte := fs.flatMap (fun f => leBytes f.1 f.2)

/-- The fields of a row, each with the offset it stands at when the row starts at an offset. -/
def placed : Nat → List (Nat × Nat) → List (Nat × Nat × Nat)
  | _, [] => []
  | o, f :: fs => (o, f.1, f.2) :: placed (o + f.1) fs

theorem packed_cons (f : Nat × Nat) (fs : List (Nat × Nat)) : packed (f :: fs) = leBytes f.1 f.2 ++ packed fs := rfl

theorem packed_nil : packed [] = [] := rfl

theorem packed_append (fs gs : List (Nat × Nat)) : packed (fs ++ gs) = packed fs ++ packed gs := List.flatMap_append

theorem packed_length (fs : List (Nat × Nat)) : (packed fs).length = (fs.map Prod.fst).sum := by
  induction fs with
  | nil => rfl
  | cons f fs ih => rw [packed_cons, List.length_append, leBytes_length, ih, List.map_cons, List.sum_cons]

theorem leBytes_zero (n : Nat) : leBytes n 0 = zeros n := by
  induction n with
  | zero => rfl
  | succ n ih => rw [leBytes, Nat.zero_div, ih]; rfl

theorem leField_append (p : List Byte) (w v : Nat) (q : List Byte) :
    leField (p ++ (leBytes w v ++ q)) p.length w = v % 256 ^ w := by
  unfold leField fieldBytes
  rw [List.drop_left, List.take_left' (leBytes_length w v), leNat_leBytes]

/-- Every field of a row stands at its offset, whatever stands before and behind the row. -/
theorem fieldsAre_placed (p : List Byte) (fs : List (Nat × Nat)) (q : List Byte) :
    FieldsAre (p ++ (packed fs ++ q)) (placed p.length fs) := by
  induction fs generalizing p with
  | nil => intro f hf; cases hf
  | cons f fs ih =>
    intro g hg
    rw [packed_cons, List.append_assoc]
    rcases List.mem_cons.mp hg with rfl | hg
    · exact leField_append p f.1 f.2 _
    · have := ih (p ++ leBytes f.1 f.2)
      rw [List.append_assoc, List.length_append, leBytes_length] at this
      exact this g hg

theorem fieldsAre_packed {p : List Byte} {fs : List (Nat × Nat)} {o : Nat} {gs : List (Nat × Nat × Nat)}
    (ho : p.length = o) (h : placed o fs = gs) : FieldsAre (p ++ packed fs) gs := by
  have := fieldsAre_placed p fs []
  rwa [List.append_nil, ho, h] at this

theorem fieldsAre_of_packed {fs : List (Nat × Nat)} {gs : List (Nat × Nat × Nat)} (h : placed 0 fs = gs) :
    FieldsAre (packed fs) gs := fieldsAre_packed (p := []) rfl h

/-! ### The item image -/

/-- A base price and an optional promotion as fields of an item image. -/
def changeFields (base : Nat) (p : Option Promotion) : List (Nat × Nat) :=
  [(4, base), (4, (p.map Promotion.t).getD 0), (1, (p.map Promotion.n).getD 0), (3, 0)]

/-- A version, if there is one, as fields of an item image. -/
def versionFields (v : Option Version) : List (Nat × Nat) :=
  (4, (v.map Version.number).getD 0) :: changeFields ((v.map Version.base).getD 0) (v.bind Version.promo)

theorem packed_changeFields (base : Nat) (p : Option Promotion) :
    packed (changeFields base p) = leBytes 4 base ++ promoStored p ++ zeros 3 := by
  cases p with
  | none => simp [packed, changeFields, promoStored, leBytes_zero, zeros, List.append_assoc]
  | some p => simp [packed, changeFields, promoStored, leBytes_zero, List.append_assoc]

theorem packed_versionFields (v : Option Version) : packed (versionFields v) = versionStored v := by
  rw [versionFields, packed_cons, packed_changeFields]
  cases v with
  | none => rfl
  | some v => simp [versionStored, List.append_assoc]

theorem packed_waitingFields (w : Option WaitingChange) :
    packed (changeFields ((w.map WaitingChange.base).getD 0) (w.bind WaitingChange.promo)) = waitingStored w := by
  rw [packed_changeFields]
  cases w with
  | none => rfl
  | some w => simp [waitingStored]

/-- The fields of an item image behind its text. -/
def Item.fields (i : Item) : List (Nat × Nat) :=
  [(1, i.saleKind.code), (1, i.measure.code), (1, i.state.code), (2, i.textRevision), (2, i.refQty), (4, i.packQty),
    (4, i.lastVersion), (4, i.origin), (1, i.outstanding), (1, i.staleCount), (1, i.labels.length), (1, i.presence)]
  ++ versionFields (some i.current) ++ versionFields i.pending
  ++ changeFields ((i.waiting.map WaitingChange.base).getD 0) (i.waiting.bind WaitingChange.promo)
  ++ (List.range 8).map (fun k => (4, i.labels.getD k 0))

theorem Item.image_eq (i : Item) : i.image = textField i.text ++ packed i.fields := by
  unfold Item.image Item.fields
  rw [packed_append, packed_append, packed_append, packed_append, packed_versionFields, packed_versionFields,
    packed_waitingFields]
  simp only [packed, List.flatMap_cons, List.flatMap_nil, List.append_nil, List.append_assoc, List.flatMap_map]

theorem textField_eq {text : List Byte} (h : text.length ≤ 24) :
    textField text = leBytes 1 text.length ++ text ++ zeros (24 - text.length) := by
  unfold textField
  rw [List.take_of_length_le h]
  rfl

theorem textField_length (text : List Byte) : (textField text).length = 25 := by
  simp [textField, zeros]
  omega

theorem Item.image_length (i : Item) : i.image.length = 124 := by
  rw [i.image_eq, List.length_append, textField_length, packed_length]
  have h8 : (List.map Prod.fst ((List.range 8).map (fun k => (4, i.labels.getD k 0)))).sum = 32 := by
    rw [List.map_map]
    rfl
  simp only [Item.fields, versionFields, changeFields, List.map_append, List.map_cons, List.map_nil, List.sum_append,
    List.sum_cons, List.sum_nil, h8, Nat.reduceAdd]

theorem Item.state_code (i : Item) :
    i.state.code = if i.pending = none then 0 else if i.staleCount = 0 then 1 else 2 := by
  unfold Item.state
  cases i.pending with
  | none => rfl
  | some v => dsimp only; split <;> simp_all [ItemState.code]

theorem Item.presence_eq (i : Item) : i.presence = i.pending.isSome.toNat + 2 * i.waiting.isSome.toNat
    + 4 * ((i.waiting.map WaitingChange.queried).getD false).toNat := by
  unfold Item.presence flagByte flagByte flagByte flagByte
  omega

/-! ### The label image -/

/-- The fields of a label image. -/
def State.labelFields (s : State) (l : Label) : List (Nat × Nat) :=
  [(1, l.phase.code), (1, l.presence), (1, l.staleReason.code), (1, l.attempts), (8, l.article.getD 0), (1, l.template),
    (1, l.battery), (1, l.signal), (1, s.waitingPlace l), (2, l.home.getD 0), (2, optField l.confirmed Confirmed.textRevision),
    (8, l.lastHeard), (4, optField l.confirmed Confirmed.version), (1, optField l.confirmed Confirmed.template),
    (1, optField l.inFlight (fun u => u.kind.code)), (1, optField l.inFlight InFlightUpdate.template), (1, 0),
    (4, optField l.inFlight InFlightUpdate.tag), (4, optField l.inFlight InFlightUpdate.version),
    (2, optField l.inFlight InFlightUpdate.textRevision), (2, optField l.inFlight InFlightUpdate.station),
    (4, s.targetNumber l)]

theorem State.labelImage_eq (s : State) (l : Label) : s.labelImage l = packed (s.labelFields l) := by
  unfold State.labelImage State.labelFields
  rw [← leBytes_zero]
  simp only [packed_cons, packed_nil, List.append_nil, List.append_assoc]

theorem Label.presence_eq (l : Label) : l.presence = l.article.isSome.toNat + 2 * l.home.isSome.toNat
    + 4 * l.confirmed.isSome.toNat + 8 * l.inFlight.isSome.toNat + 16 * l.again.toNat + 32 * l.blankDue.toNat := by
  simp only [Label.presence, flagByte]
  omega

theorem State.waitingPlace_eq (s : State) (l : Label) : s.waitingPlace l =
    if l.id ∈ s.labels.homeless then 2 else if ∃ b ∈ s.link.table, l.id ∈ b.ready then 1 else 0 := by
  simp [State.waitingPlace]

theorem State.targetNumber_eq (s : State) (l : Label) : s.targetNumber l = ((l.article.bind s.item).map (fun i =>
    if l.phase = .unbinding then 0 else (i.pending.getD i.current).number)).getD 0 := by
  unfold State.targetNumber
  cases l.article.bind s.item with
  | none => rfl
  | some i => rfl

/-! ### The journal state and the counts -/

/-- The fields of the journal state. -/
def Journal.fields (j : Journal) : List (Nat × Nat) :=
  [(1, j.backedState.code), (1, j.fresh.toNat), (1, j.side.code), (1, j.append.isSome.toNat), (4, j.acked), (4, j.acked + 1),
    (4, j.next), (4, j.entries), (4, j.used), (4, j.freeUnits), (4, j.alertLevel), (4, j.queue.length)]

theorem Journal.image_eq (j : Journal) : j.image = packed j.fields := by
  simp only [Journal.image, packed, Journal.fields, List.flatMap_cons, List.flatMap_nil, List.append_nil, List.append_assoc]

/-- The seven counters of a port as fields. -/
def PortCounters.fields (c : PortCounters) : List (Nat × Nat) :=
  [(4, c.framesIn.toNat), (4, c.framesOut.toNat), (4, c.noBuffer.toNat), (4, c.queueCap.toNat), (4, c.policy.toNat),
    (4, c.guest.toNat), (4, c.unknown.toNat)]

theorem PortCounters.bytes_eq (c : PortCounters) : c.bytes = packed c.fields := by
  simp only [PortCounters.bytes, packed, PortCounters.fields, List.flatMap_cons, List.flatMap_nil, List.append_nil,
    List.append_assoc]

theorem PortCounters.bytes_length (c : PortCounters) : c.bytes.length = 28 := by
  rw [c.bytes_eq, packed_length]
  rfl

/-- The ports before and behind a port. -/
theorem Port.all_split (p : Port) : ∃ xs ys, Port.all = xs ++ p :: ys ∧ xs.length = Port.index p := by
  cases p
  · exact ⟨[], [.p1, .p2, .p3, .p4], rfl, rfl⟩
  · exact ⟨[.p0], [.p2, .p3, .p4], rfl, rfl⟩
  · exact ⟨[.p0, .p1], [.p3, .p4], rfl, rfl⟩
  · exact ⟨[.p0, .p1, .p2], [.p4], rfl, rfl⟩
  · exact ⟨[.p0, .p1, .p2, .p3], [], rfl, rfl⟩

theorem State.counters_length (s : State) (ps : List Port) :
    (ps.flatMap (fun p => (s.port p).counters.bytes)).length = 28 * ps.length := by
  induction ps with
  | nil => rfl
  | cons p ps ih => rw [List.flatMap_cons, List.length_append, ih, PortCounters.bytes_length, List.length_cons]; omega

/-- Each counter of a port stands at its offset of the counts (R162, R212). -/
theorem State.countsImage_fields (s : State) (p : Port) :
    FieldsAre s.countsImage (placed (28 * Port.index p) (s.port p).counters.fields) := by
  obtain ⟨xs, ys, hall, hlen⟩ := Port.all_split p
  unfold State.countsImage
  rw [hall, List.flatMap_append, List.flatMap_cons, PortCounters.bytes_eq, ← hlen, ← s.counters_length]
  exact fieldsAre_placed _ _ _

/-- A port's counters cleared (R162). -/
def State.clearPort (s : State) (p : Port) : State := s.setPort p { s.port p with counters := .zero }

theorem State.port_clearPort (s : State) (p q : Port) :
    (s.clearPort p).port q = if q = p then { s.port q with counters := PortCounters.zero } else s.port q := by
  split
  · rename_i h
    rw [h]
    exact PerPort.get_set_same _ _ _
  · rename_i h
    exact PerPort.get_set_other _ _ h

theorem State.clearPorts_frame (ps : List Port) (s t : State) (h : t.setNet s.net = s)
    (hn : { t.net with ports := s.net.ports } = s.net) :
    (ps.foldl State.clearPort t).setNet s.net = s
      ∧ { (ps.foldl State.clearPort t).net with ports := s.net.ports } = s.net := by
  induction ps generalizing t with
  | nil => exact ⟨h, hn⟩
  | cons p ps ih => exact ih _ h hn

theorem State.port_clearPorts (ps : List Port) (s : State) (q : Port) :
    (ps.foldl State.clearPort s).port q
      = if q ∈ ps then { s.port q with counters := PortCounters.zero } else s.port q := by
  induction ps generalizing s with
  | nil => rfl
  | cons p ps ih =>
    rw [List.foldl_cons, ih, State.port_clearPort]
    by_cases hq : q = p <;> simp [hq]

theorem State.clearCounts_eq (s : State) : s.clearCounts = Port.all.foldl State.clearPort s := rfl

theorem State.port_clearCounts (s : State) (p : Port) :
    s.clearCounts.port p = { s.port p with counters := PortCounters.zero } := by
  rw [State.clearCounts_eq, State.port_clearPorts, if_pos]
  cases p <;> decide

theorem State.clearCounts_frame (s : State) :
    s.clearCounts.setNet s.net = s ∧ { s.clearCounts.net with ports := s.net.ports } = s.net :=
  State.clearPorts_frame Port.all s s rfl rfl

end Sys2Proof.Machine
end

section
/-! PROOFS. The read requests carried out (R26, R75, R92, R153, R162, R212): O30. -/

namespace Sys2Proof.Machine

/-! ### Where the fields of the images stand -/

theorem placed_append (o : Nat) (fs gs : List (Nat × Nat)) :
    placed o (fs ++ gs) = placed o fs ++ placed (o + (fs.map Prod.fst).sum) gs := by
  induction fs generalizing o with
  | nil => rfl
  | cons f fs ih =>
    rw [List.cons_append, placed, placed, ih, List.map_cons, List.sum_cons, ← Nat.add_assoc]
    rfl

/-- Each field of an item image at its offset (R212). -/
theorem Item.image_fields (i : Item) :
    let change : Nat → Nat → Option Promotion → List (Nat × Nat × Nat) := fun off base p => [(off, 4, base),
      (off + 4, 4, (p.map Promotion.t).getD 0), (off + 8, 1, (p.map Promotion.n).getD 0), (off + 9, 3, 0)]
    let version : Nat → Option Version → List (Nat × Nat × Nat) := fun off v =>
      (off, 4, (v.map Version.number).getD 0) :: change (off + 4) ((v.map Version.base).getD 0) (v.bind Version.promo)
    FieldsAre i.image ([(25, 1, i.saleKind.code), (26, 1, i.measure.code),
      (27, 1, if i.pending = none then 0 else if i.staleCount = 0 then 1 else 2), (28, 2, i.textRevision),
      (30, 2, i.refQty), (32, 4, i.packQty), (36, 4, i.lastVersion), (40, 4, i.origin), (44, 1, i.outstanding),
      (45, 1, i.staleCount), (46, 1, i.labels.length),
      (47, 1, i.pending.isSome.toNat + 2 * i.waiting.isSome.toNat
        + 4 * ((i.waiting.map WaitingChange.queried).getD false).toNat)]
      ++ version 48 (some i.current) ++ version 64 i.pending
      ++ change 80 ((i.waiting.map WaitingChange.base).getD 0) (i.waiting.bind WaitingChange.promo)
      ++ (List.range 8).map (fun k => (92 + 4 * k, 4, i.labels.getD k 0))) := by
  intro change version
  rw [i.image_eq, ← i.state_code, ← i.presence_eq]
  refine fieldsAre_packed (textField_length _) ?_
  unfold Item.fields versionFields
  simp only [placed_append, placed, changeFields, List.map_append, List.map_cons, List.map_nil,
    List.sum_append, List.sum_cons, List.sum_nil, Nat.reduceAdd]
  rfl

/-- Each field of a label image at its offset (R212). -/
theorem State.labelImage_fields (s : State) (l : Label) :
    let shown := fun f : Confirmed → Nat => (l.confirmed.map f).getD 0
    let sent := fun f : InFlightUpdate → Nat => (l.inFlight.map f).getD 0
    let target := ((l.article.bind s.item).map (fun i =>
      if l.phase = .unbinding then 0 else (i.pending.getD i.current).number)).getD 0
    FieldsAre (s.labelImage l) [(0, 1, l.phase.code),
      (1, 1, l.article.isSome.toNat + 2 * l.home.isSome.toNat + 4 * l.confirmed.isSome.toNat
        + 8 * l.inFlight.isSome.toNat + 16 * l.again.toNat + 32 * l.blankDue.toNat),
      (2, 1, l.staleReason.code), (3, 1, l.attempts), (4, 8, l.article.getD 0), (12, 1, l.template),
      (13, 1, l.battery), (14, 1, l.signal),
      (15, 1, if l.id ∈ s.labels.homeless then 2 else if ∃ b ∈ s.link.table, l.id ∈ b.ready then 1 else 0),
      (16, 2, l.home.getD 0), (18, 2, shown Confirmed.textRevision), (20, 8, l.lastHeard),
      (28, 4, shown Confirmed.version), (32, 1, shown Confirmed.template), (33, 1, sent (fun u => u.kind.code)),
      (34, 1, sent InFlightUpdate.template), (35, 1, 0), (36, 4, sent InFlightUpdate.tag),
      (40, 4, sent InFlightUpdate.version), (44, 2, sent InFlightUpdate.textRevision),
      (46, 2, sent InFlightUpdate.station), (48, 4, target)] := by
  intro shown sent target
  rw [s.labelImage_eq, ← l.presence_eq, ← s.waitingPlace_eq]
  refine fieldsAre_of_packed ?_
  unfold State.labelFields
  rw [s.targetNumber_eq]
  rfl

theorem State.labelImage_length (s : State) (l : Label) : (s.labelImage l).length = 52 := by
  rw [s.labelImage_eq, packed_length]
  simp only [State.labelFields, List.map_cons, List.map_nil, List.sum_cons, List.sum_nil, Nat.reduceAdd]

/-- Each field of the journal state at its offset (R212). -/
theorem Journal.image_fields (j : Journal) : FieldsAre j.image [(0, 1, match j.backedState with
      | .unwritten => 0
      | .kept => 1
      | .formatted => 2), (1, 1, j.fresh.toNat), (2, 1, if j.side = .above then 1 else 0),
    (3, 1, j.append.isSome.toNat), (4, 4, j.acked), (8, 4, j.acked + 1), (12, 4, j.next), (16, 4, j.next - 1 - j.acked),
    (20, 4, j.used), (24, 4, 114688 - j.used - (j.append.map Append.reserved).getD 0), (28, 4, j.alertLevel),
    (32, 4, j.queue.length)] := by
  have hs : j.side.code = if j.side = .above then 1 else 0 := by cases j.side <;> rfl
  have hb : j.backedState.code = match j.backedState with
      | .unwritten => 0
      | .kept => 1
      | .formatted => 2 := by cases j.backedState <;> rfl
  rw [j.image_eq, ← hs]
  refine fieldsAre_of_packed ?_
  unfold Journal.fields
  rw [hb]
  rfl

theorem Journal.image_length (j : Journal) : j.image.length = 36 := by
  rw [j.image_eq, packed_length]
  rfl

theorem State.countsImage_length (s : State) : s.countsImage.length = 140 := s.counters_length Port.all

/-! ### The requests -/

theorem flagCode_eq (n : Nat) : flagCode n = if n = 0 then some false else if n = 1 then some true else none := by
  match n with
  | 0 => rfl
  | 1 => rfl
  | n + 2 => rfl

section
variable {s : State} {r : RecordInHand}

theorem readItem_absent (h : InHand s .price Kind.readItem r) (hi : s.item (leField r.body 0 8) = none) :
    ∃ t, exec .readItem s = .next t ∧ t.withLogOf s = s ∧ Answered s t .price r (.plain .notFound []) noBytes := by
  have hf : readItemBody s r.body = (s, .plain .notFound []) := by unfold readItemBody; rw [hi]
  obtain ⟨t, ht, h1, h2⟩ := h.refuses (by decide) (by decide) hf (Reply.fitsIn_of_no_parts rfl _)
  exact ⟨t, powered_next h.1.1 ht, h1, h2⟩

theorem readItem_short {i : Item} (h : InHand s .price Kind.readItem r) (hi : s.item (leField r.body 0 8) = some i)
    (hn : r.body.length < 132) :
    ∃ t, exec .readItem s = .next t ∧ t.withLogOf s = s ∧ Answered s t .price r (.plain .shortRecord []) noBytes := by
  have hf : readItemBody s r.body = (s, .plain .shortRecord []) := by
    unfold readItemBody; rw [hi]; dsimp only; rw [if_pos (by omega)]
  obtain ⟨t, ht, h1, h2⟩ := h.refuses (by decide) (by decide) hf (Reply.fitsIn_of_no_parts rfl _)
  exact ⟨t, powered_next h.1.1 ht, h1, h2⟩

theorem readItem_image {i : Item} (h : InHand s .price Kind.readItem r) (hi : s.item (leField r.body 0 8) = some i)
    (hn : 132 ≤ r.body.length) :
    ∃ t, exec .readItem s = .next t ∧ t.withLogOf s = s ∧ Answered s t .price r (.plain .ok [(8, i.image)]) noBytes := by
  have hf : readItemBody s r.body = (s, .plain .ok [(8, i.image)]) := by
    unfold readItemBody; rw [hi]; dsimp only; rw [if_neg (by omega)]
  obtain ⟨t, ht, h1, h2⟩ := h.refuses (by decide) (by decide) hf
    (Reply.fitsIn_of_one_part rfl (by rw [i.image_length]; omega))
  exact ⟨t, powered_next h.1.1 ht, h1, h2⟩

theorem readLabel_absent (h : InHand s .label Kind.readLabel r) (hl : s.label (leField r.body 0 4) = none) :
    ∃ t, exec .readLabel s = .next t ∧ t.withLogOf s = s ∧ Answered s t .label r (.plain .notFound []) noBytes := by
  have hf : readLabelBody s r.body = (s, .plain .notFound []) := by unfold readLabelBody; rw [hl]
  obtain ⟨t, ht, h1, h2⟩ := h.refuses (by decide) (by decide) hf (Reply.fitsIn_of_no_parts rfl _)
  exact ⟨t, powered_next h.1.1 ht, h1, h2⟩

theorem readLabel_short {l : Label} (h : InHand s .label Kind.readLabel r) (hl : s.label (leField r.body 0 4) = some l)
    (hn : r.body.length < 56) :
    ∃ t, exec .readLabel s = .next t ∧ t.withLogOf s = s ∧ Answered s t .label r (.plain .shortRecord []) noBytes := by
  have hf : readLabelBody s r.body = (s, .plain .shortRecord []) := by
    unfold readLabelBody; rw [hl]; dsimp only; rw [if_pos (by omega)]
  obtain ⟨t, ht, h1, h2⟩ := h.refuses (by decide) (by decide) hf (Reply.fitsIn_of_no_parts rfl _)
  exact ⟨t, powered_next h.1.1 ht, h1, h2⟩

theorem readLabel_image {l : Label} (h : InHand s .label Kind.readLabel r) (hl : s.label (leField r.body 0 4) = some l)
    (hn : 56 ≤ r.body.length) :
    ∃ t, exec .readLabel s = .next t ∧ t.withLogOf s = s
      ∧ Answered s t .label r (.plain .ok [(4, s.labelImage l)]) noBytes := by
  have hf : readLabelBody s r.body = (s, .plain .ok [(4, s.labelImage l)]) := by
    unfold readLabelBody; rw [hl]; dsimp only; rw [if_neg (by omega)]
  obtain ⟨t, ht, h1, h2⟩ := h.refuses (by decide) (by decide) hf
    (Reply.fitsIn_of_one_part rfl (by rw [s.labelImage_length]; omega))
  exact ⟨t, powered_next h.1.1 ht, h1, h2⟩

theorem readJournalState_short (h : InHand s .exchange Kind.readJournalState r) (hn : r.body.length < 36) :
    ∃ t, exec .readJournalState s = .next t ∧ t.withLogOf s = s
      ∧ Answered s t .exchange r (.plain .shortRecord []) noBytes := by
  have hf : readJournalStateBody s r.body = (s, .plain .shortRecord []) := if_pos hn
  obtain ⟨t, ht, h1, h2⟩ := h.refuses (by decide) (by decide) hf (Reply.fitsIn_of_no_parts rfl _)
  exact ⟨t, powered_next h.1.1 ht, h1, h2⟩

theorem readJournalState_image (h : InHand s .exchange Kind.readJournalState r) (hn : 36 ≤ r.body.length) :
    ∃ t, exec .readJournalState s = .next t ∧ t.withLogOf s = s
      ∧ Answered s t .exchange r (.plain .ok [(0, s.journal.image)]) noBytes := by
  have hf : readJournalStateBody s r.body = (s, .plain .ok [(0, s.journal.image)]) := if_neg (by omega)
  obtain ⟨t, ht, h1, h2⟩ := h.refuses (by decide) (by decide) hf
    (Reply.fitsIn_of_one_part rfl (by rw [Journal.image_length]; omega))
  exact ⟨t, powered_next h.1.1 ht, h1, h2⟩

theorem readCounts_badForm (h : InHand s .net Kind.readCounts r) (hc : 1 < leField r.body 0 1) :
    ∃ t, exec .readCounts s = .next t ∧ t.withLogOf s = s ∧ Answered s t .net r (.plain .badForm []) noBytes := by
  have hf : readCountsBody s r.body = (s, .plain .badForm []) := by
    unfold readCountsBody
    rw [flagCode_eq, if_neg (by omega), if_neg (by omega)]
  obtain ⟨t, ht, h1, h2⟩ := h.refuses (by decide) (by decide) hf (Reply.fitsIn_of_no_parts rfl _)
  exact ⟨t, powered_next h.1.1 ht, h1, h2⟩

theorem readCountsBody_of_flag (s : State) {b : List Byte} (hc : leField b 0 1 ≤ 1) : readCountsBody s b =
    if b.length < 4 + 140 then (s, .plain .shortRecord [])
    else (if leField b 0 1 = 1 then s.clearCounts else s, .plain .ok [(4, s.countsImage)]) := by
  unfold readCountsBody
  rw [flagCode_eq]
  rcases Nat.le_one_iff_eq_zero_or_eq_one.mp hc with h | h <;> rw [h] <;> rfl

theorem readCounts_short (h : InHand s .net Kind.readCounts r) (hc : leField r.body 0 1 ≤ 1) (hn : r.body.length < 144) :
    ∃ t, exec .readCounts s = .next t ∧ t.withLogOf s = s ∧ Answered s t .net r (.plain .shortRecord []) noBytes := by
  have hf : readCountsBody s r.body = (s, .plain .shortRecord []) := by
    rw [readCountsBody_of_flag s hc, if_pos (by omega)]
  obtain ⟨t, ht, h1, h2⟩ := h.refuses (by decide) (by decide) hf (Reply.fitsIn_of_no_parts rfl _)
  exact ⟨t, powered_next h.1.1 ht, h1, h2⟩

theorem readCounts_image (h : InHand s .net Kind.readCounts r) (hc : leField r.body 0 1 ≤ 1) (hn : 144 ≤ r.body.length) :
    ∃ t, exec .readCounts s = .next t ∧ Answered s t .net r (.plain .ok [(4, s.countsImage)]) noBytes
      ∧ (∀ p, t.port p = if leField r.body 0 1 = 1 then { s.port p with counters := PortCounters.zero } else s.port p)
      ∧ { t.net with ports := s.net.ports } = s.net ∧ (t.withLogOf s).setNet s.net = s := by
  obtain ⟨u, hdef⟩ : ∃ u, u = if leField r.body 0 1 = 1 then s.clearCounts else s := ⟨_, rfl⟩
  have hf : readCountsBody s r.body = (u, .plain .ok [(4, s.countsImage)]) := by
    rw [readCountsBody_of_flag s hc, if_neg (by omega), hdef]
  have hu : u.setNet s.net = s ∧ { u.net with ports := s.net.ports } = s.net
      ∧ ∀ p, u.port p = if leField r.body 0 1 = 1 then { s.port p with counters := PortCounters.zero } else s.port p := by
    by_cases h1 : leField r.body 0 1 = 1
    · rw [hdef, if_pos h1]
      exact ⟨s.clearCounts_frame.1, s.clearCounts_frame.2, fun p => by rw [if_pos h1]; exact s.port_clearCounts p⟩
    · rw [hdef, if_neg h1]
      exact ⟨rfl, rfl, fun p => by rw [if_neg h1]⟩
  obtain ⟨hframe, hnet, hport⟩ := hu
  have hw : Writes s u noBytes :=
    .of_eq (congrArg State.store hframe :) (congrArg State.requests hframe :) (congrArg State.clock hframe :)
  have hlink : u.link = s.link := (congrArg State.link hframe :)
  obtain ⟨t, ht, h1, -, h2⟩ := h.replies (by decide) (by decide) hf hw (fun _ ha => Bool.noConfusion ha)
    (by rw [hlink]; exact h.1.2.2) (Reply.fitsIn_of_one_part rfl (by rw [s.countsImage_length]; omega))
  have htnet : t.net = u.net := (congrArg State.net h1 :)
  refine ⟨t, powered_next h.1.1 ht, h2, fun p => ?_, ?_, ?_⟩
  · rw [← hport p]; unfold State.port; rw [htnet]
  · rw [htnet]; exact hnet
  · exact (congrArg (fun x : State => (x.withLogOf s).setNet s.net) h1).trans
      (congrArg (fun x : State => x.withLogOf s) hframe)

theorem flushStations_done (h : InHand s .net Kind.flushStations r) : ∃ t, exec .flushStations s = .next t
    ∧ t.net = { s.net with stations := [] } ∧ (t.withLogOf s).setNet s.net = s
    ∧ Answered s t .net r (.plain .ok [(0, leBytes 4 s.net.stations.length)]) noBytes := by
  have hlen : 4 ≤ r.body.length := h.2.2.2.2.1
  obtain ⟨t, ht, h1, -, h2⟩ := h.replies (own := noBytes) (f := flushStationsBody) (u := s.setStations []) (by decide) (by decide) rfl
    (.of_eq rfl rfl rfl) (fun _ ha => Bool.noConfusion ha) h.1.2.2
    (Reply.fitsIn_of_one_part (b := leBytes 4 s.net.stations.length) rfl (by rw [leBytes_length]; omega))
  exact ⟨t, powered_next h.1.1 ht, (congrArg State.net h1 :),
    (congrArg (fun x : State => (x.withLogOf s).setNet s.net) h1 :), h2⟩

end

/-- Settles O30: each request by the branches of its body; the fields of the images by their place in a row. -/
theorem imagesRead : Obligations.ImagesRead := by
  unfold Obligations.ImagesRead
  refine ⟨fun s r h => ⟨readItem_absent h, fun i hi => ⟨readItem_short h hi, fun hn htext => ?_⟩⟩,
    fun s r h => ⟨readLabel_absent h, fun l hl => ⟨readLabel_short h hl, fun hn => ?_⟩⟩,
    fun s r h => ⟨readJournalState_short h, fun hn => ?_⟩,
    fun s r h => ⟨readCounts_badForm h, readCounts_short h, fun hc hn => ?_⟩, fun s r h => flushStations_done h⟩
  · obtain ⟨t, h1, h2, h3⟩ := readItem_image h hi hn
    refine ⟨t, h1, h2, h3, i.image_length, ?_, i.image_fields⟩
    rw [i.image_eq, List.take_left' (textField_length _), textField_eq htext]
  · obtain ⟨t, h1, h2, h3⟩ := readLabel_image h hl hn
    exact ⟨t, h1, h2, h3, s.labelImage_length l, s.labelImage_fields l⟩
  · obtain ⟨t, h1, h2, h3⟩ := readJournalState_image h hn
    exact ⟨t, h1, h2, h3, s.journal.image_length, s.journal.image_fields⟩
  · obtain ⟨t, h1, h2, h3, h4, h5⟩ := readCounts_image h hc hn
    exact ⟨t, h1, h2, s.countsImage_length, s.countsImage_fields, h3, h4, h5⟩

end Sys2Proof.Machine
end

section
/-! PROOFS. LOAD_ITEMS (R2, R24): which entries are in form, what an entry inserts, the records as a whole, and O26. -/

namespace Sys2Proof.Machine

/-! ### States that differ in store, Request Unit and host side -/

section
variable {t u : State}

theorem State.price_withLog (h : t.withLogOf u = u) : t.price = u.price := (congrArg State.price h :)
theorem State.labels_withLog (h : t.withLogOf u = u) : t.labels = u.labels := (congrArg State.labels h :)
theorem State.link_withLog (h : t.withLogOf u = u) : t.link = u.link := (congrArg State.link h :)
theorem State.net_withLog (h : t.withLogOf u = u) : t.net = u.net := (congrArg State.net h :)
theorem State.clock_withLog (h : t.withLogOf u = u) : t.clock = u.clock := (congrArg State.clock h :)

theorem State.item_withLog (h : t.withLogOf u = u) (a : Nat) : t.item a = u.item a := by
  unfold State.item; rw [State.price_withLog h]
theorem State.label_withLog (h : t.withLogOf u = u) (id : Nat) : t.label id = u.label id := by
  unfold State.label; rw [State.labels_withLog h]
theorem State.station_withLog (h : t.withLogOf u = u) (n : Nat) : t.station n = u.station n := by
  unfold State.station; rw [State.link_withLog h]
end

/-! ### The form of an entry -/

theorem SaleKind.ofCode_eq_some {n : Nat} {k : SaleKind} : SaleKind.ofCode n = some k ↔ n = k.code := by
  match n with
  | 0 => cases k <;> simp [SaleKind.ofCode, SaleKind.code]
  | 1 => cases k <;> simp [SaleKind.ofCode, SaleKind.code]
  | n + 2 => cases k <;> simp [SaleKind.ofCode, SaleKind.code]

theorem Measure.ofCode_eq_some {n : Nat} {m : Measure} : Measure.ofCode n = some m ↔ n = m.code := by
  match n with
  | 0 => cases m <;> simp [Measure.ofCode, Measure.code]
  | 1 => cases m <;> simp [Measure.ofCode, Measure.code]
  | 2 => cases m <;> simp [Measure.ofCode, Measure.code]
  | n + 3 => cases m <;> simp [Measure.ofCode, Measure.code]

theorem SaleKind.of_le {n : Nat} (h : n ≤ 1) : ∃ k : SaleKind, n = k.code := by
  match n with
  | 0 => exact ⟨.each, rfl⟩
  | 1 => exact ⟨.weighed, rfl⟩
  | n + 2 => omega

theorem Measure.of_le {n : Nat} (h : n ≤ 2) : ∃ m : Measure, n = m.code := by
  match n with
  | 0 => exact ⟨.gram, rfl⟩
  | 1 => exact ⟨.millilitre, rfl⟩
  | 2 => exact ⟨.piece, rfl⟩
  | n + 3 => omega

/-- The fields of an entry for a sale kind and a measure are out of form (R24). -/
abbrev ItemEntry.OutOfForm (e : ItemEntry) (k : SaleKind) (m : Measure) : Prop :=
  e.article = 0 ∨ maxArticle < e.article ∨ e.textLength = 0 ∨ 24 < e.textLength ∨ (k = .weighed ∧ m ≠ .gram)
    ∨ e.packQty = 0 ∨ 100000 < e.packQty ∨ (k = .each ∧ e.refQty ≠ 1 ∧ e.refQty ≠ 100 ∧ e.refQty ≠ 1000) ∨ maxBase < e.base

/-- The item an entry inserts (R2, R24). -/
def ItemEntry.item (e : ItemEntry) (k : SaleKind) (m : Measure) (o : Nat) : Item :=
  { article := e.article, text := e.text.take e.textLength, textRevision := 0, saleKind := k, measure := m
    packQty := e.packQty, refQty := if k = .weighed then 1000 else e.refQty
    current := { number := 1, base := e.base, promo := e.promo }, pending := none, waiting := none, lastVersion := 1
    labels := [], outstanding := 0, staleCount := 0, origin := o }

theorem ItemEntry.check_of_codes {e : ItemEntry} {k : SaleKind} {m : Measure} (hk : e.saleKind = k.code)
    (hm : e.measure = m.code) (o : Nat) : e.check o =
      if e.OutOfForm k m then .error .badForm else if !promoPasses k e.base e.promo then .error .badPromo
      else .ok (e.item k m o) := by
  unfold ItemEntry.check
  rw [SaleKind.ofCode_eq_some.mpr hk, Measure.ofCode_eq_some.mpr hm]
  rfl

theorem ItemEntry.codes_of_check {e : ItemEntry} {o : Nat} {i : Item} (h : e.check o = .ok i) :
    ∃ k m, e.saleKind = SaleKind.code k ∧ e.measure = Measure.code m ∧ ¬ e.OutOfForm k m
      ∧ promoPasses k e.base e.promo = true ∧ i = e.item k m o := by
  cases hk : SaleKind.ofCode e.saleKind with
  | none => unfold ItemEntry.check at h; rw [hk] at h; exact nomatch h
  | some k =>
    cases hm : Measure.ofCode e.measure with
    | none => unfold ItemEntry.check at h; rw [hk, hm] at h; exact nomatch h
    | some m =>
      have hk' := SaleKind.ofCode_eq_some.mp hk
      have hm' := Measure.ofCode_eq_some.mp hm
      rw [ItemEntry.check_of_codes hk' hm'] at h
      split at h
      · exact nomatch h
      · rename_i hf
        split at h
        · exact nomatch h
        · rename_i hp
          exact ⟨k, m, hk', hm', hf, by simpa using hp, by cases h; rfl⟩

/-- A refused entry is refused for its form or its promotion. -/
theorem ItemEntry.check_error {e : ItemEntry} {o : Nat} {c : Code} (h : e.check o = .error c) : c ≠ .ok := by
  unfold ItemEntry.check at h
  split at h
  · split at h
    · cases h; decide
    · split at h
      · cases h; decide
      · exact nomatch h
  · cases h; decide

theorem promoPasses_iff {k : SaleKind} {base : Nat} {promo : Option Promotion} : promoPasses k base promo = true ↔
    ∀ p, promo = some p → k = .each ∧ promoValid .each base p = true := by
  cases promo with
  | none => simp [promoPasses]
  | some p => cases k <;> simp [promoPasses, promoValid]

/-- An entry is in form as R24 lists it. -/
theorem ItemEntry.check_iff (e : ItemEntry) (o : Nat) : (∃ i, e.check o = .ok i) ↔
    (1 ≤ e.article ∧ e.article ≤ 99999999999999 ∧ 1 ≤ e.textLength ∧ e.textLength ≤ 24 ∧ e.saleKind ≤ 1 ∧ e.measure ≤ 2
      ∧ (e.saleKind = 1 → e.measure = 0) ∧ 1 ≤ e.packQty ∧ e.packQty ≤ 100000
      ∧ (e.saleKind = 0 → e.refQty = 1 ∨ e.refQty = 100 ∨ e.refQty = 1000) ∧ e.base ≤ 9999999
      ∧ ∀ p, e.promo = some p → e.saleKind = 0 ∧ promoValid .each e.base p = true) := by
  have hmeasure : ∀ m : Measure, m = .gram ↔ m.code = 0 := by intro m; cases m <;> simp [Measure.code]
  have hweighed : ∀ k : SaleKind, k = .weighed ↔ k.code = 1 := by intro k; cases k <;> simp [SaleKind.code]
  have heach : ∀ k : SaleKind, k = .each ↔ k.code = 0 := by intro k; cases k <;> simp [SaleKind.code]
  have hkle : ∀ k : SaleKind, k.code ≤ 1 := by intro k; cases k <;> decide
  have hmle : ∀ m : Measure, m.code ≤ 2 := by intro m; cases m <;> decide
  have hform : ∀ k m, e.saleKind = SaleKind.code k → e.measure = Measure.code m → (¬ e.OutOfForm k m ↔
      (1 ≤ e.article ∧ e.article ≤ 99999999999999 ∧ 1 ≤ e.textLength ∧ e.textLength ≤ 24
        ∧ (e.saleKind = 1 → e.measure = 0) ∧ 1 ≤ e.packQty ∧ e.packQty ≤ 100000
        ∧ (e.saleKind = 0 → e.refQty = 1 ∨ e.refQty = 100 ∨ e.refQty = 1000) ∧ e.base ≤ 9999999)) := by
    intro k m hk hm
    unfold ItemEntry.OutOfForm maxArticle maxBase
    rw [ne_eq m, hmeasure, hweighed, heach, ← hk, ← hm]
    omega
  constructor
  · rintro ⟨i, h⟩
    obtain ⟨k, m, hk, hm, hf, hp, -⟩ := ItemEntry.codes_of_check h
    obtain ⟨h1, h2, h3, h4, h5, h6, h7, h8, h9⟩ := (hform k m hk hm).mp hf
    refine ⟨h1, h2, h3, h4, by rw [hk]; exact hkle k, by rw [hm]; exact hmle m, h5, h6, h7, h8, h9, fun p hp' => ?_⟩
    obtain ⟨hke, hv⟩ := promoPasses_iff.mp hp p hp'
    exact ⟨by rw [hk, hke]; rfl, hv⟩
  · rintro ⟨h1, h2, h3, h4, hk1, hm2, h5, h6, h7, h8, h9, hp⟩
    obtain ⟨k, hk⟩ := SaleKind.of_le hk1
    obtain ⟨m, hm⟩ := Measure.of_le hm2
    have hpass : promoPasses k e.base e.promo = true :=
      promoPasses_iff.mpr (fun p hp' => ⟨(heach k).mpr (by rw [← hk]; exact (hp p hp').1), (hp p hp').2⟩)
    refine ⟨e.item k m o, ?_⟩
    rw [ItemEntry.check_of_codes hk hm, if_neg ((hform k m hk hm).mpr ⟨h1, h2, h3, h4, h5, h6, h7, h8, h9⟩), hpass]
    rfl

/-! ### One entry taken -/

theorem State.loadEntry_of_error (s : State) {e : ItemEntry} {o : Nat} {c : Code} (h : e.check o = .error c) :
    s.loadEntry e o = (s, c) := by
  unfold State.loadEntry
  rw [h]

theorem State.loadEntry_of_ok (s : State) {e : ItemEntry} {o : Nat} {i : Item} (h : e.check o = .ok i) :
    s.loadEntry e o = if s.item i.article ≠ none then (s, .exists_)
      else if 65536 ≤ s.price.items.length then (s, .tableFull) else (s.putItem i, .ok) := by
  unfold State.loadEntry
  rw [h, ← (ItemEntry.check_ok h).1]
  dsimp only
  cases s.item i.article with
  | none => rfl
  | some j => rfl

/-- An entry either leaves the state as it is, or is loaded: its item enters under an article that had none (R24). -/
theorem State.loadEntry_cases (s : State) (e : ItemEntry) (o : Nat) :
    ((s.loadEntry e o).1 = s ∧ (s.loadEntry e o).2 ≠ .ok)
      ∨ ∃ i, e.check o = .ok i ∧ s.item i.article = none ∧ s.price.items.length < 65536
        ∧ s.loadEntry e o = (s.putItem i, .ok) := by
  cases h : e.check o with
  | error c =>
    rw [s.loadEntry_of_error h]
    exact .inl ⟨rfl, ItemEntry.check_error h⟩
  | ok i =>
    rw [s.loadEntry_of_ok h]
    split
    · exact .inl ⟨rfl, nofun⟩
    · rename_i hi
      split
      · exact .inl ⟨rfl, nofun⟩
      · exact .inr ⟨i, rfl, by simpa using hi, by omega, rfl⟩

/-! ### The item table alone -/

/-- Between two states only items have changed, the window's percentages as they were. -/
structure OnlyItems (s t : State) : Prop where
  frame : t.setPrice s.price = s
  window : t.price.down = s.price.down ∧ t.price.up = s.price.up

theorem OnlyItems.refl (s : State) : OnlyItems s s := ⟨rfl, rfl, rfl⟩

theorem OnlyItems.trans {s t u : State} (h : OnlyItems s t) (h' : OnlyItems t u) : OnlyItems s u :=
  ⟨(congrArg (fun x : State => x.setPrice s.price) h'.frame).trans h.frame, h'.window.1.trans h.window.1,
    h'.window.2.trans h.window.2⟩

theorem OnlyItems.putItem (s : State) (i : Item) : OnlyItems s (s.putItem i) := ⟨rfl, rfl, rfl⟩

theorem OnlyItems.writes {s t : State} (h : OnlyItems s t) (own : Nat → Bool) : Writes s t own :=
  .of_eq (congrArg State.store h.frame :) (congrArg State.requests h.frame :) (congrArg State.clock h.frame :)

theorem OnlyItems.link {s t : State} (h : OnlyItems s t) : t.link = s.link := (congrArg State.link h.frame :)

theorem OnlyItems.loadEntry (s : State) (e : ItemEntry) (o : Nat) : OnlyItems s (s.loadEntry e o).1 := by
  rcases s.loadEntry_cases e o with ⟨h, -⟩ | ⟨i, -, -, -, h⟩
  · rw [h]; exact .refl s
  · rw [h]; exact .putItem s i

theorem OnlyItems.loadAll (s : State) (es : List ItemEntry) : OnlyItems s (loadAll s es).1 := by
  induction es generalizing s with
  | nil => exact .refl s
  | cons e es ih => exact (OnlyItems.loadEntry s e 0).trans (ih _)

/-- A state that differs from one in its items and its log from another differs in the price engine and the log. -/
theorem OnlyItems.withLog {s u t : State} (h : OnlyItems s u) (ht : t.withLogOf u = u) :
    (t.withLogOf s).setPrice s.price = s :=
  (congrArg (fun x : State => (x.withLogOf s).setPrice s.price) ht).trans
    (congrArg (fun x : State => x.withLogOf s) h.frame)

theorem ItemPut.putItem {s t : State} (i : Item) (ht : t.withLogOf (s.putItem i) = s.putItem i) : ItemPut s t i := by
  have hp := State.price_withLog ht
  have hi := State.item_withLog ht
  refine ⟨?_, fun a ha => ?_, by rw [hp]; exact ⟨rfl, rfl⟩, (OnlyItems.putItem s i).withLog ht⟩
  · rw [hi, State.item_putItem, if_pos rfl]
  · rw [hi, State.item_putItem, if_neg ha]

/-! ### All entries taken -/

theorem loadAll_cons (s : State) (e : ItemEntry) (es : List ItemEntry) :
    loadAll s (e :: es) = ((loadAll (s.loadEntry e 0).1 es).1, (s.loadEntry e 0).2 :: (loadAll (s.loadEntry e 0).1 es).2) := rfl

theorem loadAll_length (s : State) (es : List ItemEntry) : (loadAll s es).2.length = es.length := by
  induction es generalizing s with
  | nil => rfl
  | cons e es ih => rw [loadAll_cons, List.length_cons, List.length_cons, ih]

/-- An item of the table is not touched by an entry. -/
theorem State.loadEntry_item {s : State} (e : ItemEntry) {a : Nat} {i : Item} (h : s.item a = some i) :
    (s.loadEntry e 0).1.item a = some i := by
  rcases s.loadEntry_cases e 0 with ⟨hs, -⟩ | ⟨j, -, hj, -, hs⟩
  · rw [hs]; exact h
  · rw [hs, State.item_putItem, if_neg]
    · exact h
    · rintro rfl
      rw [hj] at h
      exact nomatch h

theorem loadAll_item {s : State} (es : List ItemEntry) {a : Nat} {i : Item} (h : s.item a = some i) :
    (loadAll s es).1.item a = some i := by
  induction es generalizing s with
  | nil => exact h
  | cons e es ih => exact ih (State.loadEntry_item e h)

theorem loadAll_item_from {s : State} {es : List ItemEntry} {a : Nat} {i : Item} (h : (loadAll s es).1.item a = some i) :
    s.item a = some i ∨ ∃ e ∈ es, e.check 0 = .ok i ∧ i.article = a := by
  induction es generalizing s with
  | nil => exact .inl h
  | cons e es ih =>
    rcases ih h with h | ⟨x, hx, hc, ha⟩
    · rcases s.loadEntry_cases e 0 with ⟨hs, -⟩ | ⟨j, hj, -, -, hs⟩
      · rw [hs] at h; exact .inl h
      · rw [hs, State.item_putItem] at h
        split at h
        · rename_i hja
          cases h
          exact .inr ⟨e, List.mem_cons_self, hj, hja.symm⟩
        · exact .inl h
    · exact .inr ⟨x, List.mem_cons_of_mem _ hx, hc, ha⟩

theorem loadAll_loaded {s : State} {es : List ItemEntry} {k : Nat} {e : ItemEntry} {i : Item}
    (hk : (loadAll s es).2[k]? = some .ok) (he : es[k]? = some e) (hc : e.check 0 = .ok i) :
    (loadAll s es).1.item i.article = some i := by
  induction es generalizing s k with
  | nil => exact nomatch he
  | cons x es ih =>
    cases k with
    | zero =>
      rw [loadAll_cons, List.getElem?_cons_zero, Option.some.injEq] at hk
      rw [List.getElem?_cons_zero, Option.some.injEq] at he
      subst he
      refine loadAll_item es ?_
      rcases s.loadEntry_cases x 0 with ⟨-, hn⟩ | ⟨j, hj, -, -, hs⟩
      · exact absurd hk hn
      · rw [hc] at hj
        cases hj
        rw [hs, State.item_putItem, if_pos rfl]
    | succ k =>
      rw [loadAll_cons, List.getElem?_cons_succ] at hk
      rw [List.getElem?_cons_succ] at he
      exact ih hk he

theorem State.items_length_putItem {s : State} {i : Item} (h : s.item i.article = none) :
    (s.putItem i).price.items.length = s.price.items.length + 1 := Table.length_put_of_none i h

theorem loadAll_room {s : State} {es : List ItemEntry} (hn : s.price.items.length + es.length ≤ 65536) {e : ItemEntry}
    (he : e ∈ es) {i : Item} (hc : e.check 0 = .ok i) : (loadAll s es).1.item i.article ≠ none := by
  have hkeep : ∀ (t : State) (xs : List ItemEntry), t.item i.article ≠ none → (loadAll t xs).1.item i.article ≠ none := by
    intro t xs ht
    obtain ⟨j, hj⟩ := Option.ne_none_iff_exists'.mp ht
    rw [loadAll_item xs hj]
    exact nofun
  induction es generalizing s with
  | nil => cases he
  | cons x es ih =>
    rw [List.length_cons] at hn
    have hstep : (s.loadEntry x 0).1.price.items.length ≤ s.price.items.length + 1 := by
      rcases s.loadEntry_cases x 0 with ⟨hs, -⟩ | ⟨j, -, hj, -, hs⟩
      · rw [hs]; omega
      · rw [hs, State.items_length_putItem hj]
    rcases List.mem_cons.mp he with rfl | he
    · refine hkeep (s.loadEntry e 0).1 es ?_
      rw [s.loadEntry_of_ok hc]
      split
      · assumption
      · rw [if_neg (by omega), State.item_putItem, if_pos rfl]
        exact nofun
    · exact ih (by omega) he

/-- A state reached from another by inserting items under the articles taken. -/
structure Inserted (s u : State) (taken : List Nat) : Prop where
  items : ∀ a, u.item a ≠ none ↔ s.item a ≠ none ∨ a ∈ taken
  length : u.price.items.length = s.price.items.length + taken.length

/-- The result of an entry, given the articles that earlier entries have inserted (R24). -/
def State.entryResult (s : State) (taken : List Nat) (e : ItemEntry) : Code :=
  match e.check 0 with
  | .error x => x
  | .ok i => if s.item i.article ≠ none ∨ i.article ∈ taken then .exists_
      else if 65536 ≤ s.price.items.length + taken.length then .tableFull else .ok

theorem State.loadResults_cons (s : State) (taken : List Nat) (e : ItemEntry) (es : List ItemEntry) :
    s.loadResults taken (e :: es) = s.entryResult taken e
      :: s.loadResults (if s.entryResult taken e = .ok then e.article :: taken else taken) es := rfl

theorem Inserted.result {s u : State} {taken : List Nat} (h : Inserted s u taken) (e : ItemEntry) :
    (u.loadEntry e 0).2 = s.entryResult taken e := by
  unfold State.entryResult
  cases hc : e.check 0 with
  | error c => rw [u.loadEntry_of_error hc]
  | ok i =>
    rw [u.loadEntry_of_ok hc, h.length]
    dsimp only
    by_cases h1 : s.item i.article ≠ none ∨ i.article ∈ taken
    · rw [if_pos ((h.items i.article).mpr h1), if_pos h1]
    · rw [if_neg (fun hb => h1 ((h.items i.article).mp hb)), if_neg h1]
      split
      · rfl
      · rfl

theorem Inserted.loadEntry {s u : State} {taken : List Nat} (h : Inserted s u taken) (e : ItemEntry) :
    Inserted s (u.loadEntry e 0).1 (if s.entryResult taken e = .ok then e.article :: taken else taken) := by
  rw [← h.result e]
  rcases u.loadEntry_cases e 0 with ⟨h1, h2⟩ | ⟨i, hc, hnone, -, h1⟩
  · rw [h1, if_neg h2]
    exact h
  · rw [h1, if_pos rfl, ← (ItemEntry.check_ok hc).1]
    refine ⟨fun a => ?_, ?_⟩
    · rw [State.item_putItem, List.mem_cons]
      by_cases ha : a = i.article
      · rw [if_pos ha]
        exact ⟨fun _ => .inr (.inl ha), fun _ => nofun⟩
      · rw [if_neg ha, h.items a]
        exact or_congr_right (by simp [ha])
    · rw [State.items_length_putItem hnone, h.length, List.length_cons]
      omega

/-- The results of the entries, each by what the entries before it have inserted (R24). -/
theorem loadAll_results {s u : State} {taken : List Nat} (h : Inserted s u taken) (es : List ItemEntry) :
    (loadAll u es).2 = s.loadResults taken es := by
  induction es generalizing u taken with
  | nil => rfl
  | cons e es ih => rw [loadAll_cons, State.loadResults_cons, ← ih (h.loadEntry e), h.result e]

theorem Inserted.refl (s : State) : Inserted s s [] := ⟨fun _ => by simp, rfl⟩

/-! ### The record -/

theorem loadReply_fitsIn {codes : List Code} {n : Nat} (h : 4 + 52 * codes.length ≤ n) : (loadReply codes).FitsIn n := by
  refine ⟨fun p hp => ?_, ?_⟩
  · obtain ⟨⟨c, k⟩, hck, rfl⟩ := List.mem_map.mp hp
    have hk := List.snd_lt_of_mem_zipIdx hck
    dsimp only at hk ⊢
    rw [leBytes_length, itemEntryLength]
    omega
  · refine List.pairwise_map.mpr ?_
    rw [List.pairwise_iff_getElem]
    intro a b ha hb hab
    rw [List.getElem_zipIdx, List.getElem_zipIdx]
    unfold Apart
    dsimp only
    rw [leBytes_length, itemEntryLength]
    omega

theorem loadReply_eq (codes : List Code) : loadReply codes =
    { code := (codes.find? (fun c => c != .ok)).getD .ok, done := decide (Code.ok ∈ codes), flags := .clear
      parts := codes.zipIdx.map (fun c => (4 + 52 * c.2 + 51, leBytes 1 c.1.number)) } := by
  have hd : codes.any (fun c => c == .ok) = decide (Code.ok ∈ codes) := by
    rw [Bool.eq_iff_iff, List.any_eq_true, decide_eq_true_iff]
    simp
  unfold loadReply
  rw [hd]
  rfl

theorem loadReply_one_failed {c : Code} (h : c ≠ .ok) : loadReply [c] =
    { code := c, done := false, flags := .clear, parts := [(55, leBytes 1 c.number)] } := by
  unfold loadReply entryResultParts
  have h1 : (c != Code.ok) = true := by simpa using h
  have h2 : (c == Code.ok) = false := by simpa using h
  simp [h1, h2, itemEntryLength]

section
variable {s : State} {r : RecordInHand}

theorem loadItemsBody_badForm (s : State) {b : List Byte}
    (h : leField b 0 1 = 0 ∨ 32 < leField b 0 1 ∨ b.length < 4 + 52 * leField b 0 1) :
    loadItemsBody s b = (s, .plain .badForm []) := if_pos h

theorem loadItemsBody_entries (s : State) {b : List Byte} (h1 : 1 ≤ leField b 0 1) (h2 : leField b 0 1 ≤ 32)
    (h3 : 4 + 52 * leField b 0 1 ≤ b.length) : loadItemsBody s b =
      ((loadAll s (itemEntriesOf b (leField b 0 1))).1, loadReply (loadAll s (itemEntriesOf b (leField b 0 1))).2) :=
  if_neg (by rw [itemEntryLength]; omega)

theorem loadItems_badForm (h : InHand s .price Kind.loadItems r)
    (hn : leField r.body 0 1 = 0 ∨ 32 < leField r.body 0 1 ∨ r.body.length < 4 + 52 * leField r.body 0 1) :
    ∃ t, exec .loadItems s = .next t ∧ Answered s t .price r (.plain .badForm []) noBytes ∧ t.withLogOf s = s := by
  obtain ⟨t, ht, h1, h2⟩ := h.refuses (by decide) (by decide) (loadItemsBody_badForm s hn) (Reply.fitsIn_of_no_parts rfl _)
  exact ⟨t, powered_next h.1.1 ht, h2, h1⟩

/-- A record in form, its entries taken one after the other (R24). -/
theorem loadItems_entries (h : InHand s .price Kind.loadItems r) (h1 : 1 ≤ leField r.body 0 1)
    (h2 : leField r.body 0 1 ≤ 32) (h3 : 4 + 52 * leField r.body 0 1 ≤ r.body.length) :
    let es := itemEntriesOf r.body (leField r.body 0 1)
    ∃ t, exec .loadItems s = .next t ∧ t.withLogOf (loadAll s es).1 = (loadAll s es).1
      ∧ Answered s t .price r (loadReply (loadAll s es).2) noBytes := by
  intro es
  have hlen : es.length = leField r.body 0 1 := by simp [es, itemEntriesOf]
  have hitems := OnlyItems.loadAll s es
  obtain ⟨t, ht, h4, -, h5⟩ := h.replies (by decide) (by decide) (loadItemsBody_entries s h1 h2 h3)
    (hitems.writes noBytes) (fun _ ha => Bool.noConfusion ha) (by rw [hitems.link]; exact h.1.2.2)
    (loadReply_fitsIn (by rw [loadAll_length, hlen]; exact h3))
  exact ⟨t, powered_next h.1.1 ht, h4, h5⟩

/-- A record of one entry. -/
theorem loadItems_one (h : InHand s .price Kind.loadItems r) (h1 : leField r.body 0 1 = 1) (h2 : 56 ≤ r.body.length)
    {u : State} {c : Code} (hu : s.loadEntry (itemEntryOf (r.body.drop (4 + 52 * 0))) 0 = (u, c)) :
    ∃ t, exec .loadItems s = .next t ∧ t.withLogOf u = u ∧ Answered s t .price r (loadReply [c]) noBytes := by
  obtain ⟨t, ht, h3, h4⟩ := loadItems_entries h (by omega) (by omega) (by omega)
  have hes : itemEntriesOf r.body (leField r.body 0 1) = [itemEntryOf (r.body.drop (4 + 52 * 0))] := by
    rw [h1]; rfl
  rw [hes, loadAll_cons, hu] at h3 h4
  exact ⟨t, ht, h3, h4⟩

end

/-- Settles O26: an entry by the codes of its sale kind and measure, a record by induction on its entries. -/
theorem itemsLoaded : Obligations.ItemsLoaded := by
  unfold Obligations.ItemsLoaded
  refine ⟨ItemEntry.check_iff, fun e o i hc => ?_, fun s r h _ => ?_⟩
  · obtain ⟨k, m, hk, hm, -, -, rfl⟩ := ItemEntry.codes_of_check hc
    refine ⟨rfl, rfl, rfl, hk.symm, hm.symm, rfl, ?_, rfl, rfl, rfl, rfl, rfl, rfl, rfl, rfl⟩
    rw [hk]
    cases k <;> rfl
  intro n entry
  refine ⟨loadItems_badForm h, fun hn hlen => ?_, fun h1 h2 h3 => ?_⟩
  · intro failed
    have hfail : ∀ c, c ≠ .ok → s.loadEntry (entry 0) 0 = (s, c) → failed c := by
      intro c hc hs
      obtain ⟨t, h4, h5, h6⟩ := loadItems_one h hn hlen hs
      rw [loadReply_one_failed hc] at h6
      exact ⟨t, h4, h5, h6⟩
    refine ⟨fun c hc => hfail c (ItemEntry.check_error hc) (s.loadEntry_of_error hc), fun i hc => ?_⟩
    have hcases := s.loadEntry_of_ok hc
    refine ⟨fun hi => hfail _ (by decide) (hcases.trans (if_pos hi)), fun hi hl => hfail _ (by decide) ?_,
      fun hi hl => ?_⟩
    · rw [hcases, if_neg (not_not_intro hi), if_pos hl]
    · have hs : s.loadEntry (entry 0) 0 = (s.putItem i, .ok) := by
        rw [hcases, if_neg (not_not_intro hi), if_neg (by omega)]
      obtain ⟨t, h4, h5, h6⟩ := loadItems_one h hn hlen hs
      exact ⟨t, h4, .putItem i h5, h6⟩
  · obtain ⟨t, h4, h5, h6⟩ := loadItems_entries h h1 h2 h3
    have hitem : ∀ a, t.item a = (loadAll s ((List.range n).map entry)).1.item a := State.item_withLog h5
    have hentry : ∀ k, k < n → ((List.range n).map entry)[k]? = some (entry k) := fun k hk => by
      rw [List.getElem?_map, List.getElem?_range hk]
      rfl
    refine ⟨t, h4, ⟨?_, fun k i hk hc => ?_⟩, fun a i hi => ?_, fun a i hi => ?_, fun hl k i hk hc => ?_, ?_⟩
    · rw [← loadAll_results (.refl s), ← loadReply_eq]
      exact h6
    · rw [← loadAll_results (.refl s)] at hk
      rw [hitem]
      refine loadAll_loaded hk (hentry k ?_) hc
      obtain ⟨hlt, -⟩ := List.getElem?_eq_some_iff.mp hk
      rw [loadAll_length] at hlt
      simpa using hlt
    · rw [hitem]
      exact loadAll_item _ hi
    · rw [hitem] at hi
      refine (loadAll_item_from hi).imp id (fun ⟨e, he, hc, ha⟩ => ?_)
      obtain ⟨k, hk, rfl⟩ := List.mem_map.mp he
      exact ⟨k, List.mem_range.mp hk, hc, ha⟩
    · rw [hitem]
      exact loadAll_room (by simpa using hl) (List.mem_map.mpr ⟨k, List.mem_range.mpr hk, rfl⟩) hc
    · exact (OnlyItems.loadAll s _).withLog h5

end Sys2Proof.Machine
end

section
/-! PROOFS. Waiting sets and stations (R86, R105, R113): what they hold after each operation, and the arbiter's runs at
stations that cannot be sent anything. -/

namespace Sys2Proof.Machine

/-! ### Sets of ids -/

theorem mem_setAdd {xs : List Nat} {k x : Nat} : x ∈ setAdd xs k ↔ x ∈ xs ∨ x = k := by
  induction xs with
  | nil => simp [setAdd]
  | cons y ys ih =>
    unfold setAdd
    split
    · rw [List.mem_cons, or_comm]
    · split
      · rename_i h
        rw [← h, List.mem_cons]
        tauto
      · rw [List.mem_cons, ih, List.mem_cons, or_assoc]

theorem mem_setDrop {xs : List Nat} {k x : Nat} : x ∈ setDrop xs k ↔ x ∈ xs ∧ x ≠ k := by
  simp [setDrop]

theorem setDrop_singleton (k : Nat) : setDrop [k] k = [] := by simp [setDrop]

/-! ### The station table -/

variable {s t : State} {n : Nat} {b : BaseStation}

/-- The ids of a state's stations are distinct. -/
abbrev State.StationsDistinct (s : State) : Prop := (s.link.table.map BaseStation.id).Nodup

theorem State.TablesBounded.stations (h : s.TablesBounded) : s.StationsDistinct :=
  (s.tablesBounded_iff.mp h).2.2.2.1.2

theorem State.station_some (h : s.station n = some b) : b ∈ s.link.table ∧ b.id = n :=
  ⟨List.mem_of_find?_eq_some h, by simpa using List.find?_some h⟩

/-- Stations with one id are one. -/
theorem State.StationsDistinct.eq_of_id (hd : s.StationsDistinct) {x y : BaseStation} (hx : x ∈ s.link.table)
    (hy : y ∈ s.link.table) (h : x.id = y.id) : x = y :=
  List.inj_on_of_nodup_map hd hx hy h

theorem State.StationsDistinct.station (hd : s.StationsDistinct) (hb : b ∈ s.link.table) : s.station b.id = some b := by
  obtain ⟨x, hx⟩ : ∃ x, s.station b.id = some x := by
    refine Option.ne_none_iff_exists'.mp (fun h => ?_)
    simpa using List.find?_eq_none.mp h b hb
  obtain ⟨hm, hid⟩ := State.station_some hx
  rw [hx, hd.eq_of_id hm hb hid]

/-- A table whose entries are replaced one by one under their ids. -/
theorem State.station_map (s : State) {f : BaseStation → BaseStation} (hf : ∀ x, (f x).id = x.id) (k : StationLink)
    (hk : k.table = s.link.table.map f) (n : Nat) : (s.setLink k).station n = (s.station n).map f := by
  unfold State.station
  rw [State.setLink_link, hk, List.find?_map]
  have : ((fun b : BaseStation => b.id == n) ∘ f) = fun b => b.id == n := funext fun x => by
    rw [Function.comp_apply, hf]
  rw [this]

theorem State.station_putStation (s : State) (b : BaseStation) (n : Nat) :
    (s.putStation b).station n = (s.station n).map (fun x => if x.id = b.id then b else x) :=
  s.station_map (fun x => by split <;> simp_all) _ rfl n

theorem State.station_putStation_same (h : s.station n = some b) {x : BaseStation} (hx : x.id = n) :
    (s.putStation x).station n = some x := by
  rw [State.station_putStation, h, Option.map_some, if_pos ((State.station_some h).2.trans hx.symm)]

theorem State.station_putStation_other {x : BaseStation} (hx : n ≠ x.id) : (s.putStation x).station n = s.station n := by
  rw [State.station_putStation]
  cases h : s.station n with
  | none => rfl
  | some b => rw [Option.map_some, if_neg (by rw [(State.station_some h).2]; exact hx)]

theorem State.ids_putStation (s : State) (b : BaseStation) :
    (s.putStation b).link.table.map BaseStation.id = s.link.table.map BaseStation.id :=
  map_id_replace s.link.table b

theorem State.putStation_self (hd : s.StationsDistinct) (h : s.station n = some b) : s.putStation b = s := by
  obtain ⟨hb, -⟩ := State.station_some h
  have ht : s.link.table.map (fun x => if x.id = b.id then b else x) = s.link.table := by
    conv_rhs => rw [← List.map_id s.link.table]
    refine List.map_congr_left fun x hx => ?_
    split
    · rename_i hid
      exact (hd.eq_of_id hx hb hid).symm
    · rfl
  unfold State.putStation
  rw [ht]
  rfl

/-! ### Stations that can be sent nothing -/

/-- A station that can be sent nothing: it is LOST, nothing is ready there, or no credit is left and every label ready
there has an update to get (R113, R114). -/
def State.Blocked (s : State) (b : BaseStation) : Prop :=
  b.phase = .lost ∨ b.ready = []
    ∨ (b.credit ≤ b.costInFlight ∧ ∀ id ∈ b.ready, ∃ l u, s.label id = some l ∧ s.pick l = some u)

theorem nearest_mem {slots now : Nat} {ids : List Nat} {id : Nat} (h : nearest slots now ids = some id) : id ∈ ids := by
  induction ids generalizing id with
  | nil => exact nomatch h
  | cons x xs ih =>
    unfold nearest at h
    split at h
    · cases h; exact List.mem_cons_self
    · rename_i y hy
      split at h
      · cases h; exact List.mem_cons_of_mem _ (ih hy)
      · cases h; exact List.mem_cons_self

theorem UpdateKind.cost_pos (k : UpdateKind) : 0 < k.cost := by cases k <;> decide

theorem State.arbiterRun_lost (fuel : Nat) (h : s.station n = some b) (hl : b.phase = .lost) :
    State.arbiterRun n (fuel + 1) s = s := by
  unfold State.arbiterRun
  rw [h]
  exact if_pos hl

theorem State.arbiterRun_empty (fuel : Nat) (h : s.station n = some b) (hl : b.phase ≠ .lost) (he : b.ready = []) :
    State.arbiterRun n (fuel + 1) s = s.setWaiting b false := by
  unfold State.arbiterRun
  rw [h]
  dsimp only
  rw [if_neg hl, he]
  rfl

theorem State.runArbiter_of_blocked (h : s.station n = some b) (hb : s.Blocked b) :
    s.runArbiter n = if b.phase = .lost then s else s.setWaiting b false := by
  unfold State.runArbiter
  rw [h]
  dsimp only
  by_cases hl : b.phase = .lost
  · rw [State.arbiterRun_lost _ h hl, if_pos hl]
  · rw [if_neg hl]
    rcases hb.resolve_left hl with he | ⟨hc, hready⟩
    · exact State.arbiterRun_empty _ h hl he
    cases hn : nearest s.link.slots s.now b.ready with
    | none =>
      unfold State.arbiterRun
      rw [h]
      dsimp only
      rw [if_neg hl, hn]
    | some id =>
      obtain ⟨l, u, hid, hu⟩ := hready id (nearest_mem hn)
      have := u.kind.cost_pos
      unfold State.arbiterRun
      rw [h]
      dsimp only
      rw [if_neg hl, hn]
      dsimp only
      rw [hid]
      dsimp only
      rw [hu]
      exact if_pos (by omega)

/-- A station once arbiter runs have stopped at it for want of credit or labels (R115). -/
def BaseStation.calmed (ns : List Nat) (b : BaseStation) : BaseStation :=
  if b.id ∈ ns ∧ b.phase ≠ .lost then { b with waitingForBuffer := false } else b

@[simp] theorem BaseStation.calmed_id (ns : List Nat) (b : BaseStation) : (b.calmed ns).id = b.id := by
  unfold BaseStation.calmed; split <;> rfl

@[simp] theorem BaseStation.calmed_ready (ns : List Nat) (b : BaseStation) : (b.calmed ns).ready = b.ready := by
  unfold BaseStation.calmed; split <;> rfl

@[simp] theorem BaseStation.calmed_inFlight (ns : List Nat) (b : BaseStation) : (b.calmed ns).inFlight = b.inFlight := by
  unfold BaseStation.calmed; split <;> rfl

theorem BaseStation.calmed_eq (ns : List Nat) (b : BaseStation) :
    b.calmed ns = { b with waitingForBuffer := (b.calmed ns).waitingForBuffer } := by
  unfold BaseStation.calmed; split <;> rfl

theorem BaseStation.calmed_cons (m : Nat) (ns : List Nat) (b : BaseStation) :
    b.calmed (m :: ns) = (b.calmed [m]).calmed ns := by
  unfold BaseStation.calmed
  by_cases h1 : b.id = m
  · by_cases h2 : b.phase = .lost
    · simp [h2]
    · by_cases h3 : m ∈ ns <;> simp [h1, h2, h3]
  · by_cases h2 : b.phase = .lost
    · simp [h2]
    · simp [h1, h2]

theorem State.Blocked.calmed (h : s.Blocked b) (ns : List Nat) : s.Blocked (b.calmed ns) := by
  unfold State.Blocked BaseStation.calmed at *
  split
  · exact h
  · exact h

/-- The link with every station of a list calmed. -/
def StationLink.calmed (k : StationLink) (ns : List Nat) : StationLink :=
  { k with table := k.table.map (BaseStation.calmed ns) }

theorem StationLink.calmed_nil (k : StationLink) : k.calmed [] = k := by
  have : BaseStation.calmed [] = id := funext fun b => by simp [BaseStation.calmed]
  unfold StationLink.calmed
  rw [this, List.map_id]

theorem StationLink.calmed_cons (k : StationLink) (m : Nat) (ns : List Nat) :
    k.calmed (m :: ns) = (k.calmed [m]).calmed ns := by
  unfold StationLink.calmed
  rw [List.map_map]
  congr 1
  exact List.map_congr_left fun b _ => b.calmed_cons m ns

theorem State.station_calmed (s : State) (k : StationLink) (hk : k.table = s.link.table) (ns : List Nat) (n : Nat) :
    (s.setLink (k.calmed ns)).station n = (s.station n).map (BaseStation.calmed ns) :=
  s.station_map (BaseStation.calmed_id ns) _ (by rw [StationLink.calmed, hk]) n

/-- The arbiter's run at a station that can be sent nothing clears the flag of an ACTIVE one (R113, R115). -/
theorem State.runArbiter_calmed (hd : s.StationsDistinct) (hb : ∀ b, s.station n = some b → s.Blocked b) :
    s.runArbiter n = s.setLink (s.link.calmed [n]) := by
  have hself : (∀ x ∈ s.link.table, x.calmed [n] = x) → s.setLink (s.link.calmed [n]) = s := by
    intro hx
    have : s.link.calmed [n] = s.link := by
      unfold StationLink.calmed
      rw [List.map_congr_left hx, List.map_id']
    rw [this]
    rfl
  cases h : s.station n with
  | none =>
    rw [hself]
    · unfold State.runArbiter
      rw [h]
    · intro x hx
      have := List.find?_eq_none.mp h x hx
      unfold BaseStation.calmed
      rw [if_neg]
      rintro ⟨h1, -⟩
      exact this (by simpa using h1)
  | some b =>
    obtain ⟨hbt, hid⟩ := State.station_some h
    rw [State.runArbiter_of_blocked h (hb b h)]
    split
    · rename_i hl
      rw [hself]
      intro x hx
      unfold BaseStation.calmed
      rw [if_neg]
      rintro ⟨h1, h2⟩
      have hxb : x = b := hd.eq_of_id hx hbt (by simpa [hid] using h1)
      exact h2 (by rw [hxb]; exact hl)
    · rename_i hl
      refine congrArg (fun ts => s.setLink { s.link with table := ts }) (List.map_congr_left fun x hx => ?_)
      dsimp only
      by_cases hx' : x.id = b.id
      · rw [hd.eq_of_id hx hbt hx', if_pos rfl]
        unfold BaseStation.calmed
        rw [if_pos ⟨by simp [hid], hl⟩]
      · rw [if_neg hx']
        unfold BaseStation.calmed
        rw [if_neg]
        rintro ⟨h1, -⟩
        exact hx' (by rw [hid]; simpa using h1)

theorem foldl_runArbiter_calmed {ns : List Nat} (hd : s.StationsDistinct)
    (hb : ∀ n ∈ ns, ∀ b, s.station n = some b → s.Blocked b) :
    (ns.map ArbiterCall.station).foldl State.makeCall s = s.setLink (s.link.calmed ns) := by
  induction ns generalizing s with
  | nil => rw [StationLink.calmed_nil]; rfl
  | cons n ns ih =>
    rw [List.map_cons, List.foldl_cons]
    show List.foldl _ (s.runArbiter n) _ = _
    rw [State.runArbiter_calmed hd (hb n (by simp)), ih, s.link.calmed_cons n ns]
    · rfl
    · have hm : (s.link.calmed [n]).table.map BaseStation.id = s.link.table.map BaseStation.id := by
        unfold StationLink.calmed
        rw [List.map_map]
        exact List.map_congr_left fun b _ => b.calmed_id [n]
      unfold State.StationsDistinct
      rw [State.setLink_link, hm]
      exact hd
    · intro m hm b hmb
      rw [State.station_calmed s s.link rfl] at hmb
      obtain ⟨x, hx, rfl⟩ := Option.map_eq_some_iff.mp hmb
      exact (hb m (List.mem_cons_of_mem _ hm) x hx).calmed [n]

/-- The runs owed when every station that is called can be sent nothing (R113-R115). -/
theorem State.settle_of_blocked {ns : List Nat} (hd : s.StationsDistinct) (hdue : s.link.due = ns.map .station)
    (hb : ∀ n ∈ ns, ∀ b, s.station n = some b → s.Blocked b) :
    s.settle = s.setLink ({ s.link with due := [] }.calmed ns) := by
  unfold State.settle
  rw [hdue]
  exact foldl_runArbiter_calmed (s := s.setLink { s.link with due := [] }) hd hb

end Sys2Proof.Machine
end

section
/-! PROOFS. Queue requests (R86, R87, R113): which labels join which sets, and what a request leaves when no base station can
be sent an update. -/

namespace Sys2Proof.Machine

variable {s t u : State} {a id n : Nat} {l : Label} {b : BaseStation}

/-! ### What the shelf side moves -/

/-- What lies off the shelf side: all but the common store, the Request Unit, the host side, the Price Engine, the Label
Service and the Base Station Link. -/
def State.offShelf (s : State) :=
  (s.powered, s.backed, s.tills, s.journal, s.exchange, s.net, s.guests, s.clock, s.freeIndex, s.pending)

theorem State.offShelf_frame (h : t.offShelf = s.offShelf) :
    (((t.withLogOf s).setPrice s.price).setLabels s.labels).setLink s.link = s := by
  unfold State.offShelf at h
  simp only [Prod.mk.injEq] at h
  obtain ⟨h1, h2, h3, h4, h5, h6, h7, h8, h9, h10⟩ := h
  cases s
  cases t
  cases h1; cases h2; cases h3; cases h4; cases h5; cases h6; cases h7; cases h8; cases h9; cases h10
  rfl

/-- Between two states only items, labels, base stations and the label counts have changed, the window's percentages as they
were. -/
structure Shelved (s t : State) : Prop where
  off : t.offShelf = s.offShelf
  window : t.price.down = s.price.down ∧ t.price.up = s.price.up
  writes : Writes s t labelCountBytes

theorem Shelved.refl (s : State) : Shelved s s := ⟨rfl, ⟨rfl, rfl⟩, .refl s _⟩

theorem Shelved.trans (h : Shelved s t) (h' : Shelved t u) : Shelved s u :=
  ⟨h'.off.trans h.off, ⟨h'.window.1.trans h.window.1, h'.window.2.trans h.window.2⟩, h.writes.trans h'.writes⟩

theorem Shelved.putItem (s : State) (i : Item) : Shelved s (s.putItem i) := ⟨rfl, ⟨rfl, rfl⟩, .of_eq rfl rfl rfl⟩

theorem Shelved.setLink (s : State) (k : StationLink) : Shelved s (s.setLink k) := ⟨rfl, ⟨rfl, rfl⟩, .of_eq rfl rfl rfl⟩

theorem Shelved.setLabels (s : State) (x : LabelService) : Shelved s (s.setLabels x) :=
  ⟨rfl, ⟨rfl, rfl⟩, .of_eq rfl rfl rfl⟩

theorem Shelved.setDirectory (s : State) (x : Table Label) : Shelved s (s.setDirectory x) := by
  refine ⟨?_, by simp, (Writes.refl s _).setDirectory x⟩
  rw [s.setDirectory_eq]
  rfl

theorem Shelved.putLabel (s : State) (l : Label) : Shelved s (s.putLabel l) := .setDirectory s _

theorem Shelved.joinSet (s : State) (l : Label) : Shelved s (s.joinSet l) := by
  unfold State.joinSet
  split
  · exact .setLabels s _
  · split
    · exact .refl s
    · split
      · exact .refl s
      · exact .setLink s _

theorem Shelved.leaveSet (s : State) (l : Label) : Shelved s (s.leaveSet l) := by
  unfold State.leaveSet
  split
  · exact .setLabels s _
  · split
    · exact .refl s
    · exact .setLink s _

theorem Shelved.queue (s : State) (l : Label) : Shelved s (s.queue l) := (Shelved.putLabel s _).trans (.joinSet _ _)

theorem Shelved.staleReport (s : State) (a id : Nat) (up : Bool) : Shelved s (s.staleReport a id up) := by
  unfold State.staleReport
  split
  · exact .refl s
  · split
    · exact .putItem s _
    · exact .refl s

theorem Shelved.queueLabel (k : QueueKind) (a : Nat) (s : State) (id : Nat) : Shelved s (State.queueLabel k a s id) := by
  unfold State.queueLabel
  split
  · exact .refl s
  · split
    · exact .queue s _
    · exact .refl s
    · exact .putLabel s _
    · split
      · exact (Shelved.queue s _).trans (.staleReport _ _ _ _)
      · exact .refl s
    · exact .refl s

theorem Shelved.queueRequest (k : QueueKind) (a : Nat) (s : State) (ids : List Nat) : Shelved s (s.queueRequest k a ids) := by
  unfold State.queueRequest
  induction ids generalizing s with
  | nil => exact .refl s
  | cons id ids ih => exact (Shelved.queueLabel k a s id).trans (ih _)

/-! ### Labels that join their sets -/

/-- Between two states labels have joined the sets of the homes that `js` pairs them with, and arbiter runs may have been asked
for; the rest of the stations and of the Label Service is as it was, the directory aside. -/
structure Joined (s t : State) (js : Nat → Option Nat → Prop) : Prop where
  homeless : ∀ id, id ∈ t.labels.homeless ↔ id ∈ s.labels.homeless ∨ js id none
  stations : ∀ n b, s.station n = some b → ∃ x, t.station n = some x ∧ x = { b with ready := x.ready }
    ∧ ∀ id, id ∈ x.ready ↔ id ∈ b.ready ∨ js id (some n)
  ids : t.link.table.map BaseStation.id = s.link.table.map BaseStation.id
  rest : t.labels.templates = s.labels.templates ∧ t.labels.maxAttempts = s.labels.maxAttempts
  link : { t.link with table := s.link.table, due := s.link.due } = s.link
  due : ∃ ns : List Nat, t.link.due = s.link.due ++ ns.map .station ∧ ∀ n ∈ ns, ∃ id, js id (some n)

theorem Joined.of_eq {js : Nat → Option Nat → Prop} (hh : t.labels.homeless = s.labels.homeless)
    (hr : t.labels.templates = s.labels.templates ∧ t.labels.maxAttempts = s.labels.maxAttempts)
    (hl : t.link = s.link) (hj : ∀ id h, ¬ js id h) : Joined s t js where
  homeless id := by rw [hh]; simp [hj]
  stations n b h := ⟨b, by unfold State.station; rw [hl]; exact h, rfl, fun id => by simp [hj]⟩
  ids := by rw [hl]
  rest := hr
  link := by rw [hl]
  due := ⟨[], by rw [hl]; simp, nofun⟩

theorem Joined.mono {js js' : Nat → Option Nat → Prop} (h : Joined s t js) (hj : ∀ id h, js id h ↔ js' id h) :
    Joined s t js' where
  homeless id := by rw [h.homeless, hj]
  stations n b hb := by
    obtain ⟨x, h1, h2, h3⟩ := h.stations n b hb
    exact ⟨x, h1, h2, fun id => by rw [h3, hj]⟩
  ids := h.ids
  rest := h.rest
  link := h.link
  due := by
    obtain ⟨ns, h1, h2⟩ := h.due
    exact ⟨ns, h1, fun n hn => (h2 n hn).imp fun id hid => (hj id _).mp hid⟩

theorem Joined.trans {js js' : Nat → Option Nat → Prop} (h : Joined s t js) (h' : Joined t u js') :
    Joined s u (fun id x => js id x ∨ js' id x) where
  homeless id := by rw [h'.homeless, h.homeless, or_assoc]
  stations n b hb := by
    obtain ⟨x, h1, h2, h3⟩ := h.stations n b hb
    obtain ⟨y, h4, h5, h6⟩ := h'.stations n x h1
    refine ⟨y, h4, ?_, fun id => by rw [h6, h3, or_assoc]⟩
    rw [h5, h2]
  ids := h'.ids.trans h.ids
  rest := ⟨h'.rest.1.trans h.rest.1, h'.rest.2.trans h.rest.2⟩
  link := (congrArg (fun k : StationLink => { k with table := s.link.table, due := s.link.due }) h'.link).trans h.link
  due := by
    obtain ⟨ms, hm, hm'⟩ := h.due
    obtain ⟨ns, hn, hn'⟩ := h'.due
    refine ⟨ms ++ ns, by rw [hn, hm, List.append_assoc, List.map_append], fun n hmem => ?_⟩
    rcases List.mem_append.mp hmem with hx | hx
    · exact (hm' n hx).imp fun _ => .inl
    · exact (hn' n hx).imp fun _ => .inr

theorem Joined.putLabel (s : State) (l : Label) : Joined s (s.putLabel l) (fun _ _ => False) := by
  have h := s.setDirectory_labels (s.labels.directory.put l.id l)
  have h1 : (s.putLabel l).labels = { s.labels with directory := s.labels.directory.put l.id l } := h
  exact .of_eq (by rw [h1]) (by rw [h1]; exact ⟨rfl, rfl⟩) (by unfold State.putLabel; simp) (fun _ _ h => h)

theorem Joined.joinSet (s : State) (l : Label) : Joined s (s.joinSet l) (fun id h => id = l.id ∧ h = l.home) := by
  unfold State.joinSet
  cases hh : l.home with
  | none =>
    dsimp only
    refine ⟨fun id => ?_, fun n b hb => ⟨b, hb, rfl, fun id => by simp⟩, rfl, ⟨rfl, rfl⟩, rfl, ⟨[], by simp, nofun⟩⟩
    rw [State.setLabels_labels, mem_setAdd]
    simp
  | some home =>
    dsimp only
    cases hb : s.station home with
    | none =>
      dsimp only
      refine ⟨fun id => by simp, fun n b hn => ⟨b, hn, rfl, fun id => ?_⟩, rfl, ⟨rfl, rfl⟩, rfl, ⟨[], by simp, nofun⟩⟩
      have hne : n ≠ home := by rintro rfl; rw [hb] at hn; exact nomatch hn
      simp [hne]
    | some b =>
      dsimp only
      split
      · rename_i hmem
        refine ⟨fun id => by simp, fun n x hn => ⟨x, hn, rfl, fun id => ?_⟩, rfl, ⟨rfl, rfl⟩, rfl, ⟨[], by simp, nofun⟩⟩
        refine ⟨.inl, ?_⟩
        rintro (h | ⟨h1, h2⟩)
        · exact h
        · cases h2
          rw [hb] at hn
          cases hn
          rw [h1]
          exact hmem
      · have hid := (State.station_some hb).2
        refine ⟨fun id => ?_, fun n x hn => ?_, ?_, ⟨rfl, rfl⟩, rfl, ⟨[home], rfl, by simp⟩⟩
        · show id ∈ s.labels.homeless ↔ _
          simp
        · by_cases hne : n = home
          · subst hne
            rw [hb] at hn
            cases hn
            refine ⟨{ b with ready := setAdd b.ready l.id }, State.station_putStation_same hb hid, rfl, fun id => ?_⟩
            rw [mem_setAdd]
            simp
          · refine ⟨x, ?_, rfl, fun id => by simp [hne]⟩
            exact (State.station_putStation_other (by rw [hid]; exact hne)).trans hn
        · exact s.ids_putStation { b with ready := setAdd b.ready l.id }

theorem Joined.queue (s : State) (l : Label) : Joined s (s.queue l) (fun id h => id = l.id ∧ h = l.home) :=
  ((Joined.putLabel s { l with phase := .queued }).trans (.joinSet _ { l with phase := .queued })).mono
    (fun _ _ => by simp)

theorem State.staleReport_labels (s : State) (a id : Nat) (up : Bool) : (s.staleReport a id up).labels = s.labels := by
  unfold State.staleReport
  split
  · rfl
  · split
    · rfl
    · rfl

theorem State.staleReport_link (s : State) (a id : Nat) (up : Bool) : (s.staleReport a id up).link = s.link := by
  unfold State.staleReport
  split
  · rfl
  · split
    · rfl
    · rfl

theorem Joined.staleReport (s : State) (a id : Nat) (up : Bool) : Joined s (s.staleReport a id up) (fun _ _ => False) :=
  .of_eq (by rw [State.staleReport_labels]) (by rw [State.staleReport_labels]; exact ⟨rfl, rfl⟩)
    (State.staleReport_link s a id up) (fun _ _ h => h)

/-- A queue request makes a label of a home join its set: the label was not QUEUED and is now (R86, R87). -/
def Requeues (k : QueueKind) (L : Nat → Option Label) (id : Nat) (home : Option Nat) : Prop :=
  ∃ l, L id = some l ∧ l.home = home ∧ l.phase ≠ .queued ∧ (l.requeued k).phase = .queued

theorem Joined.queueLabel {k : QueueKind} (a : Nat) (hL : ∀ l, s.label id = some l → l.id = id) :
    Joined s (State.queueLabel k a s id) (fun x h => x = id ∧ Requeues k s.label id h) := by
  have hnone : ∀ {t : State}, Joined s t (fun _ _ => False) → (∀ h, ¬ Requeues k s.label id h) →
      Joined s t (fun x h => x = id ∧ Requeues k s.label id h) := fun ht hn => ht.mono (fun _ h => by simp [hn h])
  have hsome : ∀ {t : State} {l : Label}, s.label id = some l → l.phase ≠ .queued → (l.requeued k).phase = .queued →
      Joined s t (fun x h => x = id ∧ h = l.home) → Joined s t (fun x h => x = id ∧ Requeues k s.label id h) := by
    intro t l hl h1 h2 ht
    refine ht.mono (fun x h => and_congr_right fun _ => ?_)
    unfold Requeues
    simp only [hl, Option.some.injEq, exists_eq_left']
    exact ⟨fun h => ⟨h.symm, h1, h2⟩, fun ⟨h, _⟩ => h.symm⟩
  have hstill : Joined s s (fun _ _ => False) := .of_eq rfl ⟨rfl, rfl⟩ rfl (fun _ _ h => h)
  unfold State.queueLabel
  cases hl : s.label id with
  | none => exact hnone hstill (fun h ⟨l, hl', _⟩ => by rw [hl] at hl'; exact nomatch hl')
  | some l =>
    have hlid := hL l hl
    have hoff : (l.requeued k).phase ≠ .queued ∨ l.phase = .queued → ∀ h, ¬ Requeues k s.label id h := by
      rintro hor h ⟨l', hl', -, h1, h2⟩
      rw [hl] at hl'
      cases hl'
      exact hor.elim (fun h => h h2) (fun h => h1 h)
    dsimp only
    cases hp : l.phase with
    | idle =>
      refine hsome hl (by rw [hp]; decide) (by simp [Label.requeued, hp]) ?_
      have := Joined.queue s l
      rwa [hlid] at this
    | queued => exact hnone hstill (hoff (.inr hp))
    | sent =>
      refine hnone (.putLabel s _) (hoff (.inl ?_))
      simp [Label.requeued, hp]
    | stale =>
      cases k with
      | newTarget =>
        refine hsome hl (by rw [hp]; decide) (by simp [Label.requeued, hp]) ?_
        have := (Joined.queue s { l with attempts := 0, staleReason := .noReason }).trans (.staleReport _ a id false)
        refine this.mono (fun x h => ?_)
        dsimp only
        rw [hlid, or_false]
      | text => exact hnone hstill (hoff (.inl (by simp [Label.requeued, hp])))
    | unbinding => exact hnone hstill (hoff (.inl (by simp [Label.requeued, hp])))

theorem State.label_queueLabel_other {k : QueueKind} (hL : ∀ l, s.label id = some l → l.id = id) {x : Nat} (hx : x ≠ id) :
    (State.queueLabel k a s id).label x = s.label x := by
  unfold State.queueLabel
  cases hl : s.label id with
  | none => rfl
  | some l =>
    have hlid := hL l hl
    have hput : ∀ m : Label, m.id = id → (s.putLabel m).label x = s.label x := fun m hm => by
      rw [State.label_putLabel, if_neg (by rw [hm]; exact hx)]
    have hqueue : ∀ m : Label, m.id = id → (s.queue m).label x = s.label x := fun m hm => by
      rw [State.label_queue, if_neg (by rw [hm]; exact hx)]
    dsimp only
    split
    · exact hqueue l hlid
    · rfl
    · exact hput _ hlid
    · split
      · have : ∀ t : State, (t.staleReport a id false).label x = t.label x := fun t => by
          unfold State.label; rw [State.staleReport_labels]
        rw [this]
        exact hqueue _ hlid
      · rfl
    · rfl

theorem Joined.queueRequest {k : QueueKind} {ids : List Nat} (hn : ids.Nodup)
    (hL : ∀ id ∈ ids, ∀ l, s.label id = some l → l.id = id) :
    Joined s (s.queueRequest k a ids) (fun x h => x ∈ ids ∧ Requeues k s.label x h) := by
  induction ids generalizing s with
  | nil => exact .of_eq rfl ⟨rfl, rfl⟩ rfl (fun _ _ h => by simp at h)
  | cons id ids ih =>
    obtain ⟨hid, hn'⟩ := List.nodup_cons.mp hn
    have h1 := Joined.queueLabel (k := k) a (hL id (by simp))
    have hsame : ∀ y ∈ ids, (State.queueLabel k a s id).label y = s.label y := fun y hy =>
      State.label_queueLabel_other (hL id (by simp)) (by rintro rfl; exact hid hy)
    have h2 := ih (s := State.queueLabel k a s id) hn' (fun y hy l hl => by
      rw [hsame y hy] at hl; exact hL y (by simp [hy]) l hl)
    refine (h1.trans h2).mono (fun x h => ?_)
    rw [List.mem_cons, or_and_right]
    refine or_congr ?_ (and_congr_right fun hx => ?_)
    · exact and_congr_right fun hx => by rw [hx]
    · unfold Requeues
      rw [hsame x hx]

/-! ### No station can be sent an update -/

theorem Requeues.iff {k : QueueKind} {L : Nat → Option Label} {id : Nat} {h : Option Nat} : Requeues k L id h ↔
    ∃ l, L id = some l ∧ l.home = h ∧ l.phase ≠ .queued ∧ (l.requeued k).phase = .queued := Iff.rfl

/-- A queue request while no station can be sent an update: once the arbiter has run, every label waits (R87, R113). -/
theorem LabelsQueued.of_joined {k : QueueKind} {ids : List Nat} (hd : s.StationsDistinct) (hdue : s.link.due = [])
    (hns : s.NoSends) (hj : Joined s u (fun x h => x ∈ ids ∧ Requeues k s.label x h))
    (hlabel : ∀ x, u.label x = if x ∈ ids then (s.label x).map (Label.requeued k) else s.label x)
    (hpick : ∀ id ∈ ids, ∀ l, s.label id = some l → (l.requeued k).phase = .queued → (u.pick (l.requeued k)).isSome) :
    ∃ K : StationLink, ∀ w : State, w.price = u.price → w.labels = u.labels → w.link = u.link →
      w.settle = w.setLink K ∧ LabelsQueued s w.settle ids (Label.requeued k) := by
  obtain ⟨ns, hns', -⟩ := hj.due
  rw [hdue, List.nil_append] at hns'
  refine ⟨{ u.link with due := [] }.calmed ns, fun w hp hl hk => ?_⟩
  have hstation : ∀ n, w.station n = u.station n := fun n => by unfold State.station; rw [hk]
  have hlab : ∀ x, w.label x = u.label x := fun x => by unfold State.label; rw [hl]
  have hpw : ∀ m, w.pick m = u.pick m := fun m => by
    unfold State.pick State.item
    rw [hp, hl]
  have hback : ∀ n x, u.station n = some x → ∃ b, s.station n = some b := by
    intro n x hx
    obtain ⟨hm, hid⟩ := State.station_some hx
    have : n ∈ s.link.table.map BaseStation.id := by
      rw [← hj.ids, ← hid]
      exact List.mem_map_of_mem hm
    obtain ⟨b, hb, hbn⟩ := List.mem_map.mp this
    exact ⟨b, by rw [← hbn]; exact hd.station hb⟩
  have hsettle : w.settle = w.setLink ({ u.link with due := [] }.calmed ns) := by
    rw [← hk]
    refine State.settle_of_blocked (by unfold State.StationsDistinct; rw [hk, hj.ids]; exact hd) (by rw [hk]; exact hns')
      (fun n _ x hx => ?_)
    rw [hstation] at hx
    obtain ⟨b, hb⟩ := hback n x hx
    obtain ⟨y, hy, hyx, hready⟩ := hj.stations n b hb
    rw [hx] at hy
    cases hy
    have hcost : x.phase = b.phase ∧ x.credit = b.credit ∧ x.costInFlight = b.costInFlight := by
      rw [hyx]; exact ⟨rfl, rfl, rfl⟩
    rcases hns b (State.station_some hb).1 with hlost | ⟨hcr, hempty⟩
    · exact .inl (hcost.1.trans hlost)
    · refine .inr (.inr ⟨by rw [hcost.2.1, hcost.2.2]; exact hcr, fun id hid => ?_⟩)
      obtain hr | ⟨hids, l, hl', -, -, hq⟩ := (hready id).mp hid
      · rw [hempty] at hr; cases hr
      · obtain ⟨up, hup⟩ := Option.isSome_iff_exists.mp (hpick id hids l hl' hq)
        refine ⟨l.requeued k, up, ?_, (hpw _).trans hup⟩
        rw [hlab, hlabel, if_pos hids, hl']
        rfl
  rw [hsettle]
  refine ⟨rfl, fun id hid l hl' => ?_, fun id hid => ?_, fun id => ?_, fun n b hb => ?_, ?_, ?_⟩
  · show w.label id = _
    rw [hlab, hlabel, if_pos hid, hl']
    rfl
  · show w.label id = _
    rw [hlab, hlabel, if_neg hid]
  · show id ∈ w.labels.homeless ↔ _
    rw [hl, hj.homeless, Requeues.iff]
  · obtain ⟨x, hx, hxb, hready⟩ := hj.stations n b hb
    refine ⟨x.calmed ns, ?_, ?_, fun id => ?_⟩
    · rw [State.station_calmed w _ (by rw [hk]), hstation, hx]
      rfl
    · rw [BaseStation.calmed_ready]
      refine (x.calmed_eq ns).trans ?_
      generalize (x.calmed ns).waitingForBuffer = flag
      rw [hxb]
    · rw [BaseStation.calmed_ready, hready, Requeues.iff]
  · show w.labels.templates = _ ∧ w.labels.maxAttempts = _
    rw [hl]
    exact hj.rest
  · show { ({ u.link with due := [] }.calmed ns) with table := s.link.table } = s.link
    conv_rhs => rw [← hj.link, hdue]
    rfl

end Sys2Proof.Machine
end

section
/-! PROOFS. Campaigns (R12, R87): a queue request that finds every label busy, one made while no base station can be sent an
update, and what they make of a placed version. -/

namespace Sys2Proof.Machine

variable {s t u : State} {a id n : Nat} {l : Label} {i : Item} {k : QueueKind}

/-! ### Records replaced in their state -/

theorem Table.put_of_find {α : Type} {t : Table α} {k : Nat} {v : α} (x : α) (hr : Table.rising t)
    (h : Table.find t k = some v) : Table.put t k x = t.map (fun e => if e.1 = k then (k, x) else e) := by
  induction t with
  | nil => exact nomatch h
  | cons y t ih =>
    obtain ⟨c, w⟩ := y
    obtain ⟨h1, h2⟩ := List.pairwise_cons.mp hr
    simp only [Table.find] at h
    simp only [Table.put, List.map_cons]
    by_cases hk : c = k
    · subst hk
      rw [if_neg (by omega), if_pos rfl, if_pos rfl]
      congr 1
      conv_lhs => rw [← List.map_id t]
      refine List.map_congr_left fun e he => ?_
      have := h1 e he
      rw [if_neg (by simp only at this; omega)]
      rfl
    · rw [if_neg hk] at h
      have hlt : c < k := by
        have := h1 (k, v) (Table.mem_of_find h)
        exact this
      rw [if_neg (by omega), if_neg (fun h' => hk h'.symm), if_neg hk, ih h2 h]

/-- A record stored in the state it had leaves the five counts (R78). -/
theorem phaseCounts_put {d : Table Label} {m : Label} (hr : Table.rising d) (h : Table.find d m.id = some l)
    (hp : m.phase = l.phase) : phaseCounts (Table.put d m.id m) = phaseCounts d := by
  have hc : ∀ p, phaseCount (Table.put d m.id m) p = phaseCount d p := by
    intro p
    unfold phaseCount
    rw [Table.put_of_find m hr h, List.countP_map]
    refine List.countP_congr fun e he => ?_
    rw [Function.comp_apply]
    split
    · rename_i hk
      have hf := Table.find_of_mem hr (k := e.1) (v := e.2) he
      rw [hk, h] at hf
      cases hf
      rw [hp]
    · rfl
  unfold phaseCounts
  rw [hc, hc, hc, hc, hc]

theorem State.putLabel_of_phase (hr : Table.rising s.labels.directory) {m : Label} (hl : s.label m.id = some l)
    (hp : m.phase = l.phase) :
    s.putLabel m = s.setLabels { s.labels with directory := s.labels.directory.put m.id m } := by
  unfold State.putLabel State.setDirectory
  exact if_pos (phaseCounts_put hr hl hp)

/-! ### Every label busy -/

/-- A queue request of a kind leaves the label's state (R87). -/
def Label.Busy (k : QueueKind) (l : Label) : Prop :=
  l.phase = .queued ∨ l.phase = .sent ∨ (l.phase = .stale ∧ k = .text)

/-- What a queue request makes of a busy label: the again flag, if it is SENT (R87). -/
def Label.nudged (l : Label) : Label := { l with again := l.again || l.phase == .sent }

/-- Between two states only records of busy labels have been replaced, each as a queue request makes it. -/
structure Nudged (s t : State) (ids : List Nat) : Prop where
  frame : ∃ d, t = s.setLabels { s.labels with directory := d }
  labels : ∀ x, t.label x = if x ∈ ids then (s.label x).map Label.nudged else s.label x
  rising : Table.rising t.labels.directory

theorem State.queueLabel_of_busy (hl : s.label id = some l) (hb : l.Busy k) :
    State.queueLabel k a s id = if l.phase = .sent then s.putLabel l.nudged else s := by
  unfold State.queueLabel
  rw [hl]
  dsimp only
  unfold Label.nudged
  rcases hb with hp | hp | ⟨hp, rfl⟩
  · simp [hp]
  · simp [hp]
  · simp [hp]

theorem Nudged.queueLabel (hr : Table.rising s.labels.directory) (hid : ∀ l, s.label id = some l → l.id = id)
    (hl : s.label id = some l) (hb : l.Busy k) : Nudged s (State.queueLabel k a s id) [id] := by
  have hlid := hid l hl
  rw [State.queueLabel_of_busy hl hb]
  split
  · rw [State.putLabel_of_phase hr (m := l.nudged) (l := l) (by show s.label l.id = _; rw [hlid]; exact hl) rfl]
    refine ⟨⟨_, rfl⟩, fun x => ?_, Table.put_rising _ _ hr⟩
    show Table.find (Table.put _ _ _) x = _
    rw [Table.find_put]
    by_cases hx : x = id
    · subst hx
      rw [if_pos (show x = l.nudged.id from hlid.symm), if_pos (by simp), hl]
      rfl
    · rw [if_neg (show ¬ x = l.nudged.id from fun h => hx (h.trans hlid)), if_neg (by simpa using hx)]
      rfl
  · rename_i hp
    refine ⟨⟨_, rfl⟩, fun x => ?_, hr⟩
    split
    · rename_i hx
      rw [List.mem_singleton] at hx
      rw [hx, hl, Option.map_some]
      unfold Label.nudged
      have : (l.phase == .sent) = false := by simpa using hp
      rw [this, Bool.or_false]
    · rfl

theorem Label.nudged_nudged (l : Label) : l.nudged.nudged = l.nudged := by
  unfold Label.nudged
  simp

theorem Label.Busy.nudged (h : l.Busy k) : l.nudged.Busy k := h

/-- A queue request that finds every label busy (R87). -/
theorem Nudged.queueRequest {ids : List Nat} (hr : Table.rising s.labels.directory)
    (hid : ∀ x l, s.label x = some l → l.id = x) (hb : ∀ id ∈ ids, ∃ l, s.label id = some l ∧ l.Busy k) :
    Nudged s (s.queueRequest k a ids) ids := by
  induction ids generalizing s with
  | nil => exact ⟨⟨_, rfl⟩, fun x => by rw [if_neg (by simp)]; rfl, hr⟩
  | cons id ids ih =>
    obtain ⟨l, hl, hlb⟩ := hb id (by simp)
    have h1 := Nudged.queueLabel (a := a) hr (hid id) hl hlb
    have hsome : ∀ x m, s.label x = some m → ∃ m', (State.queueLabel k a s id).label x = some m' ∧ (m' = m ∨ m' = m.nudged) := by
      intro x m hm
      rw [h1.labels, hm]
      split
      · exact ⟨_, rfl, .inr rfl⟩
      · exact ⟨_, rfl, .inl rfl⟩
    have h2 := ih (s := State.queueLabel k a s id) h1.rising
      (fun x m hm => by
        rw [h1.labels] at hm
        split at hm
        · obtain ⟨m', hm', rfl⟩ := Option.map_eq_some_iff.mp hm
          exact hid x m' hm'
        · exact hid x m hm)
      (fun y hy => by
        obtain ⟨m, hm, hmb⟩ := hb y (by simp [hy])
        obtain ⟨m', hm', rfl | rfl⟩ := hsome y m hm
        · exact ⟨_, hm', hmb⟩
        · exact ⟨_, hm', hmb.nudged⟩)
    refine ⟨?_, fun x => ?_, h2.rising⟩
    · obtain ⟨d, hd⟩ := h1.frame
      obtain ⟨e, he⟩ := h2.frame
      refine ⟨e, ?_⟩
      calc s.queueRequest k a (id :: ids) = (State.queueLabel k a s id).queueRequest k a ids := rfl
        _ = _ := he
        _ = _ := by rw [hd]; rfl
    · show ((State.queueLabel k a s id).queueRequest k a ids).label x = _
      rw [h2.labels, h1.labels]
      by_cases hx : x = id
      · subst hx
        rw [if_pos List.mem_cons_self, if_pos List.mem_cons_self, Option.map_map]
        have : Label.nudged ∘ Label.nudged = Label.nudged := funext fun m => m.nudged_nudged
        rw [this]
        split
        · rfl
        · rfl
      · rw [if_neg (show x ∉ [id] by simpa using hx)]
        by_cases hm : x ∈ ids
        · rw [if_pos hm, if_pos (List.mem_cons_of_mem _ hm)]
        · rw [if_neg hm, if_neg (by simp [hx, hm])]

theorem Nudged.writes {ids : List Nat} (h : Nudged s t ids) (own : Nat → Bool) : Writes s t own := by
  obtain ⟨d, hd⟩ := h.frame
  rw [hd]
  exact .of_eq rfl rfl rfl

theorem Nudged.label_some {ids : List Nat} (h : Nudged s t ids) {id : Nat} (hid : id ∈ ids) (hl : s.label id = some l) :
    t.label id = some { l with again := l.again || l.phase == .sent } := by
  rw [h.labels, if_pos hid, hl]
  rfl

/-! ### A version placed -/

/-- The item of a campaign that has just started (R12). -/
def Item.campaign (i : Item) (base : Nat) (promo : Option Promotion) : Item :=
  { i with
    pending := some { number := nextNumber i.lastVersion, base := base, promo := promo }, waiting := none
    lastVersion := nextNumber i.lastVersion, outstanding := i.labels.length }

/-- The item of a version that is current at once (R11). -/
def Item.atOnce (i : Item) (base : Nat) (promo : Option Promotion) : Item :=
  { i with
    current := { number := nextNumber i.lastVersion, base := base, promo := promo }, waiting := none
    lastVersion := nextNumber i.lastVersion }

theorem State.placeVersion_of_none (s : State) (base : Nat) (promo : Option Promotion) (h : i.labels = []) :
    s.placeVersion i base promo = (s.putItem (i.atOnce base promo), .current, nextNumber i.lastVersion) := if_pos h

theorem State.placeVersion_of_labels (s : State) (base : Nat) (promo : Option Promotion) (h : i.labels ≠ []) :
    s.placeVersion i base promo = ((s.putItem (i.campaign base promo)).queueRequest .newTarget i.article i.labels,
      .pending, nextNumber i.lastVersion) := if_neg h

theorem Nudged.campaign (hb : s.TablesBounded) (base : Nat) (promo : Option Promotion) (h : s.LabelsBusy i) :
    Nudged (s.putItem (i.campaign base promo))
      ((s.putItem (i.campaign base promo)).queueRequest .newTarget i.article i.labels) i.labels :=
  Nudged.queueRequest (s.tablesBounded_iff.mp hb).2.1.1 (fun _ _ hl => hb.labelId hl) (fun id hid => by
    obtain ⟨l, hl, hp⟩ := h id hid
    exact ⟨l, hl, hp.imp (fun h => h) .inl⟩)

/-- A campaign started over labels that are all QUEUED or SENT (R12, R87). -/
theorem CampaignStarted.of_placed (hb : s.TablesBounded) {base : Nat} {promo : Option Promotion} (h : s.LabelsBusy i)
    (ht : let u := (s.putItem (i.campaign base promo)).queueRequest .newTarget i.article i.labels
      t.withLogOf u = u) : CampaignStarted s t i base promo := by
  have hn := Nudged.campaign hb base promo h
  dsimp only at ht
  generalize (s.putItem (i.campaign base promo)).queueRequest .newTarget i.article i.labels = u at hn ht
  obtain ⟨d, hd⟩ := hn.frame
  have hprice : t.price = (s.putItem (i.campaign base promo)).price := by
    rw [State.price_withLog ht, hd]
    rfl
  have hitem : ∀ x, t.item x = (s.putItem (i.campaign base promo)).item x := fun x => by unfold State.item; rw [hprice]
  have hlabels := State.labels_withLog ht
  rw [hd] at hlabels
  refine ⟨?_, fun x hx => ?_, fun id hid l hl => ?_, fun id hid => ?_, ?_, ?_, ?_⟩
  · rw [hitem, State.item_putItem]
    exact if_pos rfl
  · rw [hitem, State.item_putItem]
    exact if_neg hx
  · rw [State.label_withLog ht]
    exact hn.label_some hid hl
  · rw [State.label_withLog ht, hn.labels, if_neg hid]
    rfl
  · rw [hlabels]
    exact ⟨rfl, rfl⟩
  · rw [hprice]
    exact ⟨rfl, rfl⟩
  · refine (congrArg (fun x : State => ((x.withLogOf s).setPrice s.price).setLabels s.labels) ht).trans ?_
    rw [hd]
    cases s
    rfl

theorem Label.retargeted_eq (l : Label) : l.retargeted = l.requeued .newTarget := by
  unfold Label.retargeted Label.requeued
  cases l.phase <;> rfl

theorem Label.retexted_eq (l : Label) : l.retexted = l.requeued .text := by
  unfold Label.retexted Label.requeued
  cases l.phase <;> rfl

theorem recovered_newTarget (s : State) (ids : List Nat) :
    recovered .newTarget s.label ids = ids.countP (fun id => (s.label id).map Label.phase == some .stale) := by
  unfold recovered
  refine List.countP_congr fun id _ => ?_
  cases s.label id with
  | none => simp [isStale]
  | some l => simp [isStale]

theorem State.pick_of_queued (hp : l.phase = .queued) (ha : l.article = some a) (hi : s.item a = some i)
    (hc : l.confirmed ≠ some (i.target l.template)) :
    s.pick l = some (buildUpdate l ((s.labels.templates.find l.template).getD .blank) i) := by
  unfold State.pick
  rw [hp, ha]
  dsimp only [Option.bind_some]
  rw [hi]
  exact if_neg hc

/-- An item's record replaced and its labels requested while no base station can be sent an update: what the items are, and
that every label waits once the arbiter has run (R20, R87). -/
theorem queueRequest_waits (hb : s.TablesBounded) (hdue : s.link.due = []) {j : Item} (k : QueueKind)
    (hn : j.labels.Nodup) (hns : s.NoSends)
    (hl : ∀ id ∈ j.labels, ∃ l, s.label id = some l ∧ l.article = some j.article
      ∧ l.confirmed ≠ some (j.target l.template)) :
    let u := (s.putItem j).queueRequest k j.article j.labels
    (∀ x, u.item x = if x = j.article then
        some { j with staleCount := j.staleCount - recovered k s.label j.labels } else s.item x)
      ∧ ∃ K : StationLink, ∀ w : State, w.price = u.price → w.labels = u.labels → w.link = u.link →
        w.settle = w.setLink K ∧ LabelsQueued s w.settle j.labels (Label.requeued k) := by
  intro u
  have hid : ∀ x l, (s.putItem j).label x = some l → l.id = x := fun _ _ h => hb.labelId h
  have hreads := State.Reads.queueRequest (k := k) (State.reads_self (s.putItem j)) (a := j.article) (i := j)
    (by rw [State.item_putItem]; exact if_pos rfl) rfl hn (fun _ h => h) hid
  have hitem : ∀ x, u.item x = if x = j.article then
      some { j with staleCount := j.staleCount - recovered k s.label j.labels } else s.item x := by
    intro x
    rw [hreads.item, Function.update_apply]
    split
    · rfl
    · rename_i hx
      rw [State.item_putItem]
      exact if_neg hx
  have hj : Joined s u (fun x h => x ∈ j.labels ∧ Requeues k s.label x h) :=
    ((Joined.of_eq rfl ⟨rfl, rfl⟩ rfl (fun _ _ h => h) : Joined s (s.putItem j) (fun _ _ => False)).trans
      (Joined.queueRequest hn (fun x _ l h => hid x l h))).mono (fun _ _ => by rw [false_or]; exact Iff.rfl)
  refine ⟨hitem, LabelsQueued.of_joined hb.stations hdue hns hj hreads.label (fun id hmem l hlab hq => ?_)⟩
  obtain ⟨l', hl', ha, hc⟩ := hl id hmem
  rw [hlab] at hl'
  cases hl'
  obtain ⟨-, hart, htemp, hconf, -⟩ := l.requeued_cases k
  rw [State.pick_of_queued (a := j.article) hq (by rw [hart]; exact ha) (by rw [hitem]; exact if_pos rfl)]
  · rfl
  · rw [hconf, htemp]
    exact hc

/-- A campaign started while no base station can be sent an update: every label of the item waits (R12, R20, R87). -/
theorem CampaignQueued.of_placed (hb : s.TablesBounded) (hdue : s.link.due = []) {base : Nat} {promo : Option Promotion}
    (hn : i.labels.Nodup) (hns : s.NoSends)
    (hl : ∀ id ∈ i.labels, ∃ l, s.label id = some l ∧ l.article = some i.article
      ∧ l.confirmed.map Confirmed.version ≠ some (nextNumber i.lastVersion)) :
    let u := (s.putItem (i.campaign base promo)).queueRequest .newTarget i.article i.labels
    ∃ K : StationLink, ∀ w : State, w.price = u.price → w.labels = u.labels → w.link = u.link →
      w.settle = w.setLink K ∧ (w.offShelf = s.offShelf → CampaignQueued s w.settle i base promo) := by
  intro u
  obtain ⟨hitem, K, hK⟩ := queueRequest_waits hb hdue (j := i.campaign base promo) .newTarget hn hns (fun id hid => by
    obtain ⟨l, h1, h2, h3⟩ := hl id hid
    exact ⟨l, h1, h2, fun h => h3 (by rw [h]; rfl)⟩)
  refine ⟨K, fun w hp hlw hk => ?_⟩
  obtain ⟨hset, hlq⟩ := hK w hp hlw hk
  have hwitem : ∀ x, w.settle.item x = u.item x := fun x => by
    rw [hset]
    unfold State.item
    rw [State.setLink_price, hp]
  have hshelf := (Shelved.putItem s (i.campaign base promo)).trans (.queueRequest .newTarget i.article _ i.labels)
  refine ⟨hset, fun hoff => ⟨?_, fun x hx => ?_, ?_, ?_, ?_⟩⟩
  · rw [hwitem, ← recovered_newTarget]
    exact (hitem _).trans (if_pos rfl)
  · rw [hwitem]
    exact (hitem x).trans (if_neg hx)
  · rw [show Label.retargeted = Label.requeued .newTarget from funext Label.retargeted_eq]
    exact hlq
  · rw [hset, State.setLink_price, hp]
    exact hshelf.window
  · rw [hset]
    exact State.offShelf_frame hoff

end Sys2Proof.Machine
end

section
/-! PROOFS. CONFIRM_CHANGE and REJECT_CHANGE (R12, R15, R16): O28. -/

namespace Sys2Proof.Machine

/-! ### Replies of a change -/

theorem dispositionBytes_length (d : Disposition) (v : Nat) : (dispositionBytes d v).length = 8 := by
  simp [dispositionBytes, zeros]

theorem changeReply_fitsIn (o : Nat) (x : ChangeResult) {n : Nat} (h : o + 8 ≤ n) : (changeReply o x).FitsIn n := by
  have hd : ∀ d v, o + (dispositionBytes d v).length ≤ n := fun d v => by rw [dispositionBytes_length]; exact h
  cases x <;> exact Reply.fitsIn_of_one_part rfl (hd _ _)

theorem State.queriedChange_none {s : State} {a : Nat}
    (h : ∀ i w, s.item a = some i → i.waiting = some w → w.queried = false) : s.queriedChange a = none := by
  unfold State.queriedChange
  cases hi : s.item a with
  | none => rfl
  | some i =>
    dsimp only
    cases hw : i.waiting with
    | none => rfl
    | some w =>
      dsimp only
      rw [h i w hi hw]
      rfl

theorem State.queriedChange_some {s : State} {a : Nat} {i : Item} {w : WaitingChange} (hi : s.item a = some i)
    (hw : i.waiting = some w) (hq : w.queried = true) : s.queriedChange a = some (i, w) := by
  unfold State.queriedChange
  rw [hi]
  dsimp only
  rw [hw]
  exact if_pos hq

section
variable {s : State} {r : RecordInHand}

/-- A price request that leaves one item record replaced. -/
theorem InHand.putsItem {k : RequestKind} (h : InHand s .price k r) (hk : k.code ∈ chainKinds .price)
    {f : State → List Byte → State × Reply} {i : Item} {rep : Reply} (hf : f s r.body = (s.putItem i, rep))
    (hfit : rep.FitsIn r.body.length) :
    ∃ t, (s.request .price k f).settle = t ∧ ItemPut s t i ∧ Answered s t .price r rep noBytes := by
  obtain ⟨t, h1, h2, -, h3⟩ := h.replies (own := noBytes) hk (by decide) hf ((OnlyItems.putItem s i).writes _)
    (fun _ ha => Bool.noConfusion ha) h.1.2.2 hfit
  exact ⟨t, h1, .putItem i h2, h3⟩

/-- A price request that starts a campaign over labels that are all QUEUED or SENT. -/
theorem InHand.startsCampaign {k : RequestKind} (h : InHand s .price k r) (hb : s.TablesBounded)
    (hk : k.code ∈ chainKinds .price) {f : State → List Byte → State × Reply} {i : Item} {base : Nat}
    {promo : Option Promotion} {rep : Reply} (hbusy : s.LabelsBusy i)
    (hf : f s r.body = ((s.putItem (i.campaign base promo)).queueRequest .newTarget i.article i.labels, rep))
    (hfit : rep.FitsIn r.body.length) :
    ∃ t, (s.request .price k f).settle = t ∧ CampaignStarted s t i base promo ∧ Answered s t .price r rep noBytes := by
  have hn := Nudged.campaign hb base promo hbusy
  have hlink : ((s.putItem (i.campaign base promo)).queueRequest .newTarget i.article i.labels).link = s.link := by
    obtain ⟨d, hd⟩ := hn.frame
    rw [hd]
    rfl
  obtain ⟨t, h1, h2, -, h3⟩ := h.replies (own := noBytes) hk (by decide) hf
    (((OnlyItems.putItem s _).writes _).trans (hn.writes _)) (fun _ ha => Bool.noConfusion ha)
    (by rw [hlink]; exact h.1.2.2) hfit
  exact ⟨t, h1, .of_placed hb hbusy h2, h3⟩

theorem labelCountBytes_low (a : Nat) (h : labelCountBytes a = true) : a < 0x3000 := by
  have := labelCountBytes_iff.mp h
  omega

/-- A price request that starts a campaign while no base station can be sent an update. -/
theorem InHand.queuesCampaign {k : RequestKind} (h : InHand s .price k r) (hb : s.TablesBounded)
    (hk : k.code ∈ chainKinds .price) {f : State → List Byte → State × Reply} {i : Item} {base : Nat}
    {promo : Option Promotion} {rep : Reply} (hn : i.labels.Nodup) (hns : s.NoSends)
    (hl : ∀ id ∈ i.labels, ∃ l, s.label id = some l ∧ l.article = some i.article
      ∧ l.confirmed.map Confirmed.version ≠ some (nextNumber i.lastVersion))
    (hf : f s r.body = ((s.putItem (i.campaign base promo)).queueRequest .newTarget i.article i.labels, rep))
    (hfit : rep.FitsIn r.body.length) :
    ∃ t, (s.request .price k f).settle = t ∧ CampaignQueued s t i base promo
      ∧ Answered s t .price r rep labelCountBytes := by
  have hshelf := (Shelved.putItem s (i.campaign base promo)).trans (.queueRequest .newTarget i.article _ i.labels)
  obtain ⟨w, rfl, h2, -, h3⟩ := h.settles hk (by decide) hf hshelf.writes labelCountBytes_low (fun _ ha => ha) hfit
  obtain ⟨K, hK⟩ := CampaignQueued.of_placed hb h.1.2.2 (base := base) (promo := promo) hn hns hl
  refine ⟨_, rfl, (hK _ (State.price_withLog h2) (State.labels_withLog h2) (State.link_withLog h2)).2 ?_, h3⟩
  exact (congrArg State.offShelf h2 :).trans hshelf.off

theorem confirmChangeBody_none {b : List Byte}
    (h : ∀ i w, s.item (leField b 0 8) = some i → i.waiting = some w → w.queried = false) :
    confirmChangeBody s b = (s, changeReply 8 .notFound) := by
  unfold confirmChangeBody
  rw [State.queriedChange_none h]

theorem confirmChangeBody_some {b : List Byte} {i : Item} {w : WaitingChange} (hi : s.item (leField b 0 8) = some i)
    (hw : i.waiting = some w) (hq : w.queried = true) : confirmChangeBody s b =
      if i.state = .settled then
        ((s.placeVersion i w.base w.promo).1,
          changeReply 8 (.placed (s.placeVersion i w.base w.promo).2.1 (s.placeVersion i w.base w.promo).2.2))
      else (s.putItem { i with waiting := some { w with queried := false } }, changeReply 8 (.placed .waiting 0)) := by
  unfold confirmChangeBody
  rw [State.queriedChange_some hi hw hq]

/-- A confirmed change of an item with labels starts a campaign (R12, R15). -/
theorem confirmChangeBody_campaign {b : List Byte} {i : Item} {w : WaitingChange} (hi : s.item (leField b 0 8) = some i)
    (hw : i.waiting = some w) (hq : w.queried = true) (hp : i.pending = none) (hl : i.labels ≠ []) :
    confirmChangeBody s b = ((s.putItem (i.campaign w.base w.promo)).queueRequest .newTarget i.article i.labels,
      .plain .ok [(8, leBytes 1 2 ++ zeros 3 ++ leBytes 4 (nextNumber i.lastVersion))]) := by
  rw [confirmChangeBody_some hi hw hq, if_pos (i.state_settled.mpr hp), State.placeVersion_of_labels s _ _ hl]
  rfl

theorem rejectChangeBody_some {b : List Byte} {i : Item} {w : WaitingChange} (hi : s.item (leField b 0 8) = some i)
    (hw : i.waiting = some w) (hq : w.queried = true) :
    rejectChangeBody s b = (s.putItem { i with waiting := none }, .plain .ok []) := by
  unfold rejectChangeBody
  rw [State.queriedChange_some hi hw hq]

theorem placedPart_fitsIn {o n : Nat} (d v : Nat) (h : o + 8 ≤ n) :
    (Reply.plain .ok [(o, leBytes 1 d ++ zeros 3 ++ leBytes 4 v)]).FitsIn n :=
  Reply.fitsIn_of_one_part rfl (by simp [zeros]; omega)

end

/-- Settles O28: a queried change by the state of its item, each branch one effect of the price side. -/
theorem waitingDecided : Obligations.WaitingDecided := by
  unfold Obligations.WaitingDecided
  refine ⟨fun s r h hb => ?_, fun s r h hb => ?_⟩
  · intro a
    have hlen : 8 + 8 ≤ r.body.length := h.2.2.2.2.1
    refine ⟨fun hnone => ?_, fun i w hi hw hq => ⟨fun hp => ?_, fun hp hl => ?_, fun hp hl hbusy => ?_,
      fun hp hl hn hns hlabels => ?_⟩⟩
    · obtain ⟨t, ht, h1, h2⟩ := h.refuses (by decide) (by decide) (confirmChangeBody_none hnone)
        (changeReply_fitsIn 8 .notFound hlen)
      exact ⟨t, powered_next h.1.1 ht, h1, h2⟩
    · have hf : confirmChangeBody s r.body
          = (s.putItem { i with waiting := some { base := w.base, promo := w.promo, queried := false } },
            changeReply 8 (.placed .waiting 0)) := by
        rw [confirmChangeBody_some hi hw hq, if_neg (fun hs => hp (i.state_settled.mp hs))]
      obtain ⟨t, ht, h1, h2⟩ := h.putsItem (by decide) hf (changeReply_fitsIn 8 _ hlen)
      exact ⟨t, powered_next h.1.1 ht, h1, h2⟩
    · have hf : confirmChangeBody s r.body = (s.putItem (i.atOnce w.base w.promo),
            .plain .ok [(8, leBytes 1 1 ++ zeros 3 ++ leBytes 4 (nextNumber i.lastVersion))]) := by
        rw [confirmChangeBody_some hi hw hq, if_pos (i.state_settled.mpr hp), State.placeVersion_of_none s _ _ hl]
        rfl
      obtain ⟨t, ht, h1, h2⟩ := h.putsItem (by decide) hf (placedPart_fitsIn _ _ hlen)
      exact ⟨t, powered_next h.1.1 ht, h1, h2⟩
    · obtain ⟨t, ht, h1, h2⟩ := h.startsCampaign hb (by decide) hbusy (confirmChangeBody_campaign hi hw hq hp hl)
        (placedPart_fitsIn _ _ hlen)
      exact ⟨t, powered_next h.1.1 ht, h1, h2⟩
    · rw [← hb.article hi] at hlabels
      obtain ⟨t, ht, h1, h2⟩ := h.queuesCampaign hb (by decide) hn hns hlabels
        (confirmChangeBody_campaign hi hw hq hp hl) (placedPart_fitsIn _ _ hlen)
      exact ⟨t, powered_next h.1.1 ht, h1, h2⟩
  · intro a
    refine ⟨fun hnone => ?_, fun i w hi hw hq => ?_⟩
    · have hf : rejectChangeBody s r.body = (s, .plain .notFound []) := by
        unfold rejectChangeBody
        rw [State.queriedChange_none hnone]
      obtain ⟨t, ht, h1, h2⟩ := h.refuses (by decide) (by decide) hf (Reply.fitsIn_of_no_parts rfl _)
      exact ⟨t, powered_next h.1.1 ht, h1, h2⟩
    · obtain ⟨t, ht, h1, h2⟩ := h.putsItem (by decide) (rejectChangeBody_some hi hw hq) (Reply.fitsIn_of_no_parts rfl _)
      exact ⟨t, powered_next h.1.1 ht, h1, h2⟩

end Sys2Proof.Machine
end

section
/-! PROOFS. SET_TEXT and REMOVE_ITEM (R23, R25, R87): O29. -/

namespace Sys2Proof.Machine

variable {s : State} {r : RecordInHand} {i : Item}

/-- The text a SET_TEXT carries (R23). -/
def textOf (b : List Byte) : List Byte := ((b.drop 9).take 24).take (leField b 8 1)

/-- The item with a new text (R23). -/
def Item.retext (i : Item) (text : List Byte) : Item :=
  { i with text := text, textRevision := (i.textRevision + 1) % 65536 }

theorem setTextBody_none {b : List Byte} (hi : s.item (leField b 0 8) = none) :
    setTextBody s b = (s, .plain .notFound [(34, zeros 2)]) := by
  unfold setTextBody
  dsimp only
  rw [hi]
  rfl

theorem setTextBody_some {b : List Byte} (hi : s.item (leField b 0 8) = some i) : setTextBody s b =
    if leField b 8 1 = 0 ∨ 24 < leField b 8 1 then (s, .plain .badForm [(34, zeros 2)])
    else if textOf b = i.text then (s, .unchanged [(34, leBytes 2 i.textRevision)])
    else ((s.putItem (i.retext (textOf b))).queueRequest .text i.article i.labels,
      .plain .ok [(34, leBytes 2 ((i.textRevision + 1) % 65536))]) := by
  unfold setTextBody
  dsimp only
  rw [hi]
  rfl

theorem revision_fitsIn {rep : Reply} {bs : List Byte} (hp : rep.parts = [(34, bs)]) (hl : bs.length = 2) {n : Nat}
    (hn : 36 ≤ n) : rep.FitsIn n := Reply.fitsIn_of_one_part hp (by omega)

/-- A new text of an item whose labels are all QUEUED, SENT or STALE: SENT ones are flagged (R23, R87). -/
theorem setText_busy (h : InHand s .price Kind.setText r) (hb : s.TablesBounded) (hi : s.item (leField r.body 0 8) = some i)
    (h1 : 1 ≤ leField r.body 8 1) (h2 : leField r.body 8 1 ≤ 24) (hne : textOf r.body ≠ i.text)
    (hbusy : ∀ id ∈ i.labels, ∃ l, s.label id = some l ∧ (l.phase = .queued ∨ l.phase = .sent ∨ l.phase = .stale)) :
    ∃ t, exec .setText s = .next t ∧ t.item i.article = some (i.retext (textOf r.body))
      ∧ (∀ x, x ≠ i.article → t.item x = s.item x)
      ∧ (∀ id ∈ i.labels, ∀ l, s.label id = some l → t.label id = some { l with again := l.again || l.phase == .sent })
      ∧ (∀ id, id ∉ i.labels → t.label id = s.label id)
      ∧ ((t.withLogOf s).setPrice s.price).setLabels s.labels = s
      ∧ Answered s t .price r (.plain .ok [(34, leBytes 2 ((i.textRevision + 1) % 65536))]) noBytes := by
  have hf := setTextBody_some hi
  rw [if_neg (by omega), if_neg hne] at hf
  have hn : Nudged (s.putItem (i.retext (textOf r.body)))
      ((s.putItem (i.retext (textOf r.body))).queueRequest .text i.article i.labels) i.labels :=
    Nudged.queueRequest (s.tablesBounded_iff.mp hb).2.1.1 (fun _ _ hl => hb.labelId hl) (fun id hid => by
      obtain ⟨l, hl, hp⟩ := hbusy id hid
      exact ⟨l, hl, hp.imp (fun h => h) (fun h => h.imp (fun h => h) (fun h => ⟨h, rfl⟩))⟩)
  obtain ⟨d, hd⟩ := hn.frame
  obtain ⟨t, ht, h3, -, h4⟩ := h.replies (own := noBytes) (by decide) (by decide) hf
    (((OnlyItems.putItem s _).writes _).trans (hn.writes _)) (fun _ ha => Bool.noConfusion ha)
    (by rw [hd]; exact h.1.2.2) (revision_fitsIn rfl (leBytes_length ..) h.2.2.2.2.1)
  have hitem : ∀ x, t.item x = (s.putItem (i.retext (textOf r.body))).item x := fun x => by
    rw [State.item_withLog h3, hd]
    rfl
  refine ⟨t, powered_next h.1.1 ht, ?_, fun x hx => ?_, fun id hid l hl => ?_, fun id hid => ?_, ?_, h4⟩
  · rw [hitem, State.item_putItem]
    exact if_pos rfl
  · rw [hitem, State.item_putItem]
    exact if_neg hx
  · rw [State.label_withLog h3]
    exact hn.label_some hid hl
  · rw [State.label_withLog h3, hn.labels, if_neg hid]
    rfl
  · refine (congrArg (fun x : State => ((x.withLogOf s).setPrice s.price).setLabels s.labels) h3).trans ?_
    rw [hd]
    cases s
    rfl

/-- A new text while no base station can be sent an update: IDLE labels wait (R23, R87). -/
theorem setText_queued (h : InHand s .price Kind.setText r) (hb : s.TablesBounded)
    (hi : s.item (leField r.body 0 8) = some i) (h1 : 1 ≤ leField r.body 8 1) (h2 : leField r.body 8 1 ≤ 24)
    (hne : textOf r.body ≠ i.text) (hn : i.labels.Nodup) (hns : s.NoSends)
    (hl : ∀ id ∈ i.labels, ∃ l, s.label id = some l ∧ l.article = some i.article
      ∧ l.confirmed.map Confirmed.textRevision ≠ some ((i.textRevision + 1) % 65536)) :
    ∃ t, exec .setText s = .next t ∧ t.item i.article = some (i.retext (textOf r.body))
      ∧ (∀ x, x ≠ i.article → t.item x = s.item x) ∧ LabelsQueued s t i.labels Label.retexted
      ∧ (((t.withLogOf s).setPrice s.price).setLabels s.labels).setLink s.link = s
      ∧ Answered s t .price r (.plain .ok [(34, leBytes 2 ((i.textRevision + 1) % 65536))]) labelCountBytes := by
  have hf := setTextBody_some hi
  rw [if_neg (by omega), if_neg hne] at hf
  have hshelf := (Shelved.putItem s (i.retext (textOf r.body))).trans (.queueRequest .text i.article _ i.labels)
  obtain ⟨w, hw, h3, -, h4⟩ := h.settles (by decide) (by decide) hf hshelf.writes labelCountBytes_low (fun _ ha => ha)
    (revision_fitsIn rfl (leBytes_length ..) h.2.2.2.2.1)
  obtain ⟨hitem, K, hK⟩ := queueRequest_waits hb h.1.2.2 (j := i.retext (textOf r.body)) .text hn hns (fun id hid => by
    obtain ⟨l, h5, h6, h7⟩ := hl id hid
    exact ⟨l, h5, h6, fun hc => h7 (by rw [hc]; rfl)⟩)
  obtain ⟨hset, hlq⟩ := hK w (State.price_withLog h3) (State.labels_withLog h3) (State.link_withLog h3)
  have hwitem : ∀ x, w.settle.item x = if x = i.article then some (i.retext (textOf r.body)) else s.item x := fun x => by
    have h5 : w.settle.item x = w.item x := by rw [hset]; rfl
    have h6 : recovered .text s.label i.labels = 0 := by simp [recovered]
    refine (h5.trans (State.item_withLog h3 x)).trans ((hitem x).trans ?_)
    show (if x = i.article then some { i.retext (textOf r.body) with
      staleCount := i.staleCount - recovered .text s.label i.labels } else s.item x) = _
    rw [h6]
    rfl
  refine ⟨w.settle, powered_next h.1.1 (congrArg State.settle hw), ?_, fun x hx => ?_, ?_, ?_, h4⟩
  · rw [hwitem, if_pos rfl]
  · rw [hwitem, if_neg hx]
  · rw [show Label.retexted = Label.requeued .text from funext Label.retexted_eq]
    exact hlq
  · rw [hset]
    exact State.offShelf_frame ((congrArg State.offShelf h3 :).trans hshelf.off)

theorem removeItemBody_some {b : List Byte} (hi : s.item (leField b 0 8) = some i) : removeItemBody s b =
    if i.labels = [] then (s.setPrice { s.price with items := s.price.items.del (leField b 0 8) }, .plain .ok [])
    else (s, .plain .busy []) := by
  unfold removeItemBody
  dsimp only
  rw [hi]

/-- An item without labels goes (R25). -/
theorem removeItem_done (h : InHand s .price Kind.removeItem r) (hb : s.TablesBounded)
    (hi : s.item (leField r.body 0 8) = some i) (hl : i.labels = []) : ∃ t, exec .removeItem s = .next t
      ∧ t.item (leField r.body 0 8) = none ∧ (∀ x, x ≠ leField r.body 0 8 → t.item x = s.item x)
      ∧ (t.withLogOf s).setPrice s.price = s ∧ Answered s t .price r (.plain .ok []) noBytes := by
  have hf := removeItemBody_some hi
  rw [if_pos hl] at hf
  have hitems : OnlyItems s (s.setPrice { s.price with items := s.price.items.del (leField r.body 0 8) }) := ⟨rfl, rfl, rfl⟩
  obtain ⟨t, ht, h1, -, h2⟩ := h.replies (own := noBytes) (by decide) (by decide) hf (hitems.writes _)
    (fun _ ha => Bool.noConfusion ha) h.1.2.2 (Reply.fitsIn_of_no_parts rfl _)
  refine ⟨t, powered_next h.1.1 ht, ?_, fun x hx => ?_, hitems.withLog h1, h2⟩
  · rw [State.item_withLog h1]
    exact Table.find_del_same _ (s.tablesBounded_iff.mp hb).1.1
  · rw [State.item_withLog h1]
    exact Table.find_del_other _ hx

/-- Settles O29: SET_TEXT by its checks, then by the labels it finds; REMOVE_ITEM by the labels bound. -/
theorem textSetItemRemoved : Obligations.TextSetItemRemoved := by
  unfold Obligations.TextSetItemRemoved
  refine ⟨fun s r h hb => ?_, fun s r h hb => ?_⟩
  · intro a n text failed
    have hlen : 36 ≤ r.body.length := h.2.2.2.2.1
    refine ⟨fun hi => ?_, fun i hi => ?_⟩
    · obtain ⟨t, ht, h1, h2⟩ := h.refuses (by decide) (by decide) (setTextBody_none hi) (revision_fitsIn rfl rfl hlen)
      exact ⟨t, powered_next h.1.1 ht, h1, h2⟩
    have hbody := setTextBody_some hi
    have ha : i.article = a := hb.article hi
    refine ⟨fun hn => ?_, fun h1 h2 heq => ?_, fun h1 h2 hne hbusy => ?_, fun h1 h2 hne hnd hns hl => ?_⟩
    · obtain ⟨t, ht, h1, h2⟩ := h.refuses (by decide) (by decide) (hbody.trans (if_pos hn)) (revision_fitsIn rfl rfl hlen)
      exact ⟨t, powered_next h.1.1 ht, h1, h2⟩
    · have hf := hbody.trans ((if_neg (by omega)).trans (if_pos heq))
      obtain ⟨t, ht, h3, h4⟩ := h.refuses (by decide) (by decide) hf (revision_fitsIn rfl (leBytes_length ..) hlen)
      exact ⟨t, powered_next h.1.1 ht, h3, h4⟩
    · rw [← ha]
      exact setText_busy h hb hi h1 h2 hne hbusy
    · rw [← ha] at hl ⊢
      exact setText_queued h hb hi h1 h2 hne hnd hns hl
  · intro a
    refine ⟨fun hi => ?_, fun i hi => ⟨fun hl => ?_, removeItem_done h hb hi⟩⟩
    · have hf : removeItemBody s r.body = (s, .plain .notFound []) := by
        unfold removeItemBody
        dsimp only
        rw [show s.item (leField r.body 0 8) = none from hi]
      obtain ⟨t, ht, h1, h2⟩ := h.refuses (by decide) (by decide) hf (Reply.fitsIn_of_no_parts rfl _)
      exact ⟨t, powered_next h.1.1 ht, h1, h2⟩
    · have hf := (removeItemBody_some hi).trans (if_neg hl)
      obtain ⟨t, ht, h1, h2⟩ := h.refuses (by decide) (by decide) hf (Reply.fitsIn_of_no_parts rfl _)
      exact ⟨t, powered_next h.1.1 ht, h1, h2⟩

end Sys2Proof.Machine
end

section
/-! PROOFS. BASE_STATION_SILENCE and LABEL_SEEN (R98-R101, R109): O43 fails, for a label directory that is not keyed by the
ids of its records. -/

namespace Sys2Proof.Machine

/-- The update that label 9 of the counterexample waits for. -/
def strayUpdate : InFlightUpdate :=
  { tag := 500, kind := .fullUpdate, version := 1, template := 3, textRevision := 0, station := 7 }

/-- A SENT label record that carries id 10. -/
def strayLabel : Label :=
  { id := 10, article := some 5, template := 3, home := some 7, lastHeard := 0, battery := 0, signal := 0, confirmed := none
    inFlight := some strayUpdate, attempts := 0, again := false, blankDue := false, staleReason := .noReason, phase := .sent }

/-- The record of the same update at its station. -/
def strayRecord : InFlightRecord := { tag := 500, label := 9, kind := .fullUpdate, cost := 4, deadline := 17800 }

/-- The ACTIVE station that sent it, last heard at 0. -/
def silentStation : BaseStation :=
  { id := 7, address := 0x0200000000D0, port := .p2, bootCount := 1, credit := 4, zone := 0, phase := .active, lastHeard := 0
    inFlight := [strayRecord], ready := [], waitingForBuffer := false }

/-- The part 30 s later, with the record stored under the key 9: SOUND, but not of bounded tables. -/
def strayState : State :=
  ((State.reset.setLabels { State.reset.labels with directory := [(9, strayLabel)] }).setLink
    { State.reset.link with table := [silentStation] }).setClock { State.reset.clock with count := 30000 }

theorem strayState_sound : strayState.Sound := by decide +kernel

/-- The update given back queues the record under its own id, and key 9 keeps what it held. -/
theorem strayState_silence :
    ((strayState.stationSilence 7).settle.label 9).map Label.phase = some .sent := by decide +kernel

/-- Refutes O43: the statement on BASE_STATION_SILENCE does not ask for a keyed directory (R76), so a label record found under
another key than its id is still SENT there after its update came back. -/
theorem not_stationReports : ¬ Obligations.StationReports := by
  unfold Obligations.StationReports
  intro h
  obtain ⟨-, hb⟩ := h.1 7 strayState strayState_sound
  obtain ⟨-, hsilent⟩ := hb silentStation (by decide +kernel)
  obtain ⟨t, x, ht, -, -, -, -, -, -, -, -, hback⟩ := hsilent rfl (by decide +kernel)
  obtain ⟨hsent, -⟩ := hback strayRecord strayLabel strayUpdate rfl rfl (by decide +kernel) (by decide +kernel) rfl rfl rfl
  obtain ⟨-, hlabel⟩ := hsent (by decide) rfl
  have hnext : t = (strayState.stationSilence 7).settle := by
    have : Host.Outcome.next t = .next (strayState.stationSilence 7).settle := ht.symm
    exact Host.Outcome.next.inj this
  have hphase := strayState_silence
  rw [← hnext, show t.label 9 = _ from hlabel] at hphase
  exact absurd hphase (by decide)

end Sys2Proof.Machine
end

section
/-! PROOFS. One update sent (R85, R113, R116): the arbiter's run at an ACTIVE station with credit, room in its port's queue
and one label ready. -/

namespace Sys2Proof.Machine

variable {s t w : State} {n : Nat} {b : BaseStation} {l : Label} {u : Update} {p : Port}

@[simp] theorem State.putLabel_link (s : State) (l : Label) : (s.putLabel l).link = s.link := by simp [State.putLabel]
@[simp] theorem State.putLabel_net (s : State) (l : Label) : (s.putLabel l).net = s.net := by simp [State.putLabel]
@[simp] theorem State.putLabel_price (s : State) (l : Label) : (s.putLabel l).price = s.price := by simp [State.putLabel]
@[simp] theorem State.putLabel_clock (s : State) (l : Label) : (s.putLabel l).clock = s.clock := by
  unfold State.putLabel
  rw [State.setDirectory_eq]
  rfl

/-! ### A frame that joins its queue -/

/-- The Forwarding Unit once a frame has joined a port's LAN egress queue. -/
def State.lanJoined (s : State) (p : Port) (f : Frame) : Forwarding := (s.join (.lan p) f).net

theorem State.offerOwn_of_joins (h : s.JoinsLan p) (f : Frame) : s.offerOwn p f = s.setNet (s.lanJoined p f) := by
  obtain ⟨hup, hfree, hroom⟩ := h
  have hno : s.refusal (.lan p) = none := by
    unfold State.refusal State.targetUp State.hasRoom
    simp [hup, hroom, Nat.ne_of_gt hfree]
  unfold State.offerOwn State.offer
  rw [hno]
  rfl

theorem LanOffered.of_joins (h : s.JoinsLan p) {f : Frame} (hn : t.net = s.lanJoined p f) : LanOffered s t p f := by
  have hport : ∀ q, t.port q = (s.join (.lan p) f).port q := fun q => by unfold State.port; rw [hn]; rfl
  have hsame : t.port p = { s.port p with lan := (s.port p).lan ++ [f] } :=
    (hport p).trans (PerPort.get_set_same _ _ _)
  refine ⟨?_, ?_, ?_, fun q hq => (hport q).trans (PerPort.get_set_other _ _ hq), ?_⟩
  · rw [if_pos h, hsame]
  · rw [if_pos h, hn]
    rfl
  · rw [if_pos h, hsame]
  · rw [hn]
    rfl

theorem LanOffered.of_net (h : w.net = s.net) {f : Frame} (ho : LanOffered w t p f) : LanOffered s t p f := by
  have hp : ∀ q, w.port q = s.port q := fun q => by unfold State.port; rw [h]
  obtain ⟨h1, h2, h3, h4, h5⟩ := ho
  unfold State.lanDropReason State.JoinsLan at *
  simp only [h, hp] at h1 h2 h3 h4 h5
  exact ⟨h1, h2, h3, h4, h5⟩

/-! ### Tags -/

theorem StationLink.freeTag_congr {k k' : StationLink}
    (h : k'.table.map BaseStation.inFlight = k.table.map BaseStation.inFlight) (fuel tag : Nat) :
    k'.freeTag fuel tag = k.freeTag fuel tag := by
  have huse : ∀ tag, k'.tagInUse tag = k.tagInUse tag := by
    intro tag
    have hmap : ∀ x : StationLink, x.tagInUse tag
        = (x.table.map BaseStation.inFlight).any (fun rs => rs.any (fun r => r.tag == tag)) := fun x => by
      rw [List.any_map]; rfl
    rw [hmap, hmap, h]
  induction fuel generalizing tag with
  | zero => rfl
  | succ k ih =>
    unfold StationLink.freeTag
    rw [huse, ih]

theorem StationLink.inFlightCount_congr {k k' : StationLink}
    (h : k'.table.map BaseStation.inFlight = k.table.map BaseStation.inFlight) : k'.inFlightCount = k.inFlightCount := by
  have hmap : ∀ x : StationLink, x.inFlightCount = ((x.table.map BaseStation.inFlight).map List.length).sum := fun x => by
    rw [List.map_map]; rfl
  rw [hmap, hmap, h]

/-- The tag the next send takes (R116). -/
abbrev StationLink.sendTag (k : StationLink) : Nat := k.freeTag k.inFlightCount k.nextTag

/-! ### The send -/

/-- The in-flight record of a send at its station (R105, R116). -/
abbrev State.sendRecord (s : State) (l : Label) (u : Update) : InFlightRecord :=
  { tag := s.link.sendTag, label := l.id, kind := u.kind, cost := u.kind.cost
    deadline := s.now + 25 * s.link.slots + 5000 }

/-- A station once the one label ready there has been sent its update. -/
def BaseStation.sent (b : BaseStation) (r : InFlightRecord) : BaseStation :=
  { b with ready := [], waitingForBuffer := false, inFlight := b.inFlight ++ [r] }

/-- A label once its update has been sent (R85). -/
def Label.onWay (l : Label) (u : Update) (tag n : Nat) : Label :=
  let f : InFlightUpdate := { tag := tag, kind := u.kind, version := u.version, template := u.template
                              textRevision := u.textRevision, station := n }
  if l.phase = .queued then { l with inFlight := some f, phase := .sent, again := false }
  else { l with inFlight := some f, blankDue := false }

theorem Label.onWay_id (l : Label) (u : Update) (tag n : Nat) : (l.onWay u tag n).id = l.id := by
  unfold Label.onWay; dsimp only; split <;> rfl

/-- The frame of an update (R209). -/
abbrev State.updateFrame (s : State) (b : BaseStation) (l : Label) (u : Update) : Frame :=
  s.makeFrame b.address s.net.labelType (beBytes 1 4 ++ beBytes 2 b.id ++ beBytes 4 s.link.sendTag
    ++ beBytes 4 l.id ++ beBytes 1 u.kind.code ++ beBytes 2 u.content.length ++ u.content)

/-- The state once a label has been sent its update. -/
def State.afterSend (s : State) (b : BaseStation) (l : Label) (u : Update) : State :=
  ((((s.setLink { s.link with nextTag := tagAfter s.link.sendTag }).putStation (b.sent (s.sendRecord l u))).setNet
    (s.lanJoined b.port (s.updateFrame b l u))).putLabel (l.onWay u s.link.sendTag b.id))

/-- A label is ready alone at its ACTIVE home, and its update can be sent (R113, R155). -/
structure State.CanSend (s : State) (b : BaseStation) (l : Label) (u : Update) : Prop where
  distinct : s.StationsDistinct
  station : s.station b.id = some b
  active : b.phase = .active
  ready : b.ready = [l.id]
  label : s.label l.id = some l
  home : l.home = some b.id
  pick : s.pick l = some u
  credit : b.costInFlight + u.kind.cost ≤ b.credit
  joins : s.JoinsLan b.port

theorem State.updateSent_of_home (hd : s.StationsDistinct) (h : s.station n = some b) (hr : b.ready = [])
    (hl : l.home = some n) (u : Update) (tag : Nat) : s.updateSent l u tag n = s.putLabel (l.onWay u tag n) := by
  have hleave : s.leaveSet l = s := by
    unfold State.leaveSet
    rw [hl]
    dsimp only
    rw [h]
    dsimp only
    have : { b with ready := setDrop b.ready l.id } = b := by
      rw [hr]
      show { b with ready := [] } = b
      rw [← hr]
    rw [this]
    exact State.putStation_self hd h
  unfold State.updateSent Label.onWay
  rw [hleave]
  dsimp only
  split
  · rfl
  · rfl

theorem State.CanSend.sendUpdate (h : s.CanSend b l u) : s.sendUpdate b l u = s.afterSend b l u := by
  rw [State.sendUpdate_eq]
  have hb : { b with
      inFlight := b.inFlight ++ [{ tag := s.link.sendTag, label := l.id, kind := u.kind, cost := u.kind.cost
                                   deadline := s.now + cycleTime s.link.slots + 5000 }]
      ready := setDrop b.ready l.id, waitingForBuffer := false } = b.sent (s.sendRecord l u) := by
    unfold BaseStation.sent State.sendRecord cycleTime
    rw [h.ready, setDrop_singleton, Nat.mul_comm]
  have hframe : s.frameSent b l u = ((s.setLink { s.link with nextTag := tagAfter s.link.sendTag }).putStation
      (b.sent (s.sendRecord l u))).setNet (s.lanJoined b.port (s.updateFrame b l u)) := by
    unfold State.frameSent
    dsimp only
    have hpart : updatePutBody s.link.sendTag l.id u = beBytes 4 s.link.sendTag ++ beBytes 4 l.id
      ++ beBytes 1 u.kind.code ++ beBytes 2 u.content.length ++ u.content := rfl
    refine (congrArg (fun x => State.offerOwn ((s.setLink { s.link with nextTag := tagAfter s.link.sendTag }).putStation x)
      b.port (s.labelFrame b 4 (updatePutBody s.link.sendTag l.id u))) hb).trans ?_
    have hf : s.labelFrame b 4 (updatePutBody s.link.sendTag l.id u) = s.updateFrame b l u := by
      unfold State.labelFrame State.updateFrame
      rw [hpart]
      simp only [List.append_assoc]
    rw [hf]
    exact State.offerOwn_of_joins (s := (s.setLink { s.link with nextTag := tagAfter s.link.sendTag }).putStation
      (b.sent (s.sendRecord l u))) h.joins _
  rw [hframe]
  refine State.updateSent_of_home (b := b.sent (s.sendRecord l u)) ?_ ?_ rfl h.home u _
  · show (((s.setLink { s.link with nextTag := tagAfter s.link.sendTag }).putStation _).link.table.map BaseStation.id).Nodup
    rw [State.ids_putStation]
    exact h.distinct
  · exact State.station_putStation_same (s := s.setLink { s.link with nextTag := tagAfter s.link.sendTag }) h.station rfl

theorem State.CanSend.station_afterSend (h : s.CanSend b l u) :
    (s.afterSend b l u).station b.id = some (b.sent (s.sendRecord l u)) := by
  unfold State.afterSend State.station
  rw [State.putLabel_link]
  exact State.station_putStation_same (s := s.setLink { s.link with nextTag := tagAfter s.link.sendTag }) h.station rfl

theorem State.CanSend.runArbiter (h : s.CanSend b l u) : s.runArbiter b.id = s.afterSend b l u := by
  have hsecond : State.arbiterRun b.id 1 (s.afterSend b l u) = s.afterSend b l u := by
    have hst := h.station_afterSend
    rw [State.arbiterRun_empty 0 hst (by rw [show (b.sent (s.sendRecord l u)).phase = b.phase from rfl, h.active]; decide) rfl]
    have hd : (s.afterSend b l u).StationsDistinct := by
      unfold State.StationsDistinct State.afterSend
      rw [State.putLabel_link]
      show (((s.setLink { s.link with nextTag := tagAfter s.link.sendTag }).putStation _).link.table.map BaseStation.id).Nodup
      rw [State.ids_putStation]
      exact h.distinct
    exact State.putStation_self hd hst
  have hnear : nearest s.link.slots s.now b.ready = some l.id := by rw [h.ready]; rfl
  have hroom : ¬ (s.net.freeBuffers = 0 ∨ (!s.hasRoom (.lan b.port)) = true) := by
    obtain ⟨-, hfree, hroom⟩ := h.joins
    unfold State.hasRoom
    simp [hroom, Nat.ne_of_gt hfree]
  have hcredit := h.credit
  unfold State.runArbiter
  rw [h.station]
  dsimp only
  rw [h.ready]
  show State.arbiterRun b.id 2 s = _
  unfold State.arbiterRun
  rw [h.station]
  dsimp only
  rw [if_neg (by rw [h.active]; decide), hnear]
  dsimp only
  rw [h.label]
  dsimp only
  rw [h.pick]
  dsimp only
  rw [if_neg (by omega), if_neg hroom, h.sendUpdate]
  exact hsecond

/-! ### The run owed at a label's home -/

/-- A QUEUED label short of its target is given its update (R82, R83). -/
theorem State.pick_of_template {a : Nat} {i : Item} {m : Template} (hp : l.phase = .queued) (ha : l.article = some a)
    (hi : s.item a = some i) (hc : l.confirmed ≠ some (i.target l.template))
    (hm : s.labels.templates.find l.template = some m) : s.pick l = some (buildUpdate l m i) := by
  rw [State.pick_of_queued hp ha hi hc, hm]
  rfl

/-- The link with a station's ready set replaced and a run owed there. -/
def State.readied (s : State) (b : BaseStation) (ids : List Nat) : StationLink :=
  { (s.putStation { b with ready := ids }).link with due := s.link.due ++ [.station b.id] }

theorem State.map_inFlight_putStation (hd : s.StationsDistinct) (h : s.station n = some b) {x : BaseStation}
    (hid : x.id = b.id) (hx : x.inFlight = b.inFlight) :
    (s.putStation x).link.table.map BaseStation.inFlight = s.link.table.map BaseStation.inFlight := by
  show (s.link.table.map (fun y => if y.id = x.id then x else y)).map BaseStation.inFlight = _
  rw [List.map_map]
  refine List.map_congr_left fun y hy => ?_
  rw [Function.comp_apply]
  split
  · rename_i hyx
    rw [hx, hd.eq_of_id hy (State.station_some h).1 (hyx.trans hid)]
  · rfl

theorem State.readied_congr (h : w.link = s.link) (b : BaseStation) (ids : List Nat) :
    w.readied b ids = s.readied b ids := by
  unfold State.readied State.putStation
  rw [h]
  rfl

/-- A label joins the ready set of its home, which asks for a run, unless it waits there already (R86, R113). -/
theorem State.joinSet_of_station (hb : s.station n = some b) (hl : l.home = some n) :
    s.joinSet l = if l.id ∈ b.ready then s else s.setLink (s.readied b (setAdd b.ready l.id)) := by
  obtain rfl := (State.station_some hb).2
  unfold State.joinSet
  rw [hl]
  dsimp only
  rw [hb]
  rfl

/-- A label joins the empty ready set of its home. -/
theorem State.joinSet_of_home (hb : s.station n = some b) (hr : b.ready = []) (hl : l.home = some n) :
    s.joinSet l = s.setLink (s.readied b [l.id]) := by
  rw [State.joinSet_of_station hb hl, hr, if_neg (by simp)]
  rfl

theorem State.queue_of_home (hb : s.station n = some b) (hr : b.ready = []) (hl : l.home = some n) :
    s.queue l = (s.putLabel { l with phase := .queued }).setLink (s.readied b [l.id]) := by
  have hb' : (s.putLabel { l with phase := .queued }).station n = some b := by
    unfold State.station
    rw [State.putLabel_link]
    exact hb
  unfold State.queue
  dsimp only
  rw [State.joinSet_of_home hb' hr (show { l with phase := .queued }.home = some n from hl),
    State.readied_congr (State.putLabel_link s _)]

/-- A run owed at a station that can be sent nothing (R113-R115). -/
theorem State.settle_of_readied (hd : s.StationsDistinct) (hdue : s.link.due = []) (hb : s.station n = some b)
    {ids : List Nat} (hlink : w.link = s.readied b ids) (hblocked : w.Blocked { b with ready := ids }) :
    ∃ K, w.settle = w.setLink K ∧ w.settle.station n = some (BaseStation.calmed [n] { b with ready := ids }) := by
  obtain rfl := (State.station_some hb).2
  have hst : w.station b.id = some { b with ready := ids } := by
    have := State.station_putStation_same hb (x := { b with ready := ids }) rfl
    unfold State.station at this ⊢
    rw [hlink]
    exact this
  have hsettle := State.settle_of_blocked (s := w) (ns := [b.id])
    (by unfold State.StationsDistinct; rw [hlink]; exact (s.ids_putStation _).symm ▸ hd)
    (by rw [hlink]; show s.link.due ++ _ = _; rw [hdue]; rfl)
    (fun m hm x hx => by
      rw [List.mem_singleton] at hm
      subst hm
      rw [hst] at hx
      cases hx
      exact hblocked)
  refine ⟨_, hsettle, ?_⟩
  rw [hsettle, State.station_calmed w { w.link with due := [] } rfl, hst]
  rfl

/-- Between two states an update has been sent (R85, R113, R116): what the station and the label hold, and the frame. -/
structure Sent (s t : State) (b : BaseStation) (l : Label) (u : Update) : Prop where
  station : t.station b.id = some (b.sent (s.sendRecord l u))
  label : t.label l.id = some (l.onWay u s.link.sendTag b.id)
  offered : LanOffered s t b.port (s.updateFrame b l u)

theorem Sent.onWay (h : Sent s t b { l with phase := .queued } u) : UpdateOnWay s t b l u := by
  refine ⟨h.station, ?_, h.offered⟩
  have := h.label
  unfold Label.onWay at this
  exact this

/-- A label made ready alone at its ACTIVE home, which has the credit and the room: the run owed there sends its update. -/
theorem Sent.of_readied (hd : s.StationsDistinct) (hdue : s.link.due = []) (hb : s.station n = some b)
    (hp : b.phase = .active) (hj : s.JoinsLan b.port) (hc : b.costInFlight + u.kind.cost ≤ b.credit)
    (hlink : w.link = s.readied b [l.id]) (hnet : w.net = s.net) (hclock : w.clock = s.clock)
    (hl : w.label l.id = some l) (hh : l.home = some n) (hpick : w.pick l = some u) :
    Sent s w.settle b l u ∧ (∀ y, y ≠ l.id → w.settle.label y = w.label y) ∧ w.settle.price = w.price := by
  obtain rfl := (State.station_some hb).2
  let v : State := w.setLink { w.link with due := [] }
  let x : BaseStation := { b with ready := [l.id] }
  have htable : v.link.table = (s.putStation x).link.table := by
    show w.link.table = _
    rw [hlink]
    rfl
  have hflights : v.link.table.map BaseStation.inFlight = s.link.table.map BaseStation.inFlight := by
    rw [htable]
    exact State.map_inFlight_putStation hd hb rfl rfl
  have htag : v.link.sendTag = s.link.sendTag := by
    have hnext : v.link.nextTag = s.link.nextTag := by
      show w.link.nextTag = _
      rw [hlink]
      rfl
    unfold StationLink.sendTag
    rw [StationLink.freeTag_congr hflights, StationLink.inFlightCount_congr hflights, hnext]
  have hrecord : v.sendRecord l u = s.sendRecord l u := by
    have hslots : v.link.slots = s.link.slots := by
      show w.link.slots = _
      rw [hlink]
      rfl
    have hnow : v.now = s.now := by
      show w.clock.count = _
      rw [hclock]
      rfl
    unfold State.sendRecord
    rw [htag, hslots, hnow]
  have hcan : v.CanSend x l u :=
    { distinct := by
        unfold State.StationsDistinct
        rw [htable, State.ids_putStation]
        exact hd
      station := by
        have := State.station_putStation_same hb (x := x) rfl
        unfold State.station at this ⊢
        rw [htable]
        exact this
      active := hp
      ready := rfl
      label := hl
      home := hh
      pick := hpick
      credit := hc
      joins := by
        show w.JoinsLan b.port
        unfold State.JoinsLan State.port
        rw [hnet]
        exact hj }
  have hsettle : w.settle = v.afterSend x l u := by
    unfold State.settle
    rw [hlink, show (s.readied b [l.id]).due = [.station b.id] by
      show s.link.due ++ [.station b.id] = _
      rw [hdue]
      rfl]
    rw [← hlink]
    exact hcan.runArbiter
  rw [hsettle]
  have hlabel : ∀ y, (v.afterSend x l u).label y = if y = l.id then some (l.onWay u s.link.sendTag b.id) else w.label y := by
    intro y
    unfold State.afterSend
    rw [State.label_putLabel, Label.onWay_id, htag]
    rfl
  refine ⟨⟨?_, ?_, ?_⟩, fun y hy => (hlabel y).trans (if_neg hy), ?_⟩
  · rw [hcan.station_afterSend, hrecord]
    rfl
  · exact (hlabel l.id).trans (if_pos rfl)
  · refine LanOffered.of_net (w := v) hnet (LanOffered.of_joins hcan.joins ?_)
    unfold State.afterSend
    rw [State.putLabel_net]
    show v.lanJoined b.port (v.updateFrame x l u) = _
    unfold State.updateFrame State.makeFrame
    rw [htag, show v.net = s.net from hnet]
  · unfold State.afterSend
    rw [State.putLabel_price]
    rfl

/-! ### Requests whose effect makes a label ready at its home -/

theorem State.pick_congr {u : State} (hp : w.price = u.price) (hl : w.labels = u.labels) (l : Label) :
    w.pick l = u.pick l := by
  unfold State.pick State.item
  rw [hp, hl]

section
variable {v : State} {r : RecordInHand} {c : Chain} {k : RequestKind} {f : State → List Byte → State × Reply} {rep : Reply}

/-- A request that makes a label ready at a home that can be sent nothing. -/
theorem InHand.waitsAtHome (h : InHand s c k r) (hb : s.TablesBounded) (hk : k.code ∈ chainKinds c) (hc : c ≠ .delivery)
    (hf : f s r.body = (v, rep)) (hw : Writes s v labelCountBytes) (hfit : rep.FitsIn r.body.length) {ids : List Nat}
    (hst : s.station n = some b) (hlink : v.link = s.readied b ids) (hblocked : v.Blocked { b with ready := ids }) :
    ∃ t, (s.request c k f).settle = t ∧ (t.setLink v.link).withLogOf v = v
      ∧ t.station n = some (BaseStation.calmed [n] { b with ready := ids }) ∧ Answered s t c r rep labelCountBytes := by
  obtain ⟨w, hrequest, h2, -, h3⟩ := h.settles hk hc hf hw labelCountBytes_low (fun _ ha => ha) hfit
  have hblocked' : w.Blocked { b with ready := ids } := by
    unfold State.Blocked at hblocked ⊢
    refine hblocked.imp_right (Or.imp_right (And.imp_right fun hall id hid => ?_))
    obtain ⟨l, u, hl, hu⟩ := hall id hid
    exact ⟨l, u, (State.label_withLog h2 id).trans hl,
      (State.pick_congr (State.price_withLog h2) (State.labels_withLog h2) l).trans hu⟩
  obtain ⟨K, hK, hstation⟩ := State.settle_of_readied hb.stations h.1.2.2 hst ((State.link_withLog h2).trans hlink) hblocked'
  refine ⟨w.settle, by rw [hrequest], ?_, hstation, h3⟩
  rw [hK]
  exact congrArg (fun x : State => x.setLink v.link) h2

/-- A request that makes a label ready alone at its ACTIVE home, which has the credit and the room. -/
theorem InHand.sendsAtHome (h : InHand s c k r) (hb : s.TablesBounded) (hk : k.code ∈ chainKinds c) (hc : c ≠ .delivery)
    (hf : f s r.body = (v, rep)) (hw : Writes s v labelCountBytes) (hfit : rep.FitsIn r.body.length)
    (hst : s.station n = some b) (hactive : b.phase = .active) (hjoin : s.JoinsLan b.port)
    (hcost : b.costInFlight + u.kind.cost ≤ b.credit) (hlink : v.link = s.readied b [l.id]) (hnet : v.net = s.net)
    (hclock : v.clock = s.clock) (hl : v.label l.id = some l) (hhome : l.home = some n) (hpick : v.pick l = some u) :
    ∃ t, (s.request c k f).settle = t ∧ Sent s t b l u ∧ (∀ y, y ≠ l.id → t.label y = v.label y) ∧ t.price = v.price
      ∧ Answered s t c r rep labelCountBytes := by
  obtain ⟨w, hrequest, h2, -, h3⟩ := h.settles hk hc hf hw labelCountBytes_low (fun _ ha => ha) hfit
  obtain ⟨hsent, hothers, hprice⟩ := Sent.of_readied hb.stations h.1.2.2 hst hactive hjoin hcost
    ((State.link_withLog h2).trans hlink) ((State.net_withLog h2).trans hnet) ((State.clock_withLog h2).trans hclock)
    ((State.label_withLog h2 l.id).trans hl) hhome
    ((State.pick_congr (State.price_withLog h2) (State.labels_withLog h2) l).trans hpick)
  exact ⟨w.settle, by rw [hrequest], hsent, fun y hy => (hothers y hy).trans (State.label_withLog h2 y),
    hprice.trans (State.price_withLog h2), h3⟩

end
end Sys2Proof.Machine
end

section
/-! PROOFS. The change path (R8-R13) branch by branch, and CHANGE_PRICE: O27. -/

namespace Sys2Proof.Machine

/-! ### The change path -/

section
variable {s : State} {a base : Nat} {promo : Option Promotion} {c : Bool} {o : Nat} {i : Item}

theorem State.change_of_none (h : s.item a = none) : s.change a base promo c o = (s, .notFound) := by
  unfold State.change
  rw [h]

theorem State.change_of_some (h : s.item a = some i) : s.change a base promo c o =
    if maxBase < base then (s, .badForm)
    else if !promoPasses i.saleKind base promo then (s, .badPromo)
    else if base = i.followed.base ∧ promo = i.followed.promo then (s, .unchanged)
    else if !c && !insideWindow s.price i.current.base base then
      ((s.putItem { i with waiting := some { base := base, promo := promo, queried := true }, origin := o }).post
        .priceQueried a base, .queried)
    else if i.state = .settled then
      let r := s.placeVersion { i with origin := o } base promo
      (r.1, .placed r.2.1 r.2.2)
    else
      (s.putItem { i with waiting := some { base := base, promo := promo, queried := false }, origin := o },
        .placed .waiting 0) := by
  unfold State.change
  rw [h]

theorem State.change_badForm (h : s.item a = some i) (hb : 9999999 < base) :
    s.change a base promo c o = (s, .badForm) := by
  rw [State.change_of_some h]
  exact if_pos hb

theorem State.change_badPromo (h : s.item a = some i) (hb : base ≤ 9999999)
    (hp : promoPasses i.saleKind base promo = false) : s.change a base promo c o = (s, .badPromo) := by
  rw [State.change_of_some h, if_neg (show ¬ maxBase < base by unfold maxBase; omega), hp]
  rfl

/-- A base price and a promotion in form for an item (R8, R9). -/
structure InForm (i : Item) (base : Nat) (promo : Option Promotion) : Prop where
  baseOk : base ≤ 9999999
  promoOk : promoPasses i.saleKind base promo = true

/-- A change in form that differs from the version the item follows (R10). -/
structure Differs (i : Item) (base : Nat) (promo : Option Promotion) : Prop extends InForm i base promo where
  differs : ¬ ((i.pending.getD i.current).base = base ∧ (i.pending.getD i.current).promo = promo)

theorem State.change_unchanged (h : s.item a = some i) (hf : InForm i base promo)
    (hb : (i.pending.getD i.current).base = base) (hp : (i.pending.getD i.current).promo = promo) :
    s.change a base promo c o = (s, .unchanged) := by
  rw [State.change_of_some h, if_neg (show ¬ maxBase < base by have := hf.baseOk; unfold maxBase; omega), hf.promoOk]
  refine (if_neg (by decide)).trans (if_pos ?_)
  exact ⟨hb.symm, hp.symm⟩

theorem State.change_of_differs (h : s.item a = some i) (hf : Differs i base promo) : s.change a base promo c o =
    if !c && !insideWindow s.price i.current.base base then
      ((s.putItem { i with waiting := some { base := base, promo := promo, queried := true }, origin := o }).post
        .priceQueried a base, .queried)
    else if i.state = .settled then
      let r := s.placeVersion { i with origin := o } base promo
      (r.1, .placed r.2.1 r.2.2)
    else
      (s.putItem { i with waiting := some { base := base, promo := promo, queried := false }, origin := o },
        .placed .waiting 0) := by
  rw [State.change_of_some h, if_neg (show ¬ maxBase < base by have := hf.baseOk; unfold maxBase; omega), hf.promoOk,
    if_neg (by decide)]
  exact if_neg fun hs => hf.differs ⟨hs.1.symm, hs.2.symm⟩

theorem State.change_queried (h : s.item a = some i) (hf : Differs i base promo)
    (hw : insideWindow s.price i.current.base base = false) : s.change a base promo false o =
      ((s.putItem { i with waiting := some { base := base, promo := promo, queried := true }, origin := o }).post
        .priceQueried a base, .queried) := by
  rw [State.change_of_differs h hf, hw]
  rfl

/-- A change that is taken: confirmed, or inside the window (R12). -/
theorem State.change_taken (h : s.item a = some i) (hf : Differs i base promo)
    (hw : c = true ∨ insideWindow s.price i.current.base base = true) : s.change a base promo c o =
    if i.state = .settled then
      let r := s.placeVersion { i with origin := o } base promo
      (r.1, .placed r.2.1 r.2.2)
    else
      (s.putItem { i with waiting := some { base := base, promo := promo, queried := false }, origin := o },
        .placed .waiting 0) := by
  rw [State.change_of_differs h hf, if_neg]
  rcases hw with hw | hw
  · simp [hw]
  · simp [hw]

theorem State.change_waiting (h : s.item a = some i) (hf : Differs i base promo)
    (hw : c = true ∨ insideWindow s.price i.current.base base = true) (hp : i.pending ≠ none) :
    s.change a base promo c o = (s.putItem { i with
      waiting := some { base := base, promo := promo, queried := false }, origin := o }, .placed .waiting 0) := by
  rw [State.change_taken h hf hw, if_neg fun hs => hp (i.state_settled.mp hs)]

theorem State.change_atOnce (h : s.item a = some i) (hf : Differs i base promo)
    (hw : c = true ∨ insideWindow s.price i.current.base base = true) (hp : i.pending = none) (hl : i.labels = []) :
    s.change a base promo c o
      = (s.putItem ({ i with origin := o }.atOnce base promo), .placed .current (nextNumber i.lastVersion)) := by
  rw [State.change_taken h hf hw, if_pos (i.state_settled.mpr hp),
    State.placeVersion_of_none s (i := { i with origin := o }) base promo hl]

theorem State.change_campaign (h : s.item a = some i) (hf : Differs i base promo)
    (hw : c = true ∨ insideWindow s.price i.current.base base = true) (hp : i.pending = none) (hl : i.labels ≠ []) :
    s.change a base promo c o
      = ((s.putItem ({ i with origin := o }.campaign base promo)).queueRequest .newTarget i.article i.labels,
          .placed .pending (nextNumber i.lastVersion)) := by
  rw [State.change_taken h hf hw, if_pos (i.state_settled.mpr hp),
    State.placeVersion_of_labels s (i := { i with origin := o }) base promo hl]

end

/-! ### A notice posted beside an item record -/

theorem State.post_withLog (s : State) (k : NoticeKind) (x d : Nat) : (s.post k x d).withLogOf s = s := by
  unfold State.post
  dsimp only
  split
  · split
    · cases s; rfl
    · cases s; rfl
  · cases s; rfl

theorem State.withLogOf_trans {s t u : State} (h : t.withLogOf u = u) (h' : u.withLogOf s = s) : t.withLogOf s = s := by
  calc t.withLogOf s = (t.withLogOf u).withLogOf s := rfl
    _ = u.withLogOf s := by rw [h]
    _ = s := h'

/-! ### The body of CHANGE_PRICE -/

theorem changePriceBody_badForm (s : State) {b : List Byte} (h : 1 < leField b 17 1) :
    changePriceBody s b = (s, changeReply 20 .badForm) := by
  unfold changePriceBody
  rw [flagCode_eq, if_neg (by omega), if_neg (by omega)]

theorem changePriceBody_of_flag (s : State) {b : List Byte} {r : State × ChangeResult} (h : leField b 17 1 ≤ 1)
    (hr : s.change (leField b 0 8) (leField b 8 4) (promoAt b 12) (decide (leField b 17 1 = 1)) 0 = r) :
    changePriceBody s b = (r.1, changeReply 20 r.2) := by
  rw [← hr]
  unfold changePriceBody
  rw [flagCode_eq]
  rcases Nat.le_one_iff_eq_zero_or_eq_one.mp h with h | h
  · rw [h]; rfl
  · rw [h]; rfl

section
variable {s : State} {r : RecordInHand} {i : Item} {base : Nat} {promo : Option Promotion}

theorem queueRequest_one (k : QueueKind) (s : State) (a id : Nat) : s.queueRequest k a [id] = State.queueLabel k a s id := rfl

theorem State.queueLabel_of_idle {k : QueueKind} {a id : Nat} {l : Label} (hl : s.label id = some l) (hp : l.phase = .idle) :
    State.queueLabel k a s id = s.queue l := by
  unfold State.queueLabel
  rw [hl]
  dsimp only
  rw [hp]

/-- A price request that replaces an item record and posts one notice. -/
theorem InHand.putsItemAndPosts {k : RequestKind} (h : InHand s .price k r) (hk : k.code ∈ chainKinds .price)
    {f : State → List Byte → State × Reply} {n : NoticeKind} {x d : Nat} {rep : Reply}
    (hf : f s r.body = ((s.putItem i).post n x d, rep)) (hfit : rep.FitsIn r.body.length) :
    ∃ t, (s.request .price k f).settle = t ∧ ItemPut s t i ∧ Posted s t n x d ∧ Answered s t .price r rep logBytes := by
  have hput := OnlyItems.putItem s i
  have hdue : ((s.putItem i).post n x d).link.due = [] := by
    rw [State.post_link]
    exact h.1.2.2
  obtain ⟨t, h1, h2, h3, h4⟩ := h.replies (own := logBytes) hk (by decide) hf
    ((hput.writes _).trans (Writes.post _ n x d)) (fun a ha => by have := logBytes_iff.mp ha; omega) hdue hfit
  refine ⟨t, h1, .putItem i (State.withLogOf_trans h2 (State.post_withLog _ n x d)), ?_, h4⟩
  exact (Posted.post (s := s.putItem i) n x d h.1.2.1.1).of_sameLog (hput.writes _).sameLog h3

/-- A campaign over one label with no home, IDLE or STALE: it waits in the homeless set (R12, R87). -/
theorem InHand.campaignHomeless {k : RequestKind} (h : InHand s .price k r) (hb : s.TablesBounded)
    (hk : k.code ∈ chainKinds .price) {f : State → List Byte → State × Reply} {rep : Reply} {id : Nat} {l : Label}
    (hlabels : i.labels = [id]) (hl : s.label id = some l) (hhome : l.home = none)
    (hf : f s r.body = ((s.putItem (i.campaign base promo)).queueRequest .newTarget i.article i.labels, rep))
    (hfit : rep.FitsIn r.body.length) :
    ∃ t, (s.request .price k f).settle = t
      ∧ t.item i.article = some { i.campaign base promo with
          staleCount := i.staleCount - if l.phase = .stale then 1 else 0 }
      ∧ t.label id = some (l.requeued .newTarget)
      ∧ (l.phase = .idle ∨ l.phase = .stale → id ∈ t.labels.homeless) := by
  have hn : i.labels.Nodup := by rw [hlabels]; simp
  have hreads := State.Reads.queueRequest (k := .newTarget) (State.reads_self (s.putItem (i.campaign base promo)))
    (a := i.article) (i := i.campaign base promo) (by rw [State.item_putItem]; exact if_pos rfl) rfl hn (fun _ h => h)
    (fun _ _ h => hb.labelId h)
  have hj := Joined.queueRequest (s := s.putItem (i.campaign base promo)) (k := .newTarget) (a := i.article) hn
    (fun x _ l hx => hb.labelId hx)
  have hshelf := (Shelved.putItem s (i.campaign base promo)).trans (.queueRequest .newTarget i.article _ i.labels)
  generalize (s.putItem (i.campaign base promo)).queueRequest .newTarget i.article i.labels = u at hf hreads hj hshelf
  have hrequeues : ∀ x h, x ∈ i.labels ∧ Requeues .newTarget (s.putItem (i.campaign base promo)).label x h →
      x = id ∧ h = none := by
    rintro x h ⟨hx, l', hl', rfl, -⟩
    rw [hlabels, List.mem_singleton] at hx
    subst hx
    rw [show (s.putItem (i.campaign base promo)).label x = some l from hl] at hl'
    cases hl'
    exact ⟨rfl, hhome⟩
  have hdue : u.link.due = [] := by
    obtain ⟨ns, h1, h2⟩ := hj.due
    cases ns with
    | nil => exact h1.trans (by rw [List.map_nil, List.append_nil]; exact h.1.2.2)
    | cons n ns =>
      obtain ⟨x, hx⟩ := h2 n List.mem_cons_self
      exact nomatch (hrequeues x _ hx).2
  obtain ⟨t, h1, h2, -, -⟩ := h.replies (own := labelCountBytes) hk (by decide) hf hshelf.writes labelCountBytes_low hdue hfit
  refine ⟨t, h1, ?_, ?_, fun hp => ?_⟩
  · rw [State.item_withLog h2, hreads.item, Function.update_self]
    have : recovered .newTarget (s.putItem (i.campaign base promo)).label i.labels = if l.phase = .stale then 1 else 0 := by
      rw [recovered_newTarget, hlabels, List.countP_singleton,
        show (s.putItem (i.campaign base promo)).label id = some l from hl]
      simp
    rw [this]
    rfl
  · rw [State.label_withLog h2, hreads.label, if_pos (by rw [hlabels]; simp),
      show (s.putItem (i.campaign base promo)).label id = some l from hl]
    rfl
  · rw [State.labels_withLog h2, hj.homeless]
    refine .inr ⟨by rw [hlabels]; simp, l, hl, hhome, ?_, ?_⟩
    · rcases hp with hp | hp <;> rw [hp] <;> decide
    · unfold Label.requeued
      rcases hp with hp | hp <;> rw [hp]

/-- A campaign over one IDLE label whose ACTIVE home has the credit and the room: it is sent its update (R12, R113). -/
theorem InHand.campaignSent {k : RequestKind} (h : InHand s .price k r) (hb : s.TablesBounded)
    (hk : k.code ∈ chainKinds .price) {f : State → List Byte → State × Reply} {rep : Reply} {id n : Nat} {l : Label}
    {b : BaseStation} {m : Template} (hlabels : i.labels = [id]) (hl : s.label id = some l)
    (ha : l.article = some i.article) (hp : l.phase = .idle)
    (hc : l.confirmed.map Confirmed.version ≠ some (nextNumber i.lastVersion))
    (hm : s.labels.templates.find l.template = some m) (hhome : l.home = some n) (hst : s.station n = some b)
    (hactive : b.phase = .active) (hr : b.ready = []) (hjoin : s.JoinsLan b.port)
    (hcost : b.costInFlight + (buildUpdate l m (i.campaign base promo)).kind.cost ≤ b.credit)
    (hf : f s r.body = ((s.putItem (i.campaign base promo)).queueRequest .newTarget i.article i.labels, rep))
    (hfit : rep.FitsIn r.body.length) :
    ∃ t, (s.request .price k f).settle = t ∧ t.item i.article = some (i.campaign base promo)
      ∧ UpdateOnWay s t b l (buildUpdate l m (i.campaign base promo)) ∧ Answered s t .price r rep labelCountBytes := by
  have hid : l.id = id := hb.labelId hl
  have hqueue : (s.putItem (i.campaign base promo)).queueRequest .newTarget i.article i.labels
      = ((s.putItem (i.campaign base promo)).putLabel { l with phase := .queued }).setLink (s.readied b [l.id]) := by
    rw [hlabels, queueRequest_one, State.queueLabel_of_idle (s := s.putItem (i.campaign base promo)) hl hp,
      State.queue_of_home (s := s.putItem (i.campaign base promo)) hst hr hhome]
    rfl
  have hshelf := (Shelved.putItem s (i.campaign base promo)).trans (.queueRequest .newTarget i.article _ i.labels)
  rw [hqueue] at hf hshelf
  have hitem : (((s.putItem (i.campaign base promo)).putLabel { l with phase := .queued }).setLink
      (s.readied b [l.id])).item i.article = some (i.campaign base promo) := by
    show ((s.putItem (i.campaign base promo)).putLabel { l with phase := .queued }).item _ = _
    rw [State.item_putLabel, State.item_putItem]
    exact if_pos rfl
  have hpick : (((s.putItem (i.campaign base promo)).putLabel { l with phase := .queued }).setLink
      (s.readied b [l.id])).pick { l with phase := .queued } = some (buildUpdate l m (i.campaign base promo)) := by
    refine State.pick_of_template (l := { l with phase := .queued }) rfl ha hitem ?_ ?_
    · intro hcon
      exact hc (by rw [show l.confirmed = _ from hcon]; rfl)
    · show ((s.putItem (i.campaign base promo)).putLabel { l with phase := .queued }).labels.templates.find l.template = _
      unfold State.putLabel
      rw [State.setDirectory_labels]
      exact hm
  obtain ⟨t, h1, h2, -, hprice, h3⟩ := h.sendsAtHome hb hk (by decide) hf hshelf.writes hfit hst hactive hjoin hcost
    (l := { l with phase := .queued }) rfl (State.putLabel_net _ _) (State.putLabel_clock _ _)
    ((State.label_putLabel _ _ _).trans (if_pos rfl)) hhome hpick
  refine ⟨t, h1, ?_, h2.onWay, h3⟩
  unfold State.item at hitem ⊢
  rw [hprice]
  exact hitem

end
/-- Settles O27: the body of CHANGE_PRICE by the branches of the change path, and each branch by its one effect. -/
theorem priceChanged : Obligations.PriceChanged := by
  unfold Obligations.PriceChanged
  intro s r h hb a base promo failed
  have hlen : 20 + 8 ≤ r.body.length := h.2.2.2.2.1
  have hk : Kind.changePrice.code ∈ chainKinds .price := by decide
  have hfails : ∀ {x : ChangeResult} {c : Code}, changePriceBody s r.body = (s, changeReply 20 x) →
      changeReply 20 x = .plain c [(20, zeros 8)] → failed c := by
    intro x c hf hx
    obtain ⟨t, ht, h1, h2⟩ := h.refuses hk (by decide) hf (changeReply_fitsIn 20 x hlen)
    rw [hx] at h2
    exact ⟨t, powered_next h.1.1 ht, h1, h2⟩
  refine ⟨fun hc => hfails (changePriceBody_badForm s hc) rfl, fun hc hnone => ?_, fun i hc hi => ?_⟩
  · exact hfails (changePriceBody_of_flag s hc (State.change_of_none hnone)) rfl
  have hart : i.article = a := hb.article hi
  refine ⟨fun hbase => hfails (changePriceBody_of_flag s hc (State.change_badForm hi hbase)) rfl, fun hbase hpromo => ?_,
    fun hbase hpromo => ⟨fun hsame hsame' => ?_, fun hdiff => ?_⟩⟩
  · exact hfails (changePriceBody_of_flag s hc (State.change_badPromo hi hbase hpromo)) rfl
  · obtain ⟨t, ht, h1, h2⟩ := h.refuses hk (by decide)
      (changePriceBody_of_flag s hc (State.change_unchanged hi ⟨hbase, hpromo⟩ hsame hsame')) (changeReply_fitsIn 20 _ hlen)
    exact ⟨t, powered_next h.1.1 ht, h1, h2⟩
  have hf : Differs i base promo := ⟨⟨hbase, hpromo⟩, fun hs => hdiff.elim (fun h => h hs.1) (fun h => h hs.2)⟩
  refine ⟨fun hq hw => ?_, fun hw => ?_⟩
  · have hbody := State.change_queried (o := 0) hi hf hw
    rw [show false = decide (leField r.body 17 1 = 1) by rw [hq]; rfl] at hbody
    obtain ⟨t, ht, h1, h2, h3⟩ := h.putsItemAndPosts hk (changePriceBody_of_flag s hc hbody) (changeReply_fitsIn 20 _ hlen)
    exact ⟨t, powered_next h.1.1 ht, h1, h2, h3⟩
  have htaken : decide (leField r.body 17 1 = 1) = true ∨ insideWindow s.price i.current.base base = true :=
    hw.imp_left decide_eq_true
  have hcampaign : i.pending = none → i.labels ≠ [] → changePriceBody s r.body
      = ((s.putItem ({ i with origin := 0 }.campaign base promo)).queueRequest .newTarget i.article i.labels,
        .plain .ok [(20, leBytes 1 2 ++ zeros 3 ++ leBytes 4 (nextNumber i.lastVersion))]) := fun hp hl =>
    changePriceBody_of_flag s hc (State.change_campaign hi hf htaken hp hl)
  refine ⟨fun hp => ?_, fun hp hl => ?_, fun hp hl hbusy => ?_, fun id l hp hl hlab hhome hphase => ?_,
    fun hp hl hn hns hlabels => ?_, ?_⟩
  · obtain ⟨t, ht, h1, h2⟩ := h.putsItem hk (changePriceBody_of_flag s hc (State.change_waiting hi hf htaken hp))
      (changeReply_fitsIn 20 _ hlen)
    exact ⟨t, powered_next h.1.1 ht, h1, h2⟩
  · obtain ⟨t, ht, h1, h2⟩ := h.putsItem hk (changePriceBody_of_flag s hc (State.change_atOnce hi hf htaken hp hl))
      (changeReply_fitsIn 20 _ hlen)
    exact ⟨t, powered_next h.1.1 ht, h1, h2⟩
  · obtain ⟨t, ht, h1, h2⟩ := h.startsCampaign hb hk (i := { i with origin := 0 }) hbusy (hcampaign hp hl)
      (placedPart_fitsIn _ _ hlen)
    exact ⟨t, powered_next h.1.1 ht, h1, h2⟩
  · obtain ⟨t, ht, h1, h2, h3⟩ := h.campaignHomeless hb hk (i := { i with origin := 0 }) hl hlab hhome
      (hcampaign hp (by rw [hl]; simp)) (placedPart_fitsIn _ _ hlen)
    refine ⟨t, powered_next h.1.1 ht, ⟨_, (congrArg t.item hart.symm).trans h1, ?_, rfl, rfl, ?_⟩, ?_, h3 hphase⟩
    · show i.labels.length = 1
      rw [hl]
      rfl
    · show i.staleCount - (if l.phase = .stale then 1 else 0) = _
      split
      · rfl
      · rfl
    · rw [h2]
      unfold Label.requeued
      rcases hphase with hp | hp <;> rw [hp] <;> rfl
  · rw [← hart] at hlabels
    obtain ⟨t, ht, h1, h2⟩ := h.queuesCampaign hb hk (i := { i with origin := 0 }) hn hns hlabels (hcampaign hp hl)
      (placedPart_fitsIn _ _ hlen)
    exact ⟨t, powered_next h.1.1 ht, h1, h2⟩
  · intro id l n b m hp hl hlab hla hidle hconf hm hhome hst _ hactive hready hjoin j u hcost
    have hj : { i with origin := 0 }.campaign base promo = j := by
      have hone : i.labels.length = 1 := by rw [hl]; rfl
      exact congrArg (fun k => { j with outstanding := k }) hone
    obtain ⟨t, ht, h1, h2, h3⟩ := h.campaignSent hb hk (i := { i with origin := 0 }) (base := base) (promo := promo) hl hlab
      (hla.trans (congrArg some hart.symm)) hidle hconf hm hhome hst hactive hready hjoin (by rw [hj]; exact hcost)
      (hcampaign hp (by rw [hl]; simp)) (placedPart_fitsIn _ _ hlen)
    rw [hj] at h1 h2
    exact ⟨t, powered_next h.1.1 ht, (congrArg t.item hart.symm).trans h1, h2, h3⟩

end Sys2Proof.Machine
end

section
/-! PROOFS. Messages of the exchange and the commit of a batch (R124, R136), and BATCH_ENTRY_APPLY: O48. -/

namespace Sys2Proof.Machine

/-! ### Messages sent -/

theorem ipv4Packets_congr {x y : Exchange} (h : ∀ o n m w, ipv4Header y o n m w = ipv4Header x o n m w) (whole : Bool)
    (fuel offset : Nat) (bs : List Byte) : ipv4Packets y whole fuel offset bs = ipv4Packets x whole fuel offset bs := by
  induction fuel generalizing offset bs with
  | zero => unfold ipv4Packets; rw [h]
  | succ n ih => unfold ipv4Packets; rw [h, h, ih]

theorem messagePackets_lastBatch (x : Exchange) (n : Nat) (m : List Byte) :
    messagePackets { x with lastBatch := n } m = messagePackets x m :=
  ipv4Packets_congr (x := x) (y := { x with lastBatch := n }) (fun _ _ _ _ => rfl) _ _ _ _

theorem MessageSent.sendMessage (s : State) (k : PartMessage) (b : List Byte) : MessageSent s (s.sendMessage k b) k b := by
  refine ⟨fun h => ?_, fun r h => ?_, ?_⟩
  · unfold State.sendMessage
    dsimp only
    rw [show (s.setExchange { s.exchange with datagrams := s.exchange.datagrams + 1 }).messageRefusal _ = none from h]
    dsimp only
    rw [State.join_exchange_all]
    rfl
  · unfold State.sendMessage
    dsimp only
    rw [show (s.setExchange { s.exchange with datagrams := s.exchange.datagrams + 1 }).messageRefusal _ = some r from h]
    dsimp only
    cases hu : s.net.uplink with
    | none =>
      rw [show (s.setExchange { s.exchange with datagrams := s.exchange.datagrams + 1 }).net.uplink = none from hu]
      exact ⟨rfl, nofun, fun _ _ => rfl⟩
    | some p =>
      rw [show (s.setExchange { s.exchange with datagrams := s.exchange.datagrams + 1 }).net.uplink = some p from hu]
      refine ⟨rfl, fun q hq => ?_, fun q hq => ?_⟩
      · cases hq
        exact congrArg PortState.counters (PerPort.get_set_same _ _ _)
      · exact PerPort.get_set_other _ _ (fun h => hq (by rw [h]))
  · rw [State.sendMessage_exchange]

/-! ### The commit -/

theorem BatchCommitted.batchCommitted {s : State} (batch : Nat) (hw : s.store.wf) :
    BatchCommitted s (s.batchCommitted batch) batch s.exchange.counts := by
  have hposted := Posted.post (s := s.setExchange { s.exchange with lastBatch := batch }) .batchApplied 0 batch hw
  have hlog := State.post_withLog (s.setExchange { s.exchange with lastBatch := batch }) .batchApplied 0 batch
  unfold State.batchCommitted State.sendCommitAnswer
  dsimp only
  generalize (s.setExchange { s.exchange with lastBatch := batch }).post .batchApplied 0 batch = u at hposted hlog
  have hx : u.exchange = { s.exchange with lastBatch := batch } := (congrArg State.exchange hlog :)
  have hnet : u.net = s.net := (congrArg State.net hlog :)
  have hnow : u.clock = s.clock := (congrArg State.clock hlog :)
  have hsent := MessageSent.sendMessage u .commitAnswer (beBytes 4 batch ++ beBytes 1 0 ++ s.exchange.counts.bytes)
  have hframe := State.sendMessage_frame u .commitAnswer (beBytes 4 batch ++ beBytes 1 0 ++ s.exchange.counts.bytes)
  have hcount := State.sendMessage_exchange u .commitAnswer (beBytes 4 batch ++ beBytes 1 0 ++ s.exchange.counts.bytes)
  generalize u.sendMessage .commitAnswer (beBytes 4 batch ++ beBytes 1 0 ++ s.exchange.counts.bytes) = v at hsent hframe hcount
  have hvnow : v.now = s.now := (congrArg (fun x : State => x.clock.count) hframe :).trans (congrArg Clock.count hnow)
  have hbody : beBytes 4 batch ++ beBytes 1 0 ++ s.exchange.counts.bytes
      = beBytes 4 batch ++ beBytes 1 0 ++ beBytes 4 s.exchange.counts.applied ++ beBytes 4 s.exchange.counts.skipped
        ++ beBytes 4 s.exchange.counts.queried := by
    unfold BatchCounts.bytes
    simp only [List.append_assoc]
  have hfs : ∀ m, u.messageFrames (messageBytes .commitAnswer u.exchange.branchId m)
      = s.messageFrames (messageBytes .commitAnswer s.exchange.branchId m) := by
    intro m
    unfold State.messageFrames State.makeFrame
    rw [hx, hnet, messagePackets_lastBatch]
  have hrefuse : ∀ n, u.messageRefusal n = s.messageRefusal n := by
    intro n
    unfold State.messageRefusal State.targetUp State.port
    rw [hnet]
  obtain ⟨hjoined, hlost, -⟩ := hsent
  dsimp only at hjoined hlost
  rw [hfs, hrefuse, hbody, hnet] at hjoined
  rw [hfs, hbody] at hlost
  refine ⟨?_, ⟨hjoined, fun r hr => ?_, ?_⟩, ?_, ?_⟩
  · rw [State.setExchange_exchange, hcount, hx, hvnow]
  · have := hlost r ((hrefuse _).trans hr)
    unfold State.port at this
    rw [hnet] at this
    exact this
  · show v.exchange.datagrams + 0 = _
    rw [hcount, hx]
  · have hsame : SameLog u v := (Writes.of_eq (s := u) (u := v) (congrArg State.store hframe :)
      (congrArg State.requests hframe :) (congrArg State.clock hframe :)).sameLog
    exact (hposted.of_sameLog (s' := s) ⟨rfl, rfl, rfl, fun h => h, rfl, fun _ _ => rfl, rfl⟩ hsame).of_sameLog (.refl s)
      ⟨rfl, rfl, rfl, fun h => h, rfl, fun _ _ => rfl, rfl⟩
  · show ((v.withLogOf s).setExchange s.exchange).setNet s.net = s
    calc ((v.withLogOf s).setExchange s.exchange).setNet s.net
        = ((((v.setExchange u.exchange).setNet u.net).withLogOf s).setExchange s.exchange).setNet s.net := rfl
      _ = ((u.withLogOf (s.setExchange { s.exchange with lastBatch := batch })).setExchange s.exchange).setNet s.net := by
        rw [hframe]
        rfl
      _ = s := by
        rw [hlog]
        rfl

/-- A commit with the station link replaced before and after it. -/
theorem BatchCommitted.setLink {s t : State} {batch : Nat} {c : BatchCounts} (h : BatchCommitted s t batch c)
    (K : StationLink) : BatchCommitted (s.setLink K) (t.setLink K) batch c :=
  ⟨h.exchange, ⟨h.answered.joined, h.answered.lost, h.answered.counted⟩, h.posted,
    congrArg (fun x : State => x.setLink K) h.frame⟩

theorem OnlyExchange.price {s t : State} (h : OnlyExchange s t) : t.price = s.price := (congrArg State.price h :)
theorem OnlyExchange.labels {s t : State} (h : OnlyExchange s t) : t.labels = s.labels := (congrArg State.labels h :)
theorem OnlyExchange.link {s t : State} (h : OnlyExchange s t) : t.link = s.link := (congrArg State.link h :)

/-! ### One entry -/

section
variable {s v : State} {batch : Nat} {e : BatchEntry} {es : List BatchEntry} {d : BatchCounts} {effect : State → Prop}

/-- One entry taken, its effect settled by a station link that is the same whatever else the state holds. -/
theorem EntryTaken.of_settles (hp : s.powered = true) (hw : v.store.wf) (happlying : s.exchange.applying = true)
    (hbatch : s.exchange.stage.batch = some batch) (hrest : s.exchange.rest = e :: es)
    (hr : s.applyEntry batch s.exchange.counts e = (v, d)) (hx : v.exchange = s.exchange) {K : StationLink}
    (hK : ∀ w : State, w.price = v.price → w.labels = v.labels → w.link = v.link → w.settle = w.setLink K)
    (heffect : effect (v.setLink K)) :
    ∃ t, exec .batchEntryApply s = .next t ∧ EntryTaken s t batch es d effect := by
  obtain ⟨u, hu⟩ : ∃ u, u = v.setExchange { s.exchange with rest := es, counts := d } := ⟨_, rfl⟩
  have hnext : s.applyNext = if es = [] then u.batchCommitted batch else u := by
    unfold State.applyNext
    rw [happlying, hbatch, hrest]
    dsimp only
    rw [hr]
    dsimp only
    rw [hx, hu]
  have hback : (u.setLink K).setExchange s.exchange = v.setLink K := by
    rw [hu, ← hx]
    rfl
  have hexchange : (u.setLink K).exchange = { s.exchange with rest := es, counts := d } := by rw [hu]; rfl
  have hcommit : BatchCommitted u (u.batchCommitted batch) batch d := by
    have := BatchCommitted.batchCommitted (s := u) batch (by rw [hu]; exact hw)
    rwa [show u.exchange.counts = d by rw [hu]; rfl] at this
  have hsettle : ∀ t : State, OnlyExchange u t → t.settle = t.setLink K := fun t ht =>
    hK t (by rw [ht.price, hu]; rfl) (by rw [ht.labels, hu]; rfl) (by rw [ht.link, hu]; rfl)
  by_cases hes : es = []
  · rw [if_pos hes] at hnext
    generalize u.batchCommitted batch = t at hnext hcommit
    refine ⟨t.setLink K, powered_next hp (by rw [hnext, hsettle t hcommit.frame]), u.setLink K, hexchange,
      by rw [hback]; exact heffect, ?_⟩
    rw [if_pos hes]
    exact hcommit.setLink K
  · rw [if_neg hes] at hnext
    refine ⟨u.setLink K, powered_next hp (by rw [hnext, hsettle u rfl]), u.setLink K, hexchange,
      by rw [hback]; exact heffect, ?_⟩
    rw [if_neg hes]

/-- One entry taken, with no arbiter run owed. -/
theorem EntryTaken.of_calm (hp : s.powered = true) (hw : v.store.wf) (happlying : s.exchange.applying = true)
    (hbatch : s.exchange.stage.batch = some batch) (hrest : s.exchange.rest = e :: es)
    (hr : s.applyEntry batch s.exchange.counts e = (v, d)) (hx : v.exchange = s.exchange) (hdue : v.link.due = [])
    (heffect : effect v) : ∃ t, exec .batchEntryApply s = .next t ∧ EntryTaken s t batch es d effect := by
  refine EntryTaken.of_settles hp hw happlying hbatch hrest hr hx (K := v.link) (fun w _ _ hl => ?_) heffect
  rw [State.settle_of_none w (by rw [hl]; exact hdue), ← hl]
  rfl

end
/-- Settles O48: the entry's own effect by the branches of the change path and of the item checks, and the commit after the
last entry. -/
theorem batchEntryApplied : Obligations.BatchEntryApplied := by
  unfold Obligations.BatchEntryApplied
  intro s batch hs hb
  obtain ⟨hp, ⟨hw, -⟩, hdue⟩ := hs
  refine ⟨fun hidle => ?_, fun e es happlying hbatch hrest => ?_⟩
  · refine powered_next hp ?_
    have hnext : s.applyNext = s := by
      unfold State.applyNext
      rcases hidle with h | h
      · rw [h]
      · rw [h]
        split
        · rename_i heq
          cases heq
        · rfl
    rw [hnext, State.settle_of_none s hdue]
  intro c takes skips applies
  have hcalm : ∀ {v : State} {d : BatchCounts} {effect : State → Prop}, s.applyEntry batch c e = (v, d) → v.store.wf →
      v.exchange = s.exchange → v.link = s.link → effect v → takes d effect := fun hr hv hx hl heffect =>
    EntryTaken.of_calm hp hv happlying hbatch hrest hr hx (by rw [hl]; exact hdue) heffect
  have hsame : ∀ {d : BatchCounts}, s.applyEntry batch c e = (s, d) → takes d (fun u => u = s) := fun hr =>
    hcalm hr hw rfl rfl rfl
  have hputs : ∀ {i : Item} {d : BatchCounts}, s.applyEntry batch c e = (s.putItem i, d) → takes d (fun u => ItemPut s u i) :=
    fun hr => hcalm hr hw rfl rfl (.putItem _ rfl)
  refine ⟨fun n code he hn => ?_, fun n i he hn => ⟨?_, ?_, fun hrefused => ?_, fun hnone hroom => ?_⟩,
    fun a base promo he hnone => ?_, fun a base promo i he hi => ?_⟩
  · subst he
    refine hsame ?_
    show ((s.loadEntry n batch).1, c.newItem (s.loadEntry n batch).2) = _
    rw [State.loadEntry_of_error s hn]
    exact congrArg (Prod.mk s) (if_neg (ItemEntry.check_error hn))
  · exact (ItemEntry.check_ok hn).1
  · obtain ⟨k, m, -, -, -, -, hi⟩ := ItemEntry.codes_of_check hn
    rw [hi]
    rfl
  · subst he
    refine hsame ?_
    show ((s.loadEntry n batch).1, c.newItem (s.loadEntry n batch).2) = _
    rw [State.loadEntry_of_ok s hn]
    by_cases hex : s.item i.article ≠ none
    · rw [if_pos hex]
      rfl
    · rw [if_neg hex, if_pos (hrefused.resolve_left hex)]
      rfl
  · subst he
    refine hputs ?_
    show ((s.loadEntry n batch).1, c.newItem (s.loadEntry n batch).2) = _
    rw [State.loadEntry_of_ok s hn, if_neg (fun h => h hnone), if_neg (by omega)]
    rfl
  · subst he
    refine hsame ?_
    show ((s.change a base promo false batch).1, c.change (s.change a base promo false batch).2) = _
    rw [State.change_of_none hnone]
    rfl
  subst he
  have happly : ∀ {x : State × ChangeResult}, s.change a base promo false batch = x →
      s.applyEntry batch c (.change a base promo) = (x.1, c.change x.2) := fun hx => by rw [← hx]; rfl
  have hart : i.article = a := hb.article hi
  refine ⟨fun hbad => ?_, fun hbase hpromo => ?_⟩
  · by_cases hbase : 9999999 < base
    · exact hsame (happly (State.change_badForm hi hbase))
    · exact hsame (happly (State.change_badPromo hi (by omega) (hbad.resolve_left hbase)))
  intro same inside
  refine ⟨fun heq => hsame (happly (State.change_unchanged hi ⟨hbase, hpromo⟩ heq.1 heq.2)), fun hne hout => ?_,
    fun hne hin hpending => ?_, fun hne hin hpending hl => ?_, fun hne hin hpending hl hbusy => ?_,
    fun hne hin hpending hl hn hns hlabels => ?_⟩
  · have hf : Differs i base promo := ⟨⟨hbase, hpromo⟩, hne⟩
    refine hcalm (happly (State.change_queried hi hf hout)) (State.post_wf _ _ _ hw) (State.post_exchange ..)
      (State.post_link ..) ⟨.putItem _ (State.post_withLog ..), ?_⟩
    exact (Posted.post (s := s.putItem _) _ _ _ hw).of_sameLog ((OnlyItems.putItem s _).writes _).sameLog (.refl _)
  · exact hputs (happly (State.change_waiting hi ⟨⟨hbase, hpromo⟩, hne⟩ (.inr hin) hpending))
  · exact hputs (happly (State.change_atOnce hi ⟨⟨hbase, hpromo⟩, hne⟩ (.inr hin) hpending hl))
  · have hr := happly (State.change_campaign hi ⟨⟨hbase, hpromo⟩, hne⟩ (.inr hin) hpending hl)
    obtain ⟨D, hD⟩ := (Nudged.campaign hb (i := { i with origin := batch }) base promo hbusy).frame
    refine hcalm hr ?_ ?_ ?_ (.of_placed hb hbusy rfl)
    · exact (congrArg (fun x : State => x.store.wf) hD).mpr hw
    · exact (congrArg State.exchange hD :)
    · exact (congrArg State.link hD :)
  · have hr := happly (State.change_campaign hi ⟨⟨hbase, hpromo⟩, hne⟩ (.inr hin) hpending hl)
    rw [← hart] at hlabels
    obtain ⟨K, hK⟩ := CampaignQueued.of_placed hb hdue (i := { i with origin := batch }) (base := base) (promo := promo)
      hn hns hlabels
    have hshelf := (Shelved.putItem s ({ i with origin := batch }.campaign base promo)).trans
      (.queueRequest .newTarget i.article _ i.labels)
    refine EntryTaken.of_settles hp (hshelf.writes.wf hw) happlying hbatch hrest hr ?_ (fun w h1 h2 h3 => (hK w h1 h2 h3).1) ?_
    · exact (congrArg (fun x => x.2.2.2.2.1) hshelf.off :)
    · obtain ⟨hsettle, hqueued⟩ := hK _ rfl rfl rfl
      rw [hsettle] at hqueued
      exact hqueued hshelf.off

end Sys2Proof.Machine
end

section
/-! PROOFS. UNBIND_LABEL, SET_LABEL_TEMPLATE and RETRY_LABEL (R22, R89-R91): the effects on labels and items. -/

namespace Sys2Proof.Machine

variable {s t u v : State} {r : RecordInHand} {i : Item} {l : Label} {a id n : Nat}

/-! ### Labels alone -/

/-- Between two states only the Label Service and the label counts have changed. -/
structure OnlyLabels (s t : State) : Prop where
  frame : (t.setStore s.store).setLabels s.labels = s
  writes : Writes s t labelCountBytes

theorem OnlyLabels.refl (s : State) : OnlyLabels s s := ⟨rfl, .refl s _⟩

theorem OnlyLabels.trans (h : OnlyLabels s t) (h' : OnlyLabels t u) : OnlyLabels s u := by
  refine ⟨?_, h.writes.trans h'.writes⟩
  calc (u.setStore s.store).setLabels s.labels
      = (((u.setStore t.store).setLabels t.labels).setStore s.store).setLabels s.labels := rfl
    _ = (t.setStore s.store).setLabels s.labels := by rw [h'.frame]
    _ = s := h.frame

theorem OnlyLabels.setLabels (s : State) (x : LabelService) : OnlyLabels s (s.setLabels x) := ⟨rfl, .of_eq rfl rfl rfl⟩

theorem OnlyLabels.setDirectory (s : State) (x : Table Label) : OnlyLabels s (s.setDirectory x) :=
  ⟨s.setDirectory_frame x, (Writes.refl s _).setDirectory x⟩

theorem OnlyLabels.putLabel (s : State) (l : Label) : OnlyLabels s (s.putLabel l) := .setDirectory s _

theorem OnlyLabels.delLabel (s : State) (id : Nat) : OnlyLabels s (s.delLabel id) := .setDirectory s _

theorem OnlyLabels.price (h : OnlyLabels s t) : t.price = s.price := (congrArg State.price h.frame :)
theorem OnlyLabels.link (h : OnlyLabels s t) : t.link = s.link := (congrArg State.link h.frame :)
theorem OnlyLabels.net (h : OnlyLabels s t) : t.net = s.net := (congrArg State.net h.frame :)
theorem OnlyLabels.clock (h : OnlyLabels s t) : t.clock = s.clock := (congrArg State.clock h.frame :)
theorem OnlyLabels.item (h : OnlyLabels s t) (a : Nat) : t.item a = s.item a := by unfold State.item; rw [h.price]
theorem OnlyLabels.station (h : OnlyLabels s t) (n : Nat) : t.station n = s.station n := by unfold State.station; rw [h.link]

theorem OnlyLabels.withLog (h : OnlyLabels s u) (ht : t.withLogOf u = u) : (t.withLogOf s).setLabels s.labels = s := by
  calc (t.withLogOf s).setLabels s.labels
      = ((((t.withLogOf u).setStore s.store).setLabels s.labels).setRequests s.requests).setHost s.host := rfl
    _ = (((u.setStore s.store).setLabels s.labels).setRequests s.requests).setHost s.host := by rw [ht]
    _ = s := by
      rw [h.frame]
      cases s
      rfl

/-- An item record replaced beside labels and the log. -/
theorem ItemPut.of_labels (h : (t.withLogOf (s.putItem i)).setLabels s.labels = s.putItem i) :
    ItemPut (s.setLabels t.labels) t i := by
  have hprice : t.price = (s.putItem i).price := (congrArg State.price h :)
  have hitem : ∀ x, t.item x = (s.putItem i).item x := fun x => by unfold State.item; rw [hprice]
  refine ⟨?_, fun x hx => ?_, ?_, ?_⟩
  · rw [hitem, State.item_putItem]
    exact if_pos rfl
  · rw [hitem, State.item_putItem]
    exact if_neg hx
  · rw [hprice]
    exact ⟨rfl, rfl⟩
  · calc (t.withLogOf (s.setLabels t.labels)).setPrice s.price
        = ((((t.withLogOf (s.putItem i)).setLabels s.labels).setPrice s.price).setLabels t.labels) := rfl
      _ = ((s.putItem i).setPrice s.price).setLabels t.labels := by rw [h]
      _ = s.setLabels t.labels := rfl

theorem State.label_delLabel_of_rising (hr : Table.rising s.labels.directory) (id x : Nat) :
    (s.delLabel id).label x = if x = id then none else s.label x := by
  unfold State.delLabel
  rw [State.label_setDirectory, Table.find_del hr]
  rfl

theorem State.TablesBounded.rising (hb : s.TablesBounded) : Table.rising s.labels.directory :=
  (s.tablesBounded_iff.mp hb).2.1.1

theorem Table.put_put {α : Type} (t : Table α) (k : Nat) (x y : α) : Table.put (Table.put t k x) k y = Table.put t k y := by
  induction t with
  | nil => simp [Table.put]
  | cons e t ih =>
    obtain ⟨c, w⟩ := e
    simp only [Table.put]
    split
    · simp [Table.put]
    · split
      · simp [Table.put]
      · rename_i h1 h2
        simp only [Table.put]
        rw [if_neg h1, if_neg h2, ih]

theorem State.putItem_putItem {j : Item} (h : j.article = i.article) : (s.putItem i).putItem j = s.putItem j := by
  unfold State.putItem
  rw [h]
  show s.setPrice { s.price with items := (s.price.items.put i.article i).put i.article j } = _
  rw [Table.put_put]

theorem State.leaveSet_homeless (h : l.home = none) :
    s.leaveSet l = s.setLabels { s.labels with homeless := setDrop s.labels.homeless l.id } := by
  unfold State.leaveSet
  rw [h]

theorem State.joinSet_homeless (h : l.home = none) :
    s.joinSet l = s.setLabels { s.labels with homeless := setAdd s.labels.homeless l.id } := by
  unfold State.joinSet
  rw [h]

/-! ### Requests of the LABEL chain -/

section
variable {k : RequestKind} {f : State → List Byte → State × Reply} {rep : Reply}

/-- A label request that asks for no arbiter run. -/
theorem InHand.repliesLabels (h : InHand s .label k r) (hk : k.code ∈ chainKinds .label) (hf : f s r.body = (u, rep))
    (hw : Writes s u labelCountBytes) (hlink : u.link = s.link) (hfit : rep.FitsIn r.body.length) :
    ∃ t, (s.request .label k f).settle = t ∧ t.withLogOf u = u ∧ Answered s t .label r rep labelCountBytes := by
  obtain ⟨t, h1, h2, -, h3⟩ := h.replies hk (by decide) hf hw labelCountBytes_low (by rw [hlink]; exact h.1.2.2) hfit
  exact ⟨t, h1, h2, h3⟩

/-- A label request whose label joins the set of a home that can be sent nothing. -/
theorem InHand.joinsBlocked (h : InHand s .label k r) (hb : s.TablesBounded) (hk : k.code ∈ chainKinds .label)
    {b : BaseStation} (hf : f s r.body = (v.joinSet l, rep)) (hw : Writes s v labelCountBytes) (hlink : v.link = s.link)
    (hfit : rep.FitsIn r.body.length) (hhome : l.home = some n) (hst : s.station n = some b)
    (hblocked : ∀ ids : List Nat, (∀ y ∈ ids, y ∈ b.ready ∨ y = l.id) → v.Blocked { b with ready := ids }) :
    ∃ t x, (s.request .label k f).settle = t ∧ (t.setLink s.link).withLogOf v = v ∧ t.station n = some x
      ∧ x = { b with ready := x.ready, waitingForBuffer := x.waitingForBuffer }
      ∧ x.ready = (if l.id ∈ b.ready then b.ready else setAdd b.ready l.id)
      ∧ Answered s t .label r rep labelCountBytes := by
  have hv : v.station n = some b := by
    unfold State.station
    rw [hlink]
    exact hst
  rw [State.joinSet_of_station hv hhome] at hf
  by_cases hmem : l.id ∈ b.ready
  · rw [if_pos hmem] at hf
    obtain ⟨t, h1, h2, h3⟩ := h.repliesLabels hk hf hw hlink hfit
    refine ⟨t, b, h1, ?_, (State.station_withLog h2 n).trans hv, rfl, (if_pos hmem).symm, h3⟩
    rw [← hlink]
    exact congrArg (fun x : State => x.setLink v.link) h2
  · rw [if_neg hmem] at hf
    obtain ⟨t, h1, h2, h3, h4⟩ := h.waitsAtHome hb hk (by decide) hf (hw.trans (.of_eq rfl rfl rfl)) hfit hst
      (ids := setAdd b.ready l.id) (State.readied_congr hlink b _) (hblocked _ fun y hy => mem_setAdd.mp hy)
    refine ⟨t, _, h1, ?_, h3, ?_, ?_, h4⟩
    · rw [← hlink]
      exact congrArg (fun x : State => x.setLink v.link) h2
    · rw [BaseStation.calmed_ready]
      exact BaseStation.calmed_eq ..
    · rw [BaseStation.calmed_ready]
      exact (if_neg hmem).symm

end

/-! ### An unbind (R22, R89) -/

/-- An item with one of its labels gone (R22). -/
def Item.unbound (i : Item) (l : Label) : Item :=
  { i with
    labels := i.labels.filter (fun x => x != l.id)
    staleCount := if l.phase = .stale then i.staleCount - 1 else i.staleCount
    outstanding := if i.pending = none ∨ l.confirmed.map Confirmed.version = i.pending.map Version.number
      then i.outstanding else i.outstanding - 1 }

/-- The label's confirmed version is the pending one. -/
abbrev OnPending (i : Item) (l : Label) : Prop :=
  ∃ v, i.pending = some v ∧ l.confirmed.map Confirmed.version = some v.number

theorem Item.unbound_outstanding_same (h : i.pending = none ∨ OnPending i l) :
    (i.unbound l).outstanding = i.outstanding := by
  unfold Item.unbound
  refine if_pos (h.imp_right ?_)
  rintro ⟨v, hv, hc⟩
  rw [hv, hc]
  rfl

theorem Item.unbound_outstanding_less {w : Version} (hp : i.pending = some w) (h : ¬ OnPending i l) :
    (i.unbound l).outstanding = i.outstanding - 1 := by
  unfold Item.unbound
  refine if_neg ?_
  rintro (hn | hn)
  · rw [hp] at hn
    exact nomatch hn
  · exact h ⟨w, hp, by rw [hn, hp]; rfl⟩

/-- The item with one of its labels gone, its outstanding count as it was (R22). -/
def Item.without (i : Item) (l : Label) : Item :=
  { i with
    labels := i.labels.filter (fun x => x != l.id)
    staleCount := if l.phase = .stale then i.staleCount - 1 else i.staleCount }

theorem Item.without_eq (i : Item) (l : Label) : { i with
    labels := i.labels.filter (fun x => x != l.id)
    staleCount := if (l.phase == LabelPhase.stale) = true then i.staleCount - 1 else i.staleCount } = i.without l := by
  unfold Item.without
  simp only [beq_iff_eq]

/-- An unbind report that leaves the outstanding count (R22). -/
theorem State.reportUnbind_keeps (ha : l.article = some a) (hi : s.item a = some i) (hid : l.id ∈ i.labels)
    (hs : i.pending = none ∨ OnPending i l) : s.reportUnbind l = s.putItem (i.without l) := by
  unfold State.reportUnbind State.unbindReport
  rcases hs with hp | ⟨v, hp, hc⟩
  · simp only [ha, hi, hid, hp, if_true, ← Item.without_eq]
  · simp only [ha, hi, hid, hp, hc, if_true, ← Item.without_eq]

/-- An unbind report that lowers it (R22). -/
theorem State.reportUnbind_lowers (ha : l.article = some a) (hi : s.item a = some i) (hid : l.id ∈ i.labels) {v : Version}
    (hp : i.pending = some v) (hn : ¬ OnPending i l) : s.reportUnbind l = s.lowerOutstanding (i.without l) := by
  have hc : ¬ l.confirmed.map Confirmed.version = some v.number := fun h => hn ⟨v, hp, h⟩
  unfold State.reportUnbind State.unbindReport
  simp only [ha, hi, hid, hp, if_true, if_neg hc, ← Item.without_eq]

/-- An unbind report that does not end a campaign (R22). -/
theorem State.reportUnbind_of_stays (ha : l.article = some a) (hi : s.item a = some i) (hid : l.id ∈ i.labels)
    (hs : i.pending = none ∨ OnPending i l ∨ 1 < i.outstanding) : s.reportUnbind l = s.putItem (i.unbound l) := by
  by_cases hkeep : i.pending = none ∨ OnPending i l
  · rw [State.reportUnbind_keeps ha hi hid hkeep]
    have hsame := Item.unbound_outstanding_same hkeep
    exact congrArg (fun n => s.putItem { i.unbound l with outstanding := n }) hsame.symm
  · obtain ⟨hpending, hnot⟩ := not_or.mp hkeep
    obtain ⟨v, hp⟩ := Option.ne_none_iff_exists'.mp hpending
    have hout : 1 < i.outstanding := (hs.resolve_left hpending).resolve_left hnot
    rw [State.reportUnbind_lowers ha hi hid hp hnot]
    unfold State.lowerOutstanding
    dsimp only
    rw [if_neg (show ¬ (i.without l).outstanding - 1 = 0 by show ¬ i.outstanding - 1 = 0; omega)]
    exact congrArg (fun n => s.putItem { i.unbound l with outstanding := n }) (Item.unbound_outstanding_less hp hnot).symm

theorem State.unbind_of_report (h : (s.reportUnbind l).label l.id = some l) :
    s.unbind l = (s.reportUnbind l).turnUnbinding l := by
  rw [State.unbind_eq, h]

/-- The record of a label that has become UNBINDING with no update in flight (R89). -/
def Label.bare (l : Label) : Label :=
  { l with article := none, phase := .unbinding, staleReason := .noReason, again := false, attempts := 0 }

theorem State.turnUnbinding_of_sent (s : State) (hp : l.phase = .sent) : s.turnUnbinding l = s.putLabel { l with
    article := none, phase := .unbinding, staleReason := .noReason, again := false, blankDue := true } := by
  unfold State.turnUnbinding
  exact if_pos hp

theorem State.turnUnbinding_of_homeless (s : State) (hp : l.phase ≠ .sent) (hh : l.home = none) :
    s.turnUnbinding l = (s.setLabels { s.labels with homeless := setDrop s.labels.homeless l.id }).delLabel l.id := by
  unfold State.turnUnbinding
  dsimp only
  rw [if_neg hp, hh, ← State.leaveSet_homeless hh]
  rfl

theorem State.turnUnbinding_of_home (s : State) (hp : l.phase ≠ .sent) (hh : l.home = some n) :
    s.turnUnbinding l = (s.putLabel { l.bare with blankDue := true }).joinSet { l.bare with blankDue := true } := by
  unfold State.turnUnbinding
  dsimp only
  rw [if_neg hp, if_neg (by rw [hh]; exact Bool.false_ne_true)]
  rfl

theorem unbindLabelBody_of_bound {b : List Byte} (hl : s.label (leField b 0 4) = some l) (hp : l.phase ≠ .unbinding)
    (hs : (s.reportUnbind l).label l.id = some l) :
    unbindLabelBody s b = ((s.reportUnbind l).turnUnbinding l, .plain .ok []) := by
  unfold unbindLabelBody
  rw [hl]
  dsimp only
  rw [if_neg hp, State.unbind_of_report hs]

end Sys2Proof.Machine
end

section
/-! PROOFS. UNBIND_LABEL (R22, R89), by the state of the label and of its home. -/

namespace Sys2Proof.Machine

variable {s t u : State} {r : RecordInHand} {i : Item} {l : Label} {a n : Nat} {b : BaseStation}

/-- The request to unbind a label that is bound to an item (R89). -/
structure Unbinds (s : State) (r : RecordInHand) (l : Label) (a : Nat) (i : Item) : Prop where
  hand : InHand s .label Kind.unbindLabel r
  tables : s.TablesBounded
  names : leField r.body 0 4 = l.id
  label : s.label l.id = some l
  bound : l.phase ≠ .unbinding
  article : l.article = some a
  item : s.item a = some i
  listed : l.id ∈ i.labels

/-- The unbind of the label ends no campaign (R22). -/
abbrev Stays (i : Item) (l : Label) : Prop := i.pending = none ∨ OnPending i l ∨ 1 < i.outstanding

theorem unbindLabel_hk : Kind.unbindLabel.code ∈ chainKinds .label := by decide

theorem Unbinds.body (h : Unbinds s r l a i) (hr : (s.reportUnbind l).label l.id = some l) :
    unbindLabelBody s r.body = ((s.reportUnbind l).turnUnbinding l, .plain .ok []) := by
  refine unbindLabelBody_of_bound ?_ h.bound hr
  rw [h.names]
  exact h.label

theorem Unbinds.body_stays (h : Unbinds s r l a i) (hs : Stays i l) :
    unbindLabelBody s r.body = ((s.putItem (i.unbound l)).turnUnbinding l, .plain .ok []) := by
  have hreport := State.reportUnbind_of_stays h.article h.item h.listed hs
  have := h.body (by rw [hreport]; exact h.label)
  rwa [hreport] at this

theorem OnlyLabels.turnHomeless (hp : l.phase ≠ .sent) (hh : l.home = none) : OnlyLabels s (s.turnUnbinding l) := by
  rw [State.turnUnbinding_of_homeless s hp hh]
  exact (OnlyLabels.setLabels s _).trans (.delLabel _ _)

/-- A label with no home that is unbound is gone, from the directory and from the homeless set (R89). -/
theorem State.turnHomeless_labels (hr : Table.rising s.labels.directory) (hp : l.phase ≠ .sent) (hh : l.home = none) :
    (∀ x, (s.turnUnbinding l).label x = if x = l.id then none else s.label x)
      ∧ (∀ x, x ∈ (s.turnUnbinding l).labels.homeless ↔ x ∈ s.labels.homeless ∧ x ≠ l.id)
      ∧ (s.turnUnbinding l).labels.templates = s.labels.templates := by
  rw [State.turnUnbinding_of_homeless s hp hh]
  have hlabels : ∀ (v : State) (id : Nat), (v.delLabel id).labels = { v.labels with directory := v.labels.directory.del id } :=
    fun v id => State.setDirectory_labels _ _
  refine ⟨fun x => State.label_delLabel_of_rising
    (s := s.setLabels { s.labels with homeless := setDrop s.labels.homeless l.id }) hr l.id x, fun x => ?_, ?_⟩
  · rw [hlabels]
    exact mem_setDrop
  · rw [hlabels]
    rfl

theorem Writes.putsThen (s : State) (i : Item) (h : OnlyLabels (s.putItem i) u) : Writes s u labelCountBytes :=
  ((OnlyItems.putItem s i).writes _).trans h.writes

/-- An unbind that ends no campaign, of a label with no home. -/
theorem Unbinds.homeless (h : Unbinds s r l a i) (hs : Stays i l) (hh : l.home = none) (hp : l.phase ≠ .sent) :
    ∃ t, exec .unbindLabel s = .next t ∧ t.label l.id = none
      ∧ (∀ x, x ∈ t.labels.homeless ↔ x ∈ s.labels.homeless ∧ x ≠ l.id) ∧ (∀ x, x ≠ l.id → t.label x = s.label x)
      ∧ ItemPut (s.setLabels t.labels) t (i.unbound l) ∧ Answered s t .label r (.plain .ok []) labelCountBytes := by
  have hturn := OnlyLabels.turnHomeless (s := s.putItem (i.unbound l)) hp hh
  obtain ⟨hlabel, hset, -⟩ := State.turnHomeless_labels (s := s.putItem (i.unbound l)) h.tables.rising hp hh
  obtain ⟨t, ht, h1, h2⟩ := h.hand.repliesLabels unbindLabel_hk (h.body_stays hs) (.putsThen s _ hturn) hturn.link
    (Reply.fitsIn_of_no_parts rfl _)
  have hl : ∀ x, t.label x = if x = l.id then none else s.label x := fun x => (State.label_withLog h1 x).trans (hlabel x)
  refine ⟨t, powered_next h.hand.1.1 ht, (hl _).trans (if_pos rfl), fun x => ?_, fun x hx => (hl x).trans (if_neg hx),
    .of_labels (hturn.withLog h1), h2⟩
  rw [State.labels_withLog h1]
  exact hset x

/-- An unbind that ends no campaign, of a label whose update is in flight. -/
theorem Unbinds.sent (h : Unbinds s r l a i) (hs : Stays i l) (hp : l.phase = .sent) :
    ∃ t, exec .unbindLabel s = .next t
      ∧ t.label l.id = some { l with
          article := none, phase := .unbinding, staleReason := .noReason, again := false, blankDue := true }
      ∧ (∀ x, x ≠ l.id → t.label x = s.label x) ∧ t.labels.homeless = s.labels.homeless
      ∧ ItemPut (s.setLabels t.labels) t (i.unbound l) ∧ Answered s t .label r (.plain .ok []) labelCountBytes := by
  have hf := h.body_stays hs
  rw [State.turnUnbinding_of_sent _ hp] at hf
  have hput := OnlyLabels.putLabel (s.putItem (i.unbound l))
    { l with article := none, phase := .unbinding, staleReason := .noReason, again := false, blankDue := true }
  obtain ⟨t, ht, h1, h2⟩ := h.hand.repliesLabels unbindLabel_hk hf (.putsThen s _ hput) hput.link
    (Reply.fitsIn_of_no_parts rfl _)
  have hl := fun x => (State.label_withLog h1 x).trans (State.label_putLabel _ _ x)
  refine ⟨t, powered_next h.hand.1.1 ht, (hl _).trans (if_pos rfl), fun x hx => (hl x).trans (if_neg hx), ?_,
    .of_labels (hput.withLog h1), h2⟩
  rw [State.labels_withLog h1]
  unfold State.putLabel
  rw [State.setDirectory_labels]
  rfl

/-- The record of a label that waits for its BLANK (R89). -/
def Label.blankWaits (l : Label) : Label := { l.bare with blankDue := true }

theorem State.pick_blankWaits (s : State) (hf : l.inFlight = none) : s.pick l.blankWaits = some blankUpdateOf := by
  have : (l.blankWaits.blankDue && l.blankWaits.inFlight.isNone) = true := by
    show (true && l.inFlight.isNone) = true
    rw [hf]
    rfl
  exact if_pos this

/-- The state of an unbound label's item and record, before it joins its set. -/
abbrev State.unboundAt (s : State) (i : Item) (l : Label) : State := (s.putItem (i.unbound l)).putLabel l.blankWaits

theorem State.unboundAt_label (s : State) (i : Item) (l : Label) (x : Nat) :
    (s.unboundAt i l).label x = if x = l.id then some l.blankWaits else s.label x :=
  State.label_putLabel _ _ x

theorem Unbinds.body_home (h : Unbinds s r l a i) (hs : Stays i l) (hp : l.phase ≠ .sent) (hh : l.home = some n) :
    unbindLabelBody s r.body = ((s.unboundAt i l).joinSet l.blankWaits, .plain .ok []) := by
  have hf := h.body_stays hs
  rwa [State.turnUnbinding_of_home _ hp hh] at hf

theorem Unbinds.unboundAt_item (h : Unbinds s r l a i) : (s.unboundAt i l).item a = some (i.unbound l) := by
  rw [State.item_putLabel, State.item_putItem]
  exact if_pos (h.tables.article h.item).symm

/-- An unbind that ends no campaign, of a label whose home can be sent nothing. -/
theorem Unbinds.waits (h : Unbinds s r l a i) (hs : Stays i l) (hp : l.phase ≠ .sent) (hh : l.home = some n)
    (hst : s.station n = some b)
    (hblocked : b.phase = .lost ∨ (b.credit ≤ b.costInFlight ∧ l.inFlight = none ∧ ∀ y ∈ b.ready, y = l.id)) :
    ∃ t x, exec .unbindLabel s = .next t ∧ t.label l.id = some l.blankWaits ∧ (∀ y, y ≠ l.id → t.label y = s.label y)
      ∧ t.item a = some (i.unbound l) ∧ t.station n = some x
      ∧ x = { b with ready := x.ready, waitingForBuffer := x.waitingForBuffer }
      ∧ x.ready = (if l.id ∈ b.ready then b.ready else setAdd b.ready l.id)
      ∧ t.net = s.net ∧ Answered s t .label r (.plain .ok []) labelCountBytes := by
  have hput := OnlyLabels.putLabel (s.putItem (i.unbound l)) l.blankWaits
  obtain ⟨t, x, ht, h1, h2, h3, h4, h5⟩ := h.hand.joinsBlocked h.tables unbindLabel_hk (h.body_home hs hp hh)
    (.putsThen s _ hput) hput.link (Reply.fitsIn_of_no_parts rfl _) hh hst (fun ids hids => by
      refine hblocked.imp_right (fun ⟨hc, hf, hr⟩ => .inr ⟨hc, fun y hy => ?_⟩)
      have hyl : y = l.id := (hids y hy).elim (hr y) id
      exact ⟨l.blankWaits, _, (s.unboundAt_label i l y).trans (if_pos hyl), State.pick_blankWaits _ hf⟩)
  have hl := fun y => (State.label_withLog h1 y).trans (s.unboundAt_label i l y)
  exact ⟨t, x, powered_next h.hand.1.1 ht, (hl _).trans (if_pos rfl), fun y hy => (hl y).trans (if_neg hy),
    (State.item_withLog h1 a).trans h.unboundAt_item, h2, h3, h4, (State.net_withLog h1).trans hput.net, h5⟩

/-- An unbind that ends no campaign, of a label whose ACTIVE home has the credit and the room. -/
theorem Unbinds.blanks (h : Unbinds s r l a i) (hs : Stays i l) (hp : l.phase ≠ .sent) (hf : l.inFlight = none)
    (hh : l.home = some n) (hst : s.station n = some b) (hactive : b.phase = .active)
    (hcost : b.costInFlight + 1 ≤ b.credit) (hr : b.ready = []) (hjoin : s.JoinsLan b.port) :
    ∃ t, exec .unbindLabel s = .next t ∧ Sent s t b l.blankWaits blankUpdateOf
      ∧ (∀ y, y ≠ l.id → t.label y = s.label y) ∧ t.item a = some (i.unbound l)
      ∧ Answered s t .label r (.plain .ok []) labelCountBytes := by
  have hput := OnlyLabels.putLabel (s.putItem (i.unbound l)) l.blankWaits
  have hbody := h.body_home hs hp hh
  rw [State.joinSet_of_home (s := s.unboundAt i l) (l := l.blankWaits) ((hput.station n).trans hst) hr hh,
    State.readied_congr (w := s.unboundAt i l) (s := s) hput.link] at hbody
  obtain ⟨t, ht, h1, h2, h3, h4⟩ := h.hand.sendsAtHome (l := l.blankWaits) (u := blankUpdateOf) h.tables unbindLabel_hk
    (by decide) hbody ((Writes.putsThen s _ hput).trans (.of_eq rfl rfl rfl)) (Reply.fitsIn_of_no_parts rfl _) hst hactive
    hjoin hcost rfl hput.net hput.clock ((s.unboundAt_label i l l.id).trans (if_pos rfl)) hh (State.pick_blankWaits _ hf)
  refine ⟨t, powered_next h.hand.1.1 ht, h1, fun y hy => (h2 y hy).trans ((s.unboundAt_label i l y).trans (if_neg hy)), ?_, h4⟩
  have := h.unboundAt_item
  unfold State.item at this ⊢
  rw [h3]
  exact this

end Sys2Proof.Machine
end

section
/-! PROOFS. UNBIND_LABEL of the label that ends a campaign (R14, R19, R22). -/

namespace Sys2Proof.Machine

variable {s t u p : State} {r : RecordInHand} {i j : Item} {l : Label} {a : Nat} {v : Version}

/-- The item switched to the pending version, one of its labels gone (R19). -/
abbrev Item.switched (i : Item) (l : Label) (v : Version) : Item := { i.unbound l with current := v, pending := none }

/-- What the switch of an item has done: its record is another, and CAMPAIGN_DONE is posted. -/
structure Switched (s p : State) (j : Item) (a n : Nat) : Prop where
  frame : p.withLogOf (s.putItem j) = s.putItem j
  writes : Writes s p logBytes
  posted : Posted s p .campaignDone a n

theorem Switched.post (s : State) (hw : s.store.wf) (j : Item) (a n : Nat) :
    Switched s ((s.putItem j).post .campaignDone a n) j a n where
  frame := State.post_withLog ..
  writes := ((OnlyItems.putItem s j).writes _).trans (Writes.post ..)
  posted := (Posted.post (s := s.putItem j) _ _ _ hw).of_sameLog ((OnlyItems.putItem s j).writes _).sameLog (.refl _)

theorem Switched.putItem {n : Nat} (h : Switched s p i a n) (hj : j.article = i.article) : Switched s (p.putItem j) j a n where
  frame := by
    have hprice : (p.putItem j).price = (s.putItem j).price := by
      have hp : p.price = (s.putItem i).price := State.price_withLog h.frame
      rw [← State.putItem_putItem (s := s) hj]
      show { p.price with items := p.price.items.put j.article j } = _
      rw [hp]
      rfl
    calc (p.putItem j).withLogOf (s.putItem j)
        = (p.withLogOf (s.putItem i)).setPrice (p.putItem j).price := rfl
      _ = (s.putItem i).setPrice (s.putItem j).price := by rw [h.frame, hprice]
      _ = s.putItem j := rfl
  writes := h.writes.trans ((OnlyItems.putItem p j).writes _)
  posted := h.posted.of_sameLog (.refl s) ((OnlyItems.putItem p j).writes _).sameLog

theorem OnlyLabels.of_nudged {ids : List Nat} (h : Nudged s t ids) : OnlyLabels s t := by
  obtain ⟨d, hd⟩ := h.frame
  rw [hd]
  exact .setLabels s _

/-- Labels beside a switch. -/
theorem Switched.labels {n : Nat} (h : Switched s p j a n) (ho : OnlyLabels p u) (ht : t.withLogOf u = u) :
    (t.withLogOf (s.putItem j)).setLabels s.labels = s.putItem j := by
  have hlabels : p.labels = s.labels := State.labels_withLog (u := s.putItem j) h.frame
  calc (t.withLogOf (s.putItem j)).setLabels s.labels
      = ((t.withLogOf p).setLabels p.labels).withLogOf (s.putItem j) := by rw [hlabels]; rfl
    _ = p.withLogOf (s.putItem j) := by rw [ho.withLog ht]
    _ = s.putItem j := h.frame

theorem labelAndLogBytes_of_log (x : Nat) (h : logBytes x = true) : labelAndLogBytes x = true := by
  unfold labelAndLogBytes
  rw [h, Bool.or_true]

theorem labelAndLogBytes_of_count (x : Nat) (h : labelCountBytes x = true) : labelAndLogBytes x = true := by
  unfold labelAndLogBytes
  rw [h, Bool.true_or]

theorem labelAndLogBytes_low (x : Nat) (h : labelAndLogBytes x = true) : x < 0x3000 := by
  unfold labelAndLogBytes at h
  rcases Bool.or_eq_true_iff.mp h with h | h
  · exact labelCountBytes_low x h
  · have := logBytes_iff.mp h
    omega

/-- The unbind of a label with no home ends a campaign: what is said of the label, the log and the record. -/
def UnbindEnds (s t : State) (r : RecordInHand) (l : Label) (a n : Nat) : Prop :=
  exec .unbindLabel s = .next t ∧ t.label l.id = none
    ∧ (∀ x, x ∈ t.labels.homeless ↔ x ∈ s.labels.homeless ∧ x ≠ l.id) ∧ Posted s t .campaignDone a n
    ∧ Answered s t .label r (.plain .ok []) labelAndLogBytes

/-- The request whose unbind report switches the item: `p` is the state after the items and the log, `u` once the other labels
are queued too. -/
theorem Unbinds.ends (h : Unbinds s r l a i) (hp : l.phase ≠ .sent) (hh : l.home = none) {n : Nat}
    (hs : Switched s p j a n) (ho : OnlyLabels p u) (hreport : s.reportUnbind l = u) (hl : u.label l.id = some l)
    (hrising : Table.rising u.labels.directory) (hset : u.labels.homeless = s.labels.homeless) :
    ∃ t, UnbindEnds s t r l a n ∧ (t.withLogOf (s.putItem j)).setLabels s.labels = s.putItem j
      ∧ (∀ x, t.label x = if x = l.id then none else u.label x) ∧ t.labels.templates = u.labels.templates := by
  subst hreport
  have hf := h.body hl
  generalize s.reportUnbind l = u at hf ho hrising hset
  have hturn := OnlyLabels.turnHomeless (s := u) hp hh
  obtain ⟨hlabel, hhomeless, htemplates⟩ := State.turnHomeless_labels hrising hp hh
  generalize u.turnUnbinding l = v at hf hturn hlabel hhomeless htemplates
  have hall := ho.trans hturn
  have hdue : v.link.due = [] := by
    rw [hall.link, State.link_withLog hs.frame]
    exact h.hand.1.2.2
  obtain ⟨t, ht, h1, h2, h3⟩ := h.hand.replies (own := labelAndLogBytes) unbindLabel_hk (by decide) hf
    ((hs.writes.mono labelAndLogBytes_of_log).trans (hall.writes.mono labelAndLogBytes_of_count)) labelAndLogBytes_low hdue
    (Reply.fitsIn_of_no_parts rfl _)
  have ht' : ∀ x, t.label x = if x = l.id then none else u.label x := fun x => (State.label_withLog h1 x).trans (hlabel x)
  refine ⟨t, ⟨powered_next h.hand.1.1 ht, (ht' _).trans (if_pos rfl), fun x => ?_, ?_, h3⟩, hs.labels hall h1, ht', ?_⟩
  · rw [State.labels_withLog h1, hhomeless, hset]
  · exact hs.posted.of_sameLog (.refl s) (hall.writes.sameLog.trans h2)
  · rw [State.labels_withLog h1, htemplates]

/-! ### The switch -/

theorem Item.without_outstanding (i : Item) (l : Label) : (i.without l).outstanding = i.outstanding := rfl

/-- The unbind report of the last label a campaign waits for switches the item (R19, R22). -/
theorem State.reportUnbind_switches (ha : l.article = some a) (hi : s.item a = some i) (hid : l.id ∈ i.labels)
    (hp : i.pending = some v) (ho : i.outstanding = 1) (hn : ¬ OnPending i l) :
    s.reportUnbind l = (s.putItem { i.without l with outstanding := 0 }).switchItem { i.without l with outstanding := 0 } := by
  rw [State.reportUnbind_lowers ha hi hid hp hn]
  unfold State.lowerOutstanding
  dsimp only
  rw [Item.without_outstanding, ho]
  exact if_pos rfl

theorem Item.switched_eq (hp : i.pending = some v) (ho : i.outstanding = 1) (hn : ¬ OnPending i l) :
    i.switched l v = { i.without l with current := v, pending := none, outstanding := 0 } := by
  have h := Item.unbound_outstanding_less hp hn
  rw [ho] at h
  exact congrArg (fun n => { i.without l with current := v, pending := none, outstanding := n }) h

/-- An item once it has switched to its pending version (R19). -/
abbrev Item.switchedTo (x : Item) (v : Version) : Item := { x with current := v, pending := none, outstanding := 0 }

/-- The switch of an item whose record has been stored, with no waiting change to place (R19). -/
theorem State.switchItem_done (s : State) (x : Item) (hp : x.pending = some v)
    (hw : ∀ w, x.waiting = some w → w.queried = true) :
    (s.putItem x).switchItem x = (s.putItem (x.switchedTo v)).post .campaignDone x.article v.number := by
  have hput : (s.putItem x).putItem (x.switchedTo v) = s.putItem (x.switchedTo v) := State.putItem_putItem rfl
  unfold State.switchItem
  rw [hp]
  dsimp only
  rw [hput]
  cases hx : x.waiting with
  | none => rfl
  | some w => exact if_pos (hw w hx)

/-- The switch of an item whose waiting change is then placed (R14, R19). -/
theorem State.switchItem_places (s : State) (x : Item) (hp : x.pending = some v) {w : WaitingChange}
    (hw : x.waiting = some w) (hq : w.queried = false) :
    (s.putItem x).switchItem x = (((s.putItem (x.switchedTo v)).post .campaignDone x.article v.number).placeVersion
      (x.switchedTo v) w.base w.promo).1 := by
  have hput : (s.putItem x).putItem (x.switchedTo v) = s.putItem (x.switchedTo v) := State.putItem_putItem rfl
  unfold State.switchItem
  rw [hp]
  dsimp only
  rw [hput, hw]
  exact if_neg (by rw [hq]; exact Bool.false_ne_true)

/-- The state once the item is switched and CAMPAIGN_DONE posted. -/
abbrev State.switchedAt (s : State) (i : Item) (l : Label) (a : Nat) (v : Version) : State :=
  (s.putItem (i.switched l v)).post .campaignDone a v.number

section
variable (h : Unbinds s r l a i) (hp : i.pending = some v) (ho : i.outstanding = 1) (hn : ¬ OnPending i l)
include h hp ho hn

theorem Unbinds.report_done (hw : ∀ w, i.waiting = some w → w.queried = true) :
    s.reportUnbind l = s.switchedAt i l a v := by
  rw [State.reportUnbind_switches h.article h.item h.listed hp ho hn,
    State.switchItem_done s { i.without l with outstanding := 0 } hp hw]
  unfold State.switchedAt
  rw [Item.switched_eq hp ho hn, ← h.tables.article h.item]
  rfl

theorem Unbinds.report_places {w : WaitingChange} (hw : i.waiting = some w) (hq : w.queried = false) :
    s.reportUnbind l = ((s.switchedAt i l a v).placeVersion (i.switched l v) w.base w.promo).1 := by
  rw [State.reportUnbind_switches h.article h.item h.listed hp ho hn,
    State.switchItem_places s { i.without l with outstanding := 0 } hp hw hq]
  unfold State.switchedAt
  rw [Item.switched_eq hp ho hn, ← h.tables.article h.item]
  rfl

variable (hphase : l.phase ≠ .sent) (hh : l.home = none)
include hphase hh

/-- The campaign ends, with no waiting change to place. -/
theorem Unbinds.ends_done (hw : ∀ w, i.waiting = some w → w.queried = true) :
    ∃ t, UnbindEnds s t r l a v.number ∧ (∀ x, x ≠ l.id → t.label x = s.label x)
      ∧ ItemPut (s.setLabels t.labels) t (i.switched l v) := by
  have hlabels : (s.switchedAt i l a v).labels = s.labels := State.post_labels ..
  obtain ⟨t, h1, h2, h3, -⟩ := h.ends hphase hh (.post s h.hand.1.2.1.1 _ a v.number) (.refl _)
    (h.report_done hp ho hn hw) ((State.label_post ..).trans h.label) (by rw [hlabels]; exact h.tables.rising)
    (by rw [hlabels])
  exact ⟨t, h1, fun x hx => ((h3 x).trans (if_neg hx)).trans (State.label_post ..), .of_labels h2⟩

/-- The campaign ends, and the waiting change is current at once, for the item has no label left. -/
theorem Unbinds.ends_atOnce {w : WaitingChange} (hw : i.waiting = some w) (hq : w.queried = false)
    (hlabels : (i.unbound l).labels = []) :
    ∃ t, UnbindEnds s t r l a v.number ∧ (∀ x, x ≠ l.id → t.label x = s.label x)
      ∧ ItemPut (s.setLabels t.labels) t ((i.switched l v).atOnce w.base w.promo) := by
  have hreport := h.report_places hp ho hn hw hq
  rw [State.placeVersion_of_none (i := i.switched l v) _ _ _ hlabels] at hreport
  have hsame : ((s.switchedAt i l a v).putItem ((i.switched l v).atOnce w.base w.promo)).labels = s.labels :=
    State.post_labels ..
  obtain ⟨t, h1, h2, h3, -⟩ := h.ends hphase hh
    ((Switched.post s h.hand.1.2.1.1 (i.switched l v) a v.number).putItem (j := (i.switched l v).atOnce w.base w.promo) rfl) (.refl _) hreport
    ((State.label_post ..).trans h.label) (by rw [hsame]; exact h.tables.rising) (by rw [hsame])
  exact ⟨t, h1, fun x hx => ((h3 x).trans (if_neg hx)).trans (State.label_post ..), .of_labels h2⟩

/-- The campaign ends, and the waiting change starts another over the labels that are left. -/
theorem Unbinds.ends_campaign {w : WaitingChange} (hw : i.waiting = some w) (hq : w.queried = false)
    (hlabels : (i.unbound l).labels ≠ []) (hbusy : s.LabelsBusy (i.unbound l)) :
    ∃ t, UnbindEnds s t r l a v.number
      ∧ CampaignStarted (s.setLabels { s.labels with
          directory := s.labels.directory.del l.id, homeless := t.labels.homeless }) t (i.switched l v) w.base w.promo := by
  have hreport := h.report_places hp ho hn hw hq
  rw [State.placeVersion_of_labels (i := i.switched l v) _ _ _ hlabels] at hreport
  let p := (s.switchedAt i l a v).putItem ((i.switched l v).campaign w.base w.promo)
  have hsame : p.labels = s.labels := State.post_labels ..
  have hplabel : ∀ x, p.label x = s.label x := fun x => by unfold State.label; rw [hsame]
  have hnudged : Nudged p (p.queueRequest .newTarget (i.switched l v).article (i.unbound l).labels) (i.unbound l).labels :=
    Nudged.queueRequest (by rw [hsame]; exact h.tables.rising) (fun x m hm => h.tables.labelId (by rwa [hplabel] at hm))
      (fun id hid => by
        obtain ⟨m, hm, hb⟩ := hbusy id hid
        exact ⟨m, (hplabel id).trans hm, hb.elim .inl (fun h => .inr (.inl h))⟩)
  have hnot : l.id ∉ (i.unbound l).labels := by
    show l.id ∉ i.labels.filter (fun x => x != l.id)
    simp
  have honly := OnlyLabels.of_nudged hnudged
  have hrest : (p.queueRequest .newTarget (i.switched l v).article (i.unbound l).labels).labels.homeless = s.labels.homeless
      ∧ (p.queueRequest .newTarget (i.switched l v).article (i.unbound l).labels).labels.templates = s.labels.templates := by
    obtain ⟨d, hd⟩ := hnudged.frame
    rw [hd, State.setLabels_labels, hsame]
    exact ⟨rfl, rfl⟩
  obtain ⟨t, h1, h2, h3, h4⟩ := h.ends hphase hh
    ((Switched.post s h.hand.1.2.1.1 (i.switched l v) a v.number).putItem (j := (i.switched l v).campaign w.base w.promo) rfl) honly hreport
    ((hnudged.labels l.id).trans ((if_neg hnot).trans ((hplabel _).trans h.label))) hnudged.rising hrest.1
  have hput : ItemPut (s.setLabels t.labels) t ((i.switched l v).campaign w.base w.promo) := .of_labels h2
  have hdel : ∀ x, (s.setLabels { s.labels with directory := s.labels.directory.del l.id, homeless := t.labels.homeless }).label x
      = if x = l.id then none else s.label x := fun x => Table.find_del h.tables.rising l.id x
  refine ⟨t, h1, hput.item, hput.others, fun id hid m hm => ?_, fun id hid => ?_, ⟨rfl, h4.trans hrest.2⟩, hput.window, ?_⟩
  · have hne : id ≠ l.id := fun he => hnot (he ▸ hid)
    rw [hdel, if_neg hne] at hm
    rw [h3, if_neg hne]
    exact hnudged.label_some hid ((hplabel id).trans hm)
  · rw [h3, hdel]
    split
    · rfl
    · rw [hnudged.labels, if_neg hid, hplabel]
  · have hframe := congrArg (fun x : State => x.setLabels { s.labels with
      directory := s.labels.directory.del l.id, homeless := t.labels.homeless }) hput.frame
    exact hframe

end

end Sys2Proof.Machine
end

section
/-! PROOFS. Labels turned over to QUEUED by a request (R87, R90, R91): SET_LABEL_TEMPLATE, RETRY_LABEL, and O32. -/

namespace Sys2Proof.Machine

variable {s t u v : State} {r : RecordInHand} {i : Item} {l : Label} {a n : Nat} {b : BaseStation}

/-! ### Labels and items apart -/

theorem State.setDirectory_putItem (s : State) (i : Item) (x : Table Label) :
    (s.putItem i).setDirectory x = (s.setDirectory x).putItem i := by
  unfold State.setDirectory
  dsimp only
  by_cases h : phaseCounts x = phaseCounts s.labels.directory
  · rw [if_pos h, if_pos (show phaseCounts x = phaseCounts (s.putItem i).labels.directory from h)]
    rfl
  · rw [if_neg h, if_neg (show ¬ phaseCounts x = phaseCounts (s.putItem i).labels.directory from h)]
    rfl

theorem State.putLabel_putItem (s : State) (i : Item) (l : Label) :
    (s.putItem i).putLabel l = (s.putLabel l).putItem i := State.setDirectory_putItem ..

theorem State.joinSet_putItem (s : State) (i : Item) (l : Label) : (s.putItem i).joinSet l = (s.joinSet l).putItem i := by
  cases hh : l.home with
  | none =>
    rw [State.joinSet_homeless hh, State.joinSet_homeless hh]
    rfl
  | some n =>
    cases hb : s.station n with
    | none =>
      have hsame : ∀ v : State, v.station n = none → v.joinSet l = v := fun v hv => by
        unfold State.joinSet
        rw [hh]
        dsimp only
        rw [hv]
      rw [hsame s hb, hsame (s.putItem i) hb]
    | some b =>
      rw [State.joinSet_of_station hb hh, State.joinSet_of_station (s := s.putItem i) hb hh]
      split
      · rfl
      · rfl

theorem State.queue_putItem (s : State) (i : Item) (l : Label) : (s.putItem i).queue l = (s.queue l).putItem i := by
  unfold State.queue
  dsimp only
  rw [State.putLabel_putItem, State.joinSet_putItem]

/-! ### A label queued by a request -/

section
variable {k : RequestKind} {f : State → List Byte → State × Reply} {rep : Reply}

/-- A request of the LABEL chain whose effect puts at most an item record and queues a label. -/
structure Queues (s : State) (r : RecordInHand) (k : RequestKind) (f : State → List Byte → State × Reply) (v : State)
    (l : Label) : Prop where
  hand : InHand s .label k r
  tables : s.TablesBounded
  kind : k.code ∈ chainKinds .label
  items : OnlyItems s v
  body : f s r.body = (v.queue l, .plain .ok [])

/-- The state with the label's record QUEUED, before it joins its set. -/
abbrev State.queuedAt (v : State) (l : Label) : State := v.putLabel { l with phase := .queued }

theorem State.queuedAt_label (v : State) (l : Label) (x : Nat) :
    (v.queuedAt l).label x = if x = l.id then some { l with phase := .queued } else v.label x := State.label_putLabel _ _ x

theorem OnlyItems.label (h : OnlyItems s v) (x : Nat) : v.label x = s.label x := by
  have : v.labels = s.labels := (congrArg State.labels h.frame :)
  unfold State.label
  rw [this]

theorem OnlyItems.station (h : OnlyItems s v) (n : Nat) : v.station n = s.station n := by
  unfold State.station
  rw [h.link]

theorem OnlyItems.templates (h : OnlyItems s v) : v.labels.templates = s.labels.templates :=
  (congrArg (fun x : State => x.labels.templates) h.frame :)

theorem Queues.writes (h : Queues s r k f v l) : Writes s (v.queuedAt l) labelCountBytes :=
  (h.items.writes _).trans (OnlyLabels.putLabel v _).writes

theorem Queues.link (h : Queues s r k f v l) : (v.queuedAt l).link = s.link :=
  (OnlyLabels.putLabel v _).link.trans h.items.link

/-- A label with no home waits in the homeless set. -/
theorem Queues.homeless (h : Queues s r k f v l) (hh : l.home = none) :
    ∃ t, (s.request .label k f).settle = t ∧ t.label l.id = some { l with phase := .queued } ∧ l.id ∈ t.labels.homeless
      ∧ (∀ x, x ≠ l.id → t.label x = s.label x) ∧ (t.withLogOf v).setLabels v.labels = v
      ∧ Answered s t .label r (.plain .ok []) labelCountBytes := by
  have hbody := h.body
  have honly : OnlyLabels v (v.queue l) := by
    unfold State.queue
    dsimp only
    rw [State.joinSet_homeless (l := { l with phase := .queued }) hh]
    exact (OnlyLabels.putLabel v _).trans (.setLabels _ _)
  have hset : l.id ∈ (v.queue l).labels.homeless := by
    unfold State.queue
    dsimp only
    rw [State.joinSet_homeless (l := { l with phase := .queued }) hh]
    exact mem_setAdd.mpr (.inr rfl)
  have hlabel := State.label_queue v l
  generalize v.queue l = u at hbody honly hset hlabel
  obtain ⟨t, ht, h1, h2⟩ := h.hand.repliesLabels h.kind hbody ((h.items.writes _).trans honly.writes)
    (honly.link.trans h.items.link) (Reply.fitsIn_of_no_parts rfl _)
  have hl := fun x => (State.label_withLog h1 x).trans (hlabel x)
  refine ⟨t, ht, (hl _).trans (if_pos rfl), ?_, fun x hx => ((hl x).trans (if_neg hx)).trans (h.items.label x),
    honly.withLog h1, h2⟩
  rw [State.labels_withLog h1]
  exact hset

theorem Queues.pick (h : Queues s r k f v l) (ha : l.article = some a) (hi : v.item a = some i)
    (hc : l.confirmed ≠ some (i.target l.template)) :
    (v.queuedAt l).pick { l with phase := .queued }
      = some (buildUpdate l ((s.labels.templates.find l.template).getD .blank) i) := by
  have ht : (v.queuedAt l).labels.templates = s.labels.templates := by
    unfold State.queuedAt State.putLabel
    rw [State.setDirectory_labels]
    exact h.items.templates
  rw [← ht]
  exact State.pick_of_queued (l := { l with phase := .queued }) rfl ha ((State.item_putLabel _ _ a).trans hi) hc

/-- A label whose home can be sent nothing waits there. -/
theorem Queues.blocked (h : Queues s r k f v l) (hh : l.home = some n) (hst : s.station n = some b) (hr : b.ready = [])
    (hb : b.phase = .lost ∨ b.credit ≤ b.costInFlight) (ha : l.article = some a) (hi : v.item a = some i)
    (hc : l.confirmed ≠ some (i.target l.template)) :
    ∃ t x, (s.request .label k f).settle = t ∧ t.label l.id = some { l with phase := .queued }
      ∧ (∀ y, y ≠ l.id → t.label y = s.label y) ∧ t.station n = some x ∧ x.ready = [l.id] ∧ x.inFlight = b.inFlight
      ∧ ((t.withLogOf v).setLabels v.labels).setLink v.link = v
      ∧ Answered s t .label r (.plain .ok []) labelCountBytes := by
  obtain ⟨t, x, ht, h1, h2, h3, h4, h5⟩ := h.hand.joinsBlocked (l := { l with phase := .queued }) h.tables h.kind h.body
    h.writes h.link (Reply.fitsIn_of_no_parts rfl _) hh hst (fun ids hids => by
      refine hb.imp_right (fun hcredit => .inr ⟨hcredit, fun y hy => ?_⟩)
      have hyl : y = l.id := (hids y hy).elim (fun h => by rw [hr] at h; exact nomatch h) id
      exact ⟨_, _, (v.queuedAt_label l y).trans (if_pos hyl), h.pick ha hi hc⟩)
  have hl := fun y => (State.label_withLog h1 y).trans (v.queuedAt_label l y)
  refine ⟨t, x, ht, (hl _).trans (if_pos rfl), fun y hy => ((hl y).trans (if_neg hy)).trans (h.items.label y), h2, ?_, ?_,
    ?_, h5⟩
  · rw [h4, hr, if_neg (by simp)]
    rfl
  · rw [h3]
  · have hframe := (OnlyLabels.putLabel v { l with phase := .queued }).withLog h1
    rw [h.items.link]
    exact hframe

/-- A label whose ACTIVE home has the credit and the room is sent its update. -/
theorem Queues.sent (h : Queues s r k f v l) (hh : l.home = some n) (hst : s.station n = some b) (hr : b.ready = [])
    (hactive : b.phase = .active) {m : Template} (ha : l.article = some a) (hi : v.item a = some i)
    (hm : s.labels.templates.find l.template = some m) (hc : l.confirmed ≠ some (i.target l.template))
    (hjoin : s.JoinsLan b.port) (hcost : b.costInFlight + (buildUpdate l m i).kind.cost ≤ b.credit) :
    ∃ t, (s.request .label k f).settle = t ∧ UpdateOnWay s t b l (buildUpdate l m i)
      ∧ (∀ y, y ≠ l.id → t.label y = s.label y) ∧ t.price = v.price
      ∧ Answered s t .label r (.plain .ok []) labelCountBytes := by
  have hbody := h.body
  rw [State.queue_of_home ((h.items.station n).trans hst) hr hh, State.readied_congr h.items.link] at hbody
  have hpick := h.pick ha hi hc
  rw [hm] at hpick
  obtain ⟨t, ht, h1, h2, h3, h4⟩ := h.hand.sendsAtHome (l := { l with phase := .queued }) h.tables h.kind (by decide) hbody
    (h.writes.trans (.of_eq rfl rfl rfl)) (Reply.fitsIn_of_no_parts rfl _) hst hactive hjoin hcost rfl
    ((State.putLabel_net _ _).trans (congrArg State.net h.items.frame :))
    ((State.putLabel_clock _ _).trans (congrArg State.clock h.items.frame :))
    ((v.queuedAt_label l l.id).trans (if_pos rfl)) hh hpick
  exact ⟨t, ht, h1.onWay, fun y hy => ((h2 y hy).trans ((v.queuedAt_label l y).trans (if_neg hy))).trans (h.items.label y),
    h3.trans (State.putLabel_price _ _), h4⟩

end

/-! ### The bodies -/

theorem setLabelTemplateBody_of_some {b : List Byte} (hl : s.label (leField b 0 4) = some l)
    (hm : s.labels.templates.find (leField b 4 2) ≠ none) : setLabelTemplateBody s b =
      if l.phase = .unbinding then (s, .plain .busy [])
      else if l.template = leField b 4 2 then (s, .noEffect [])
      else (s.changeTemplate l (leField b 4 2), .plain .ok []) := by
  have hsome : ¬ (s.labels.templates.find (leField b 4 2)).isNone = true := by simpa using hm
  unfold setLabelTemplateBody
  dsimp only
  rw [hl]
  exact if_neg hsome

theorem State.changeTemplate_of_idle (s : State) (x : Nat) (hp : l.phase = .idle) :
    s.changeTemplate l x = s.queue { l with template := x } := by
  unfold State.changeTemplate
  dsimp only
  rw [hp]

theorem State.changeTemplate_of_busy (s : State) (x : Nat) (hp : l.phase ≠ .idle) (hu : l.phase ≠ .unbinding) :
    s.changeTemplate l x = s.putLabel { l with template := x, again := l.again || l.phase == .sent } := by
  unfold State.changeTemplate
  dsimp only
  cases hphase : l.phase with
  | idle => exact absurd hphase hp
  | unbinding => exact absurd hphase hu
  | sent => simp
  | queued => rw [show (LabelPhase.queued == LabelPhase.sent) = false from rfl, Bool.or_false]
  | stale => rw [show (LabelPhase.stale == LabelPhase.sent) = false from rfl, Bool.or_false]

theorem State.retry_eq (ha : l.article = some a) (hi : s.item a = some i) (hid : l.id ∈ i.labels) :
    s.retry l = (s.putItem { i with staleCount := i.staleCount - 1 }).queue
      { l with attempts := 0, staleReason := .noReason } := by
  have hi' : (s.queue { l with attempts := 0, staleReason := .noReason }).item a = some i := by
    rw [State.item_queue]
    exact hi
  have hreport : (s.queue { l with attempts := 0, staleReason := .noReason }).staleReport a l.id false
      = (s.queue { l with attempts := 0, staleReason := .noReason }).putItem { i with staleCount := i.staleCount - 1 } := by
    unfold State.staleReport
    rw [hi']
    exact if_pos hid
  unfold State.retry
  dsimp only
  split
  · rename_i hn
    rw [ha] at hn
    exact nomatch hn
  · rename_i x hx
    rw [ha] at hx
    cases hx
    rw [State.queue_putItem]
    exact hreport

theorem retryLabel_hk : Kind.retryLabel.code ∈ chainKinds .label := by decide

theorem setLabelTemplate_hk : Kind.setLabelTemplate.code ∈ chainKinds .label := by decide

/-- The retry of a STALE label that is bound to an item (R91). -/
theorem Queues.retry (h : InHand s .label Kind.retryLabel r) (hb : s.TablesBounded) (hl : s.label (leField r.body 0 4) = some l)
    (hp : l.phase = .stale) (ha : l.article = some a) (hi : s.item a = some i) (hid : l.id ∈ i.labels) :
    Queues s r Kind.retryLabel retryLabelBody (s.putItem { i with staleCount := i.staleCount - 1 })
      { l with attempts := 0, staleReason := .noReason } where
  hand := h
  tables := hb
  kind := retryLabel_hk
  items := .putItem s _
  body := by
    unfold retryLabelBody
    rw [hl]
    dsimp only
    rw [if_pos hp, State.retry_eq ha hi hid]

/-- The template of an IDLE label replaced by another that is loaded (R90). -/
theorem Queues.template (h : InHand s .label Kind.setLabelTemplate r) (hb : s.TablesBounded)
    (hl : s.label (leField r.body 0 4) = some l) (hm : s.labels.templates.find (leField r.body 4 2) ≠ none)
    (hp : l.phase = .idle) (hne : l.template ≠ leField r.body 4 2) :
    Queues s r Kind.setLabelTemplate setLabelTemplateBody s { l with template := leField r.body 4 2 } where
  hand := h
  tables := hb
  kind := setLabelTemplate_hk
  items := .refl s
  body := by
    rw [setLabelTemplateBody_of_some hl hm, if_neg (by rw [hp]; decide), if_neg hne, State.changeTemplate_of_idle _ _ hp]

/-! ### O32 -/

/-- UNBIND_LABEL of no label, and of one that is UNBINDING. -/
theorem unbindLabel_refuses (h : InHand s .label Kind.unbindLabel r) :
    (s.label (leField r.body 0 4) = none → ∃ t, exec .unbindLabel s = .next t ∧ t.withLogOf s = s
      ∧ Answered s t .label r (.plain .notFound []) noBytes)
    ∧ ∀ l, s.label (leField r.body 0 4) = some l → l.phase = .unbinding → ∃ t, exec .unbindLabel s = .next t
      ∧ t.withLogOf s = s ∧ Answered s t .label r (.noEffect []) noBytes := by
  refine ⟨fun hnone => ?_, fun l hl hp => ?_⟩
  · have hf : unbindLabelBody s r.body = (s, .plain .notFound []) := by
      unfold unbindLabelBody
      rw [hnone]
    obtain ⟨t, ht, h1⟩ := h.refuses unbindLabel_hk (by decide) hf (Reply.fitsIn_of_no_parts rfl _)
    exact ⟨t, powered_next h.1.1 ht, h1⟩
  · have hf : unbindLabelBody s r.body = (s, .noEffect []) := by
      unfold unbindLabelBody
      rw [hl]
      exact if_pos hp
    obtain ⟨t, ht, h1⟩ := h.refuses unbindLabel_hk (by decide) hf (Reply.fitsIn_of_no_parts rfl _)
    exact ⟨t, powered_next h.1.1 ht, h1⟩

theorem blankFrame_eq (s : State) (b : BaseStation) (l : Label) : s.updateFrame b l blankUpdateOf
    = s.makeFrame b.address s.net.labelType (beBytes 1 4 ++ beBytes 2 b.id ++ beBytes 4 s.link.sendTag ++ beBytes 4 l.id
      ++ beBytes 1 3 ++ zeros 2) := by
  have hb : beBytes 1 blankUpdateOf.kind.code ++ beBytes 2 blankUpdateOf.content.length ++ blankUpdateOf.content
      = beBytes 1 3 ++ zeros 2 := by decide
  unfold State.updateFrame
  refine congrArg (s.makeFrame b.address s.net.labelType) ?_
  simp only [List.append_assoc] at hb ⊢
  rw [hb]

/-- Settles O32, with the turns of a label's state as the cases. -/
theorem labelTurned : Obligations.LabelTurned := by
  unfold Obligations.LabelTurned
  refine ⟨fun s r h hb => ?_, fun s r h hb => ?_, fun s r h hb => ?_⟩
  · intro id
    obtain ⟨hnone, hunbinding⟩ := unbindLabel_refuses h
    refine ⟨hnone, fun l hl => ⟨hunbinding l hl, fun a i hp ha hi hid => ?_⟩⟩
    have hlid : l.id = id := hb.labelId hl
    have hu : Unbinds s r l a i := ⟨h, hb, hlid.symm, by rw [hlid]; exact hl, hp, ha, hi, by rw [hlid]; exact hid⟩
    clear_value id
    subst hlid
    intro onPending stays item
    refine ⟨hu.homeless, hu.sent, fun n b hs hsent hh hst hlost _ => ?_, ?_, ?_⟩
    · obtain ⟨t, x, h1, h2, -, h3, h4, h5, h6, h7, -⟩ := hu.waits hs hsent hh hst (.inl hlost)
      refine ⟨t, x, h1, h2, h4, ?_, fun y hy => ?_, ?_, ?_, h3, h7⟩
      · rw [h6]
        split
        · assumption
        · exact mem_setAdd.mpr (.inr rfl)
      · rw [h6]
        split
        · exact hy
        · exact mem_setAdd.mpr (.inl hy)
      · rw [h5]; exact hlost
      · rw [h5]
    · intro n b hs hsent hf hh hst hactive _ bare tag
      obtain rfl := (State.station_some hst).2
      refine ⟨fun hc hr => ?_, fun hc hr hjoin => ?_⟩
      · obtain ⟨t, x, h1, h2, h3, h4, h5, h6, h7, h8, h9⟩ := hu.waits hs hsent hh hst
          (.inr ⟨hc, hf, fun y hy => hr.elim (fun hr => by rw [hr] at hy; exact nomatch hy)
            (fun hr => by rw [hr] at hy; exact List.mem_singleton.mp hy)⟩)
        refine ⟨t, x, h1, h2, h3, h4, h5, ?_, ?_, ?_, h8, h9⟩
        · rw [h7]
          rcases hr with hr | hr
          · rw [hr, if_neg (by simp)]
            rfl
          · rw [hr, if_pos (by simp)]
        · rw [h6]
        · rw [h6]; exact hactive
      · obtain ⟨t, h1, h2, h3, h4, h5⟩ := hu.blanks hs hsent hf hh hst hactive hc hr hjoin
        refine ⟨t, h1, h2.label, h3, h4, ?_, ?_, h5⟩
        · rw [h2.station]
          unfold BaseStation.sent
          rw [← hr]
          rfl
        · have hoffered := h2.offered
          rw [blankFrame_eq] at hoffered
          exact hoffered
    · intro v hv hout hnot hh hsent settled next gone
      refine ⟨fun hw => ?_, fun w hw hq => ⟨fun hl => ?_, fun hl hbusy => ?_⟩⟩
      · obtain ⟨t, ⟨h1, h2, h3, h4, h5⟩, h6⟩ := hu.ends_done hv hout hnot hsent hh hw
        exact ⟨t, ⟨h1, h2, h3, h4, h5⟩, h6⟩
      · obtain ⟨t, ⟨h1, h2, h3, h4, h5⟩, h6⟩ := hu.ends_atOnce hv hout hnot hsent hh hw hq hl
        exact ⟨t, ⟨h1, h2, h3, h4, h5⟩, h6⟩
      · obtain ⟨t, ⟨h1, h2, h3, h4, h5⟩, h6⟩ := hu.ends_campaign hv hout hnot hsent hh hw hq hl hbusy
        exact ⟨t, ⟨h1, h2, h3, h4, h5⟩, h6⟩
  · intro id template
    have hrefuse : ∀ {rep : Reply}, setLabelTemplateBody s r.body = (s, rep) → rep.parts = [] →
        ∃ t, exec .setLabelTemplate s = .next t ∧ t.withLogOf s = s ∧ Answered s t .label r rep noBytes := by
      intro rep hf hparts
      obtain ⟨t, ht, h1⟩ := h.refuses setLabelTemplate_hk (by decide) hf (Reply.fitsIn_of_no_parts hparts _)
      exact ⟨t, powered_next h.1.1 ht, h1⟩
    refine ⟨fun hnone => hrefuse ?_ rfl, fun l hl hm => ?_⟩
    · unfold setLabelTemplateBody
      dsimp only
      rcases hnone with hnone | hnone
      · rw [hnone]
      · rw [hnone]
        split
        · rfl
        · rfl
    have hlid : l.id = id := hb.labelId hl
    refine ⟨fun hp => hrefuse ?_ rfl, fun hp heq => hrefuse ?_ rfl, fun hp hidle hne => ?_, fun hidle hh hne => ?_,
      fun n b a i hidle hne hh hst hr hblocked _ ha hi hc => ?_, ?_⟩
    · rw [setLabelTemplateBody_of_some hl hm, if_pos hp]
    · rw [setLabelTemplateBody_of_some hl hm, if_neg hp, if_pos heq]
    · have hf : setLabelTemplateBody s r.body
          = (s.putLabel { l with template := template, again := l.again || l.phase == .sent }, .plain .ok []) := by
        rw [setLabelTemplateBody_of_some hl hm, if_neg hp, if_neg hne, State.changeTemplate_of_busy _ _ hidle hp]
      rw [State.putLabel_of_phase hb.rising (l := l) (m := { l with
        template := template, again := l.again || l.phase == .sent }) (by rw [← hlid] at hl; exact hl) rfl] at hf
      obtain ⟨t, ht, h1, -, h2⟩ := h.replies (own := noBytes) setLabelTemplate_hk (by decide) hf (.of_eq rfl rfl rfl)
        (fun _ h => Bool.noConfusion h) h.1.2.2 (Reply.fitsIn_of_no_parts rfl _)
      have hlabel : ∀ x, t.label x = if x = l.id then
          some { l with template := template, again := l.again || l.phase == .sent } else s.label x := fun x =>
        (State.label_withLog h1 x).trans (Table.find_put _ _ _ _)
      refine ⟨t, powered_next h.1.1 ht, (hlabel id).trans (if_pos hlid.symm),
        fun x hx => (hlabel x).trans (if_neg (by rw [hlid]; exact hx)), ?_, h2⟩
      have hframe := congrArg (fun x : State => (x.withLogOf s).setLabels s.labels) h1
      exact hframe
    · obtain ⟨t, ht, h1, h2, h3, h4, h5⟩ := (Queues.template h hb hl hm hidle hne).homeless hh
      exact ⟨t, powered_next h.1.1 ht, (congrArg t.label hlid.symm).trans h1, by rw [← hlid]; exact h2,
        fun x hx => h3 x (fun he => hx (he.trans hlid)), h4, h5⟩
    · obtain ⟨t, x, ht, h1, h2, h3, h4, h5, h6, h7⟩ := (Queues.template h hb hl hm hidle hne).blocked hh hst hr hblocked ha hi hc
      exact ⟨t, x, powered_next h.1.1 ht, (congrArg t.label hlid.symm).trans h1,
        fun y hy => h2 y (fun he => hy (he.trans hlid)), h3, h4.trans (congrArg (fun y => [y]) hlid), h5, h6, h7⟩
    · intro n b a i m hidle hne hh hst hactive hr _ ha hi hm' hc hjoin l' u hcost
      obtain ⟨t, ht, h1, h2, h3, h4⟩ := (Queues.template h hb hl hm hidle hne).sent hh hst hr hactive ha hi hm' hc hjoin hcost
      exact ⟨t, powered_next h.1.1 ht, h1, fun y hy => h2 y (fun he => hy (he.trans hlid)), h3, h4⟩
  · intro id
    have hrefuse : ∀ {rep : Reply}, retryLabelBody s r.body = (s, rep) → rep.parts = [] →
        ∃ t, exec .retryLabel s = .next t ∧ t.withLogOf s = s ∧ Answered s t .label r rep noBytes := by
      intro rep hf hparts
      obtain ⟨t, ht, h1⟩ := h.refuses retryLabel_hk (by decide) hf (Reply.fitsIn_of_no_parts hparts _)
      exact ⟨t, powered_next h.1.1 ht, h1⟩
    refine ⟨fun hnone => hrefuse ?_ rfl, fun l hl => ?_⟩
    · unfold retryLabelBody
      rw [hnone]
    have hlid : l.id = id := hb.labelId hl
    refine ⟨fun hp => hrefuse ?_ rfl, fun a i hp hh ha hi hid => ?_,
      fun n b a i hp hh hst hr hblocked _ ha hi hid hc => ?_, ?_⟩
    · unfold retryLabelBody
      rw [hl]
      exact if_neg hp
    · obtain ⟨t, ht, h1, h2, h3, h4, h5⟩ := (Queues.retry h hb hl hp ha hi (by rw [hlid]; exact hid)).homeless hh
      exact ⟨t, powered_next h.1.1 ht, (congrArg t.label hlid.symm).trans h1, by rw [← hlid]; exact h2,
        fun x hx => h3 x (fun he => hx (he.trans hlid)), .of_labels h4, h5⟩
    · have hj := (State.item_putItem s { i with staleCount := i.staleCount - 1 } a).trans (if_pos (hb.article hi).symm)
      obtain ⟨t, x, ht, h1, h2, h3, h4, h5, h6, h7⟩ :=
        (Queues.retry h hb hl hp ha hi (by rw [hlid]; exact hid)).blocked hh hst hr hblocked ha hj hc
      refine ⟨t, x, powered_next h.1.1 ht, (congrArg t.label hlid.symm).trans h1, fun y hy => h2 y (fun he => hy (he.trans hlid)), h3,
        h4.trans (congrArg (fun y => [y]) hlid), h5, ?_, (congrArg State.net h6 :), h7⟩
      rw [← hj]
      have hitem := congrArg (fun x : State => x.item a) h6
      exact hitem
    · intro n b a i m hp hh hst hactive hr _ ha hi hid hm hc hjoin l' u hcost
      have hj := (State.item_putItem s { i with staleCount := i.staleCount - 1 } a).trans (if_pos (hb.article hi).symm)
      obtain ⟨t, ht, h1, h2, h3, h4⟩ := (Queues.retry h hb hl hp ha hi (by rw [hlid]; exact hid)).sent hh hst hr hactive ha hj
        hm hc hjoin hcost
      refine ⟨t, powered_next h.1.1 ht, h1, fun y hy => h2 y (fun he => hy (he.trans hlid)), ?_, h4⟩
      rw [← hj]
      unfold State.item
      rw [h3]

end Sys2Proof.Machine
end

section
/-! PROOFS. The end of an update (R94-R100, R117, R118): the state in which an outcome is acted on, and the run that follows. -/

namespace Sys2Proof.Machine

variable {s t q v w : State} {a id n : Nat} {i j : Item} {l m : Label} {b c : BaseStation} {u : InFlightUpdate}
  {rest : List LabelFrame}

/-! ### The state in which an outcome is acted on -/

/-- The update's record is taken off its station: but for the station link, `q` is `s`; nothing is ready at the station. -/
structure Ends (s q : State) (n : Nat) (c : BaseStation) (rest : List LabelFrame) : Prop where
  link : q = s.setLink q.link
  distinct : q.StationsDistinct
  station : q.station n = some c
  ready : c.ready = []
  due : q.link.due = []
  inbox : q.link.inbox = rest

theorem Ends.frame (h : Ends s q n c rest) : q.setLink s.link = s := by
  have := h.link
  rw [this]
  rfl

theorem Ends.stationId (h : Ends s q n c rest) : c.id = n := (State.station_some h.station).2

theorem State.putStation_putStation (s : State) (x y : BaseStation) (h : y.id = x.id) :
    (s.putStation x).putStation y = s.putStation y := by
  refine congrArg (fun ts => s.setLink { s.link with table := ts }) ?_
  show (s.link.table.map (fun b => if b.id = x.id then x else b)).map (fun b => if b.id = y.id then y else b) = _
  rw [List.map_map]
  refine List.map_congr_left fun z _ => ?_
  rw [Function.comp_apply]
  by_cases hz : z.id = x.id
  · rw [if_pos hz, if_pos h.symm, if_pos (hz.trans h.symm)]
  · rw [if_neg hz]

/-- The state after a station's record of an update is taken off. -/
theorem Ends.of_putStation (hd : s.StationsDistinct) (hdue : s.link.due = []) (hst : s.station n = some b) (hid : c.id = b.id)
    (hr : c.ready = []) : Ends s (s.putStation c) n c s.link.inbox where
  link := rfl
  distinct := by
    unfold State.StationsDistinct
    rw [State.ids_putStation]
    exact hd
  station := State.station_putStation_same hst (hid.trans (State.station_some hst).2)
  ready := hr
  due := hdue
  inbox := rfl

/-- The arbiter's run on the freed credit, at a station that can be sent nothing (R113, R117). -/
theorem State.callArbiter_settles (hd : v.StationsDistinct) {ms : List Nat} (hdue : v.link.due = ms.map .station)
    (hms : ∀ m ∈ ms, m = n) (hst : v.station n = some c) (hb : v.Blocked c) :
    ∃ K, (v.callArbiter n).settle = v.setLink K ∧ (v.setLink K).station n = some (c.calmed [n])
      ∧ K.inbox = v.link.inbox := by
  have hcid := (State.station_some hst).2
  have hsettle := State.settle_of_blocked (s := v.callArbiter n) (ns := ms ++ [n]) hd
    (by show v.link.due ++ [.station n] = _; rw [hdue, List.map_append]; rfl)
    (fun m hm x hx => by
      have hmn : m = n := (List.mem_append.mp hm).elim (hms m) (List.mem_singleton.mp ·)
      subst hmn
      rw [show (v.callArbiter m).station m = v.station m from rfl, hst] at hx
      cases hx
      exact hb)
  refine ⟨_, hsettle, ?_, rfl⟩
  rw [State.station_calmed v { (v.callArbiter n).link with due := [] } rfl, hst]
  have hsame : c.calmed (ms ++ [n]) = c.calmed [n] := by
    unfold BaseStation.calmed
    have h1 : c.id ∈ ms ++ [n] := by rw [hcid]; simp
    have h2 : c.id ∈ [n] := by rw [hcid]; simp
    simp only [h1, h2]
  rw [Option.map_some, hsame]

theorem BaseStation.calmed_of_active (hid : c.id = n) (hp : c.phase = .active) :
    c.calmed [n] = { c with waitingForBuffer := false } :=
  if_pos ⟨by rw [hid]; simp, by rw [hp]; decide⟩

/-- An outcome that makes no label ready. -/
theorem Ends.quiet (h : Ends s q n c rest) (hst : v.station n = some c)
    (hids : v.link.table.map BaseStation.id = q.link.table.map BaseStation.id) (hdue : v.link.due = q.link.due)
    (hin : v.link.inbox = q.link.inbox) :
    ∃ K, (v.callArbiter n).settle = v.setLink K ∧ (v.setLink K).station n = some (c.calmed [n]) ∧ K.inbox = rest := by
  obtain ⟨K, h1, h2, h3⟩ := State.callArbiter_settles (n := n) (ms := []) (hids ▸ h.distinct : (_ : List Nat).Nodup)
    (by rw [hdue, h.due]; rfl) nofun hst (.inr (.inl h.ready))
  exact ⟨K, h1, h2, h3.trans (hin.trans h.inbox)⟩

theorem Ends.quiet_of_link (h : Ends s q n c rest) (hl : v.link = q.link) :
    ∃ K, (v.callArbiter n).settle = v.setLink K ∧ (v.setLink K).station n = some (c.calmed [n]) ∧ K.inbox = rest := by
  refine h.quiet ?_ (by rw [hl]) (by rw [hl]) (by rw [hl])
  have := h.station
  unfold State.station at this ⊢
  rw [hl]
  exact this

/-- An outcome that makes one label ready at the station, which has no credit left. -/
theorem Ends.waits (h : Ends s q n c rest) (hl : v.link = q.link) (hh : m.home = some n) (hc : c.credit ≤ c.costInFlight)
    (hlabel : v.label m.id = some m) {up : Update} (hpick : v.pick m = some up) :
    ∃ K, ((v.joinSet m).callArbiter n).settle = v.setLink K
      ∧ (v.setLink K).station n = some (BaseStation.calmed [n] { c with ready := [m.id] }) ∧ K.inbox = rest := by
  have hst : v.station n = some c := by
    have := h.station
    unfold State.station at this ⊢
    rw [hl]
    exact this
  have hjoin := State.joinSet_of_home hst h.ready hh
  obtain ⟨K, h1, h2, h3⟩ := State.callArbiter_settles (v := v.joinSet m) (n := n) (ms := [c.id])
    (c := { c with ready := [m.id] })
    (by
      rw [hjoin]
      show ((v.putStation { c with ready := [m.id] }).link.table.map BaseStation.id).Nodup
      rw [State.ids_putStation, hl]
      exact h.distinct)
    (by
      rw [hjoin]
      show v.link.due ++ _ = _
      rw [hl, h.due]
      rfl)
    (fun m hm => (List.mem_singleton.mp hm).trans h.stationId)
    (by
      rw [hjoin]
      exact State.station_putStation_same hst h.stationId)
    (.inr (.inr ⟨hc, fun y hy => by
      rw [List.mem_singleton] at hy
      subst hy
      rw [hjoin]
      exact ⟨m, up, hlabel, hpick⟩⟩))
  rw [hjoin] at h1 h2 h3
  refine ⟨K, by rw [hjoin, h1]; rfl, h2, h3.trans ?_⟩
  show v.link.inbox = _
  rw [hl, h.inbox]

end Sys2Proof.Machine
end

section
/-! PROOFS. What each outcome of an update does (R94-R100), as an equation per case, and what it leaves once the run on the
freed credit is made. -/

namespace Sys2Proof.Machine

variable {s t q v w R : State} {a id n : Nat} {i j : Item} {l m : Label} {b c : BaseStation} {u : InFlightUpdate}
  {rest : List LabelFrame} {o : UpdateOutcome}

/-! ### Outcomes, one equation each -/

/-- The label's update in flight is the one that ends (R94). -/
structure Awaits (q : State) (id : Nat) (l : Label) (u : InFlightUpdate) : Prop where
  label : q.label id = some l
  id : l.id = id
  update : l.inFlight = some u

theorem Awaits.blank_shown (h : Awaits q id l u) (hk : u.kind = .blankUpdate) :
    q.updateEnded u.tag id .shown = q.delLabel id := by
  rw [State.updateEnded_eq q u.tag h.label h.update rfl, if_pos hk, ← h.id]
  rfl

theorem Awaits.blank_rejected (h : Awaits q id l u) (hk : u.kind = .blankUpdate) :
    q.updateEnded u.tag id .rejected = (q.delLabel id).post .labelBlankFailed id (twoParts 2 l.attempts) := by
  rw [State.updateEnded_eq q u.tag h.label h.update rfl, if_pos hk, ← h.id]
  rfl

theorem Awaits.blank_failed (h : Awaits q id l u) (hk : u.kind = .blankUpdate) (hm : q.labels.maxAttempts ≤ l.attempts + 1) :
    q.updateEnded u.tag id .noAnswer = (q.delLabel id).post .labelBlankFailed id (twoParts 3 (l.attempts + 1)) := by
  rw [State.updateEnded_eq q u.tag h.label h.update rfl, if_pos hk, ← h.id]
  exact if_neg (show ¬ l.attempts + 1 < q.labels.maxAttempts by omega)

theorem Awaits.blank_again (h : Awaits q id l u) (hk : u.kind = .blankUpdate) (hm : l.attempts + 1 < q.labels.maxAttempts) :
    q.updateEnded u.tag id .noAnswer
      = (q.putLabel { l with inFlight := none, attempts := l.attempts + 1, blankDue := true }).joinSet
          { l with inFlight := none, attempts := l.attempts + 1, blankDue := true } := by
  rw [State.updateEnded_eq q u.tag h.label h.update rfl, if_pos hk]
  exact if_pos hm

/-- The content an update in flight would confirm. -/
abbrev InFlightUpdate.content (u : InFlightUpdate) : Confirmed :=
  { version := u.version, template := u.template, textRevision := u.textRevision }

/-- A label that has become UNBINDING once its update has ended (R99). -/
abbrev Label.endedUnbound (l : Label) (u : InFlightUpdate) (o : UpdateOutcome) (now : Nat) : Label :=
  { l with
    lastHeard := if o = .shown ∨ o = .rejected then now else l.lastHeard
    confirmed := if o = .shown then some u.content else l.confirmed
    inFlight := none, attempts := 0, blankDue := true }

theorem Awaits.unbound (h : Awaits q id l u) (hk : u.kind ≠ .blankUpdate) (hp : l.phase = .unbinding) (o : UpdateOutcome) :
    q.updateEnded u.tag id o = (q.putLabel (l.endedUnbound u o q.now)).joinSet (l.endedUnbound u o q.now) := by
  rw [State.updateEnded_eq q u.tag h.label h.update rfl, if_neg hk, if_pos hp]
  cases o <;> rfl

section
variable (h : Awaits q id l u) (hk : u.kind ≠ .blankUpdate) (hp : l.phase = .sent)
include h hk hp

theorem Awaits.bound (o : UpdateOutcome) : q.updateEnded u.tag id o = match o with
    | .shown => q.shownBound { l with lastHeard := q.now } u
    | .noAnswer => q.noAnswerBound l
    | .rejected => q.toStale { l with lastHeard := q.now, inFlight := none, again := false } .rejected
    | .returned => q.queue { l with inFlight := none, again := false } := by
  refine (State.updateEnded_eq q u.tag h.label h.update rfl).trans ?_
  refine ((if_neg hk).trans (if_neg (by rw [hp]; decide))).trans ?_
  cases o <;> rfl

/-- The label QUEUED again after an unanswered attempt (R96). -/
theorem Awaits.unanswered (hm : l.attempts + 1 < q.labels.maxAttempts) : q.updateEnded u.tag id .noAnswer
    = (q.putLabel { l with inFlight := none, again := false, attempts := l.attempts + 1, phase := .queued }).joinSet
        { l with inFlight := none, again := false, attempts := l.attempts + 1, phase := .queued } := by
  rw [h.bound hk hp]
  exact if_pos hm

theorem Awaits.shown : q.updateEnded u.tag id .shown = q.shownBound { l with lastHeard := q.now } u := h.bound hk hp .shown

theorem Awaits.rejected : q.updateEnded u.tag id .rejected
    = q.toStale { l with lastHeard := q.now, inFlight := none, again := false } .rejected := h.bound hk hp .rejected

theorem Awaits.unanswered_last (hm : q.labels.maxAttempts ≤ l.attempts + 1) : q.updateEnded u.tag id .noAnswer
    = q.toStale { l with inFlight := none, again := false, attempts := l.attempts + 1 } .noAnswer := by
  rw [h.bound hk hp]
  exact if_neg (show ¬ l.attempts + 1 < q.labels.maxAttempts by omega)

end

/-! ### What the run leaves -/

section
variable (h : Ends s q n c rest)
include h

theorem Ends.price : q.price = s.price := (congrArg State.price h.frame :)
theorem Ends.labels : q.labels = s.labels := (congrArg State.labels h.frame :)
theorem Ends.net : q.net = s.net := (congrArg State.net h.frame :)
theorem Ends.requests : q.requests = s.requests := (congrArg State.requests h.frame :)
theorem Ends.now : q.now = s.now := (congrArg (fun x : State => x.clock.count) h.frame :)
theorem Ends.store : q.store = s.store := (congrArg State.store h.frame :)
theorem Ends.label (x : Nat) : q.label x = s.label x := by unfold State.label; rw [h.labels]
theorem Ends.item (x : Nat) : q.item x = s.item x := by unfold State.item; rw [h.price]

theorem Ends.sameLog : SameLog s q :=
  (Writes.of_eq (own := labelCountBytes) h.store h.requests (congrArg State.clock h.frame :)).sameLog

theorem Ends.awaits (hl : s.label id = some l) (hid : l.id = id) (hu : l.inFlight = some u) : Awaits q id l u :=
  ⟨(h.label id).trans hl, hid, hu⟩

/-- The label has joined the station's set, where no credit is left. -/
theorem Ends.queues (ho : OnlyLabels q v) (hv : ∀ x, v.label x = if x = m.id then some m else q.label x)
    (hset : v.labels.homeless = q.labels.homeless) (hh : m.home = some n) (hc : c.credit ≤ c.costInFlight) {up : Update}
    (hpick : v.pick m = some up) :
    ∃ t, ((v.joinSet m).callArbiter n).settle = t ∧ t.label m.id = some m
      ∧ t.station n = some (BaseStation.calmed [n] { c with ready := [m.id] }) ∧ (∀ y, y ≠ m.id → t.label y = s.label y)
      ∧ t.link.inbox = rest ∧ t.labels.homeless = s.labels.homeless ∧ t.price = s.price ∧ t.net = s.net
      ∧ t.requests = s.requests := by
  obtain ⟨K, h1, h2, h3⟩ := h.waits ho.link hh hc ((hv m.id).trans (if_pos rfl)) hpick
  refine ⟨_, h1, (hv m.id).trans (if_pos rfl), h2, fun y hy => ((hv y).trans (if_neg hy)).trans (h.label y), h3, ?_, ?_, ?_, ?_⟩
  · exact hset.trans (by rw [h.labels])
  · exact ho.price.trans h.price
  · exact ho.net.trans h.net
  · exact (congrArg State.requests ho.frame :).trans h.requests

end

theorem State.putLabel_homeless (s : State) (l : Label) : (s.putLabel l).labels.homeless = s.labels.homeless := by
  unfold State.putLabel
  rw [State.setDirectory_labels]

/-- The same for a label whose record is simply stored. -/
theorem Ends.queues_put (h : Ends s q n c rest) (hh : m.home = some n) (hc : c.credit ≤ c.costInFlight) {up : Update}
    (hpick : (q.putLabel m).pick m = some up) :
    ∃ t, (((q.putLabel m).joinSet m).callArbiter n).settle = t ∧ t.label m.id = some m
      ∧ t.station n = some (BaseStation.calmed [n] { c with ready := [m.id] }) ∧ (∀ y, y ≠ m.id → t.label y = s.label y)
      ∧ t.link.inbox = rest ∧ t.labels.homeless = s.labels.homeless ∧ t.price = s.price ∧ t.net = s.net
      ∧ t.requests = s.requests :=
  h.queues (.putLabel q m) (State.label_putLabel q m) (State.putLabel_homeless q m) hh hc hpick

/-! ### STALE (R96, R97) -/

/-- A label that leaves its set leaves a station with an empty ready set as it is. -/
theorem State.leaveSet_quiet (hd : q.StationsDistinct) (hst : q.station n = some c) (hr : c.ready = []) (m : Label) :
    ∃ K hs, q.leaveSet m = (q.setLink K).setLabels { q.labels with homeless := hs } ∧ (q.setLink K).station n = some c
      ∧ K.table.map BaseStation.id = q.link.table.map BaseStation.id ∧ K.due = q.link.due ∧ K.inbox = q.link.inbox := by
  unfold State.leaveSet
  split
  · exact ⟨q.link, _, rfl, hst, rfl, rfl, rfl⟩
  · rename_i home _
    split
    · exact ⟨q.link, q.labels.homeless, rfl, hst, rfl, rfl, rfl⟩
    · rename_i x hx
      refine ⟨(q.putStation { x with ready := setDrop x.ready m.id }).link, q.labels.homeless, rfl, ?_,
        State.ids_putStation .., rfl, rfl⟩
      show (q.putStation { x with ready := setDrop x.ready m.id }).station n = _
      by_cases hn : n = x.id
      · subst hn
        obtain ⟨hm, -⟩ := State.station_some hx
        obtain ⟨hmc, hid⟩ := State.station_some hst
        obtain rfl := hd.eq_of_id hm hmc hid.symm
        have hsame : { x with ready := setDrop x.ready m.id } = x := by
          rw [hr]
          show { x with ready := [] } = x
          rw [← hr]
        rw [hsame, State.putStation_self hd hx]
        exact hst
      · exact (State.station_putStation_other (x := { x with ready := setDrop x.ready m.id }) hn).trans hst

theorem SameLog.setLink (h : SameLog s t) (k : StationLink) : SameLog s (t.setLink k) where
  __ := h

/-- A bound label becomes STALE: its record, its item's count and the notice. -/
theorem Ends.stale (h : Ends s q n c rest) (hw : s.store.wf) (ha : m.article = some a) (hart : i.article = a)
    (hi : s.item a = some i) (hid : m.id ∈ i.labels) (r : StaleReason) :
    ∃ t, ((q.toStale m r).callArbiter n).settle = t ∧ t.link.inbox = rest ∧ t.station n = some (c.calmed [n])
      ∧ t.label m.id = some { m with phase := .stale, staleReason := r }
      ∧ t.item a = some { i with staleCount := i.staleCount + 1 }
      ∧ Posted s t .labelStale m.id (twoParts r.code m.attempts) := by
  obtain ⟨K, hs, hleave, h1, h2, h3, h4⟩ := State.leaveSet_quiet h.distinct h.station h.ready m
  let x := ((q.setLink K).setLabels { q.labels with homeless := hs }).putLabel { m with phase := .stale, staleReason := r }
  have hitem : (x.post .labelStale m.id (twoParts r.code m.attempts)).item a = some i := by
    rw [State.item_post, State.item_putLabel]
    exact (h.item a).trans hi
  have hstale : q.toStale m r = (x.post .labelStale m.id (twoParts r.code m.attempts)).putItem
      { i with staleCount := i.staleCount + 1 } := by
    rw [State.toStale_of_bound q ha, hleave]
    show (x.post .labelStale m.id (twoParts r.code m.attempts)).staleReport a m.id true = _
    unfold State.staleReport
    rw [hitem]
    exact if_pos hid
  have hlink : (q.toStale m r).link = K := by
    rw [hstale]
    show (x.post .labelStale m.id (twoParts r.code m.attempts)).link = K
    rw [State.post_link, State.putLabel_link]
    rfl
  obtain ⟨K', h5, h6, h7⟩ := h.quiet (v := q.toStale m r)
    (by
      unfold State.station at h1 ⊢
      rw [hlink]
      exact h1)
    (by rw [hlink]; exact h2) (by rw [hlink]; exact h3) (by rw [hlink]; exact h4)
  refine ⟨_, h5, h7, h6, ?_, ?_, ?_⟩
  · show (q.toStale m r).label m.id = _
    rw [hstale]
    show (x.post .labelStale m.id (twoParts r.code m.attempts)).label m.id = _
    rw [State.label_post, State.label_putLabel]
    exact if_pos rfl
  · show (q.toStale m r).item a = _
    rw [hstale, State.item_putItem]
    exact if_pos hart.symm
  · have hx : Writes q x labelCountBytes := Writes.trans (t := (q.setLink K).setLabels { q.labels with homeless := hs })
      (.of_eq rfl rfl rfl) (OnlyLabels.putLabel _ _).writes
    refine (Posted.post (s := x) .labelStale m.id (twoParts r.code m.attempts) (hx.wf (h.store ▸ hw))).of_sameLog
      (h.sameLog.trans hx.sameLog) ?_
    rw [hstale]
    exact (((OnlyItems.putItem _ _).writes _).sameLog).setLink K'

end Sys2Proof.Machine
end

section
/-! PROOFS. SHOWN (R95, R17-R19), the BLANK (R100), the two commands that end an update (R117, R118), and O44. -/

namespace Sys2Proof.Machine

variable {s t q v R : State} {a id n : Nat} {i j : Item} {l m : Label} {b c : BaseStation} {u : InFlightUpdate}
  {rest : List LabelFrame} {o : UpdateOutcome} {w : Version}

/-! ### Confirmation reports (R17-R19) -/

theorem State.confirmationReport_settled (hi : q.item a = some i) (hp : i.pending = none) (x y : Nat) (e : Option Nat) :
    q.confirmationReport a x y e = q := by
  unfold State.confirmationReport
  rw [hi]
  dsimp only
  split
  · rw [hp]
  · rfl

theorem State.confirmationReport_lowers (hi : q.item a = some i) (hp : i.pending = some w) (hid : id ∈ i.labels)
    {e : Option Nat} (he : e ≠ some w.number) : q.confirmationReport a id w.number e = q.lowerOutstanding i := by
  unfold State.confirmationReport
  rw [hi]
  dsimp only
  rw [if_pos hid, hp]
  exact if_pos ⟨rfl, he⟩

theorem State.lowerOutstanding_more (q : State) (h : 1 < i.outstanding) :
    q.lowerOutstanding i = q.putItem { i with outstanding := i.outstanding - 1 } := by
  unfold State.lowerOutstanding
  exact if_neg (show ¬ i.outstanding - 1 = 0 by omega)

theorem State.lowerOutstanding_last (q : State) (h : i.outstanding = 1) (hp : i.pending = some w) (hw : i.waiting = none) :
    q.lowerOutstanding i = (q.putItem (i.switchedTo w)).post .campaignDone i.article w.number := by
  unfold State.lowerOutstanding
  dsimp only
  rw [h]
  refine (if_pos rfl).trans ?_
  exact State.switchItem_done q { i with outstanding := 0 } hp (fun x hx => by rw [show i.waiting = some x from hx] at hw; exact nomatch hw)

/-! ### SHOWN -/

/-- The label IDLE with what it shows confirmed (R95). -/
abbrev Label.shownIdle (m : Label) (u : InFlightUpdate) : Label := { m.shown u with again := false, phase := .idle }

theorem State.reportShown_of_bound (q : State) (ha : m.article = some a) : q.reportShown m u
    = (q.putLabel (m.shown u)).confirmationReport a m.id u.version (m.confirmed.map Confirmed.version) := by
  unfold State.reportShown
  simp only [ha]

/-- SHOWN, once the report has left a state whose item is `j`: IDLE at the target, else queued again (R95). -/
theorem State.shownBound_of_report (hR : q.reportShown m u = R) (hl : R.label m.id = some (m.shown u))
    (ha : m.article = some a) (hj : R.item a = some j) (hagain : m.again = false ∨ u.content ≠ j.target m.template) :
    q.shownBound m u = if u.content = j.target m.template then R.putLabel (m.shownIdle u)
      else R.queue { m.shown u with again := false } := by
  have hshows : R.showsTarget (m.shown u) = decide (u.content = j.target m.template) := by
    unfold State.showsTarget
    rw [show (m.shown u).article.bind R.item = some j by rw [show (m.shown u).article = some a from ha]; exact hj]
    show decide (some u.content = some (j.target m.template)) = _
    simp
  rw [State.shownBound_eq, hR, hl]
  dsimp only
  rw [hshows]
  by_cases ht : u.content = j.target m.template
  · have hfalse : (m.shown u).again = false := hagain.resolve_right (fun h => h ht)
    rw [if_pos ht, if_neg (by simp [hfalse, ht])]
  · rw [if_neg ht, if_pos (by simp [ht])]

theorem Ends.item_putLabel (h : Ends s q n c rest) (hi : s.item a = some i) (x : Label) : (q.putLabel x).item a = some i :=
  (State.item_putLabel q x a).trans ((h.item a).trans hi)

section
variable (h : Ends s q n c rest) (ha : m.article = some a) (hi : s.item a = some i) (hart : i.article = a)
include h ha hi

/-- SHOWN at the target of an item that is SETTLED. -/
theorem Ends.shown_settled (hp : i.pending = none) (hagain : m.again = false) (ht : u.content = i.target m.template) :
    ∃ t, ((q.shownBound m u).callArbiter n).settle = t ∧ t.label m.id = some (m.shownIdle u)
      ∧ t.station n = some (c.calmed [n]) ∧ t.link.inbox = rest ∧ (∀ x, x ≠ m.id → t.label x = s.label x)
      ∧ ((t.withLogOf s).setLink s.link).setLabels s.labels = s := by
  have hR : q.reportShown m u = q.putLabel (m.shown u) := by
    rw [State.reportShown_of_bound q ha, State.confirmationReport_settled (h.item_putLabel hi _) hp]
  have hv : q.shownBound m u = (q.putLabel (m.shown u)).putLabel (m.shownIdle u) := by
    rw [State.shownBound_of_report hR ((State.label_putLabel ..).trans (if_pos rfl)) ha (h.item_putLabel hi _) (.inl hagain),
      if_pos ht]
  have ho : OnlyLabels q (q.shownBound m u) := by
    rw [hv]
    exact (OnlyLabels.putLabel q _).trans (.putLabel _ _)
  have hlabel : ∀ x, (q.shownBound m u).label x = if x = m.id then some (m.shownIdle u) else q.label x := by
    intro x
    rw [hv, State.label_putLabel]
    by_cases hx : x = m.id
    · rw [if_pos hx, if_pos (show x = (m.shownIdle u).id from hx)]
    · rw [if_neg hx, if_neg (show ¬ x = (m.shownIdle u).id from hx), State.label_putLabel, if_neg (show ¬ x = (m.shown u).id from hx)]
  obtain ⟨K, h1, h2, h3⟩ := h.quiet_of_link ho.link
  refine ⟨_, h1, (hlabel m.id).trans (if_pos rfl), h2, h3, fun x hx => ((hlabel x).trans (if_neg hx)).trans (h.label x), ?_⟩
  have hframe : ((q.shownBound m u).withLogOf q).setLabels q.labels = q := ho.withLog rfl
  calc ((((q.shownBound m u).setLink K).withLogOf s).setLink s.link).setLabels s.labels
      = ((((q.shownBound m u).withLogOf q).setLabels q.labels).withLogOf s).setLink s.link := by rw [h.labels]; rfl
    _ = (q.withLogOf s).setLink s.link := by rw [hframe]
    _ = (q.setLink s.link).withLogOf s := rfl
    _ = s := by rw [h.frame]; rfl

/-- SHOWN short of the target of an item that is SETTLED: the label is queued again. -/
theorem Ends.shown_again (hp : i.pending = none) (ht : u.content ≠ i.target m.template) (hh : m.home = some n)
    (hc : c.credit ≤ c.costInFlight) :
    ∃ t, ((q.shownBound m u).callArbiter n).settle = t
      ∧ t.label m.id = some { m.shown u with again := false, phase := .queued }
      ∧ t.station n = some (BaseStation.calmed [n] { c with ready := [m.id] }) ∧ (∀ y, y ≠ m.id → t.label y = s.label y)
      ∧ t.link.inbox = rest ∧ t.labels.homeless = s.labels.homeless ∧ t.price = s.price ∧ t.net = s.net
      ∧ t.requests = s.requests := by
  have hR : q.reportShown m u = q.putLabel (m.shown u) := by
    rw [State.reportShown_of_bound q ha, State.confirmationReport_settled (h.item_putLabel hi _) hp]
  have hv : q.shownBound m u = ((q.putLabel (m.shown u)).putLabel { m.shown u with again := false, phase := .queued }).joinSet
      { m.shown u with again := false, phase := .queued } := by
    rw [State.shownBound_of_report hR ((State.label_putLabel ..).trans (if_pos rfl)) ha (h.item_putLabel hi _) (.inr ht),
      if_neg ht]
    rfl
  rw [hv]
  refine h.queues (m := { m.shown u with again := false, phase := .queued })
    (up := buildUpdate { m.shown u with again := false, phase := .queued } _ i)
    ((OnlyLabels.putLabel q (m.shown u)).trans (.putLabel _ _)) (fun x => ?_) ?_ hh hc
    (State.pick_of_queued rfl ha ((State.item_putLabel ..).trans (h.item_putLabel hi _))
      (fun he => ht (Option.some.inj he)))
  · rw [State.label_putLabel]
    split
    · rfl
    · rename_i hx
      rw [State.label_putLabel, if_neg (show ¬ x = (m.shown u).id from hx)]
  · rw [State.putLabel_homeless, State.putLabel_homeless]

variable (hp : i.pending = some w) (hid : m.id ∈ i.labels) (he : m.confirmed.map Confirmed.version ≠ some w.number)
  (hagain : m.again = false) (ht : u.content = i.target m.template)
include hp hid he

theorem Ends.reportShown_lowers (hver : u.version = w.number) :
    q.reportShown m u = (q.putLabel (m.shown u)).lowerOutstanding i := by
  rw [State.reportShown_of_bound q ha, hver, State.confirmationReport_lowers (h.item_putLabel hi _) hp hid he]

include hart hagain ht

/-- The last SHOWN of a campaign switches the item. -/
theorem Ends.shown_last (hw : s.store.wf) (hone : i.outstanding = 1) (hwait : i.waiting = none) :
    ∃ t, ((q.shownBound m u).callArbiter n).settle = t ∧ t.label m.id = some (m.shownIdle u)
      ∧ t.station n = some (c.calmed [n]) ∧ t.link.inbox = rest ∧ t.item a = some (i.switchedTo w)
      ∧ Posted s t .campaignDone a w.number := by
  have hfollowed : i.followed = w := by unfold Item.followed; rw [hp]; rfl
  have hver : u.version = w.number := by
    have := congrArg Confirmed.version ht
    rwa [show (i.target m.template).version = i.followed.number from rfl, hfollowed] at this
  let x := q.putLabel (m.shown u)
  have hR : q.reportShown m u = (x.putItem (i.switchedTo w)).post .campaignDone i.article w.number := by
    rw [h.reportShown_lowers ha hi hp hid he hver, State.lowerOutstanding_last _ hone hp hwait]
  have hitem : ((x.putItem (i.switchedTo w)).post .campaignDone i.article w.number).item a = some (i.switchedTo w) := by
    rw [State.item_post, State.item_putItem]
    exact if_pos hart.symm
  have hlabel : ((x.putItem (i.switchedTo w)).post .campaignDone i.article w.number).label m.id = some (m.shown u) := by
    rw [State.label_post]
    exact (State.label_putLabel ..).trans (if_pos rfl)
  have htarget : u.content = (i.switchedTo w).target m.template := by
    rw [ht]
    unfold Item.target
    rw [hfollowed]
    rfl
  have hv : q.shownBound m u
      = ((x.putItem (i.switchedTo w)).post .campaignDone i.article w.number).putLabel (m.shownIdle u) := by
    rw [State.shownBound_of_report hR hlabel ha hitem (.inl hagain), if_pos htarget]
  have hlink : (q.shownBound m u).link = q.link := by
    rw [hv, State.putLabel_link, State.post_link]
    exact State.putLabel_link ..
  obtain ⟨K, h1, h2, h3⟩ := h.quiet_of_link hlink
  refine ⟨_, h1, ?_, h2, h3, ?_, ?_⟩
  · show (q.shownBound m u).label m.id = _
    rw [hv, State.label_putLabel]
    exact if_pos rfl
  · show (q.shownBound m u).item a = _
    rw [hv, State.item_putLabel]
    exact hitem
  · have hx : Writes q (x.putItem (i.switchedTo w)) labelCountBytes :=
      (OnlyLabels.putLabel q _).writes.trans ((OnlyItems.putItem x _).writes _)
    have hpost := (Posted.post (s := x.putItem (i.switchedTo w)) .campaignDone i.article w.number
      (hx.wf (h.store ▸ hw))).of_sameLog (h.sameLog.trans hx.sameLog) (OnlyLabels.putLabel _ (m.shownIdle u)).writes.sameLog
    rw [← hv, hart] at hpost
    exact hpost

/-- A SHOWN that others of the campaign are still to follow. -/
theorem Ends.shown_more (hmore : 1 < i.outstanding) :
    ∃ t, ((q.shownBound m u).callArbiter n).settle = t ∧ t.label m.id = some (m.shownIdle u)
      ∧ t.station n = some (c.calmed [n]) ∧ t.link.inbox = rest
      ∧ t.item a = some { i with outstanding := i.outstanding - 1 } ∧ t.requests = s.requests := by
  have hfollowed : i.followed = w := by unfold Item.followed; rw [hp]; rfl
  have hver : u.version = w.number := by
    have := congrArg Confirmed.version ht
    rwa [show (i.target m.template).version = i.followed.number from rfl, hfollowed] at this
  let x := q.putLabel (m.shown u)
  have hR : q.reportShown m u = x.putItem { i with outstanding := i.outstanding - 1 } := by
    rw [h.reportShown_lowers ha hi hp hid he hver, State.lowerOutstanding_more _ hmore]
  have hitem : (x.putItem { i with outstanding := i.outstanding - 1 }).item a
      = some { i with outstanding := i.outstanding - 1 } := by
    rw [State.item_putItem]
    exact if_pos hart.symm
  have hv : q.shownBound m u = (x.putItem { i with outstanding := i.outstanding - 1 }).putLabel (m.shownIdle u) := by
    rw [State.shownBound_of_report hR ((State.label_putLabel ..).trans (if_pos rfl)) ha hitem (.inl hagain)]
    exact if_pos ht
  obtain ⟨K, h1, h2, h3⟩ := h.quiet_of_link (v := q.shownBound m u) (by
    rw [hv, State.putLabel_link]
    exact State.putLabel_link ..)
  refine ⟨_, h1, ?_, h2, h3, ?_, ?_⟩
  · show (q.shownBound m u).label m.id = _
    rw [hv, State.label_putLabel]
    exact if_pos rfl
  · show (q.shownBound m u).item a = _
    rw [hv, State.item_putLabel]
    exact hitem
  · show (q.shownBound m u).requests = _
    rw [hv]
    have h4 := (OnlyLabels.putLabel (x.putItem { i with outstanding := i.outstanding - 1 }) (m.shownIdle u)).frame
    have h5 := (OnlyLabels.putLabel q (m.shown u)).frame
    exact ((congrArg State.requests h4 :).trans (congrArg State.requests h5 :)).trans h.requests

end

/-! ### The BLANK (R100) -/

/-- The record of a label whose BLANK has ended for good is removed. -/
theorem Ends.removed (h : Ends s q n c rest) (hb : s.TablesBounded) (id : Nat) :
    ∃ t, ((q.delLabel id).callArbiter n).settle = t ∧ t.link.inbox = rest ∧ t.station n = some (c.calmed [n])
      ∧ t.label id = none ∧ ∀ x, x ≠ id → t.label x = s.label x := by
  have hlabel := State.label_delLabel_of_rising (s := q) (by rw [h.labels]; exact hb.rising) id
  obtain ⟨K, h1, h2, h3⟩ := h.quiet_of_link (OnlyLabels.delLabel q id).link
  exact ⟨_, h1, h3, h2, (hlabel id).trans (if_pos rfl), fun x hx => ((hlabel x).trans (if_neg hx)).trans (h.label x)⟩

/-- The same with a notice. -/
theorem Ends.failed (h : Ends s q n c rest) (hb : s.TablesBounded) (hw : s.store.wf) (id d : Nat) :
    ∃ t, (((q.delLabel id).post .labelBlankFailed id d).callArbiter n).settle = t ∧ t.link.inbox = rest
      ∧ t.station n = some (c.calmed [n]) ∧ t.label id = none ∧ Posted s t .labelBlankFailed id d := by
  have hlabel := State.label_delLabel_of_rising (s := q) (by rw [h.labels]; exact hb.rising) id
  have hdel := OnlyLabels.delLabel q id
  obtain ⟨K, h1, h2, h3⟩ := h.quiet_of_link (v := (q.delLabel id).post .labelBlankFailed id d)
    ((State.post_link ..).trans hdel.link)
  refine ⟨_, h1, h3, h2, ((State.label_post ..).trans (hlabel id)).trans (if_pos rfl), ?_⟩
  exact (Posted.post (s := q.delLabel id) .labelBlankFailed id d (hdel.writes.wf (h.store ▸ hw))).of_sameLog
    (h.sameLog.trans hdel.writes.sameLog) ((SameLog.refl _).setLink K)

/-! ### The two commands -/

theorem State.hearStation_none {f : LabelFrame} (h : ∀ b, s.station f.station = some b → b.phase = .lost ∨ b.address ≠ f.source) :
    s.hearStation f = none := by
  unfold State.hearStation
  cases hb : s.station f.station with
  | none => rfl
  | some b =>
    refine if_neg ?_
    rintro ⟨h1, h2⟩
    rcases h b hb with h | h
    · rw [h1] at h
      exact nomatch h
    · exact h h2

theorem State.hearStation_some {f : LabelFrame} (hst : s.station f.station = some b) (hp : b.phase = .active)
    (ha : b.address = f.source) : s.hearStation f
      = some (s.putStation { b with lastHeard := s.now, port := f.port }, { b with lastHeard := s.now, port := f.port }) := by
  unfold State.hearStation
  rw [hst]
  exact if_pos ⟨hp, ha⟩

/-- A result of a station that is heard, for no update in flight or for one of another label (R117). -/
theorem State.updateResult_only {f : LabelFrame} {tag : Nat} (hh : s.hearStation f = some (q, b))
    (hno : ∀ r, b.inFlight.find? (fun r : InFlightRecord => r.tag == tag) = some r → r.label ≠ id) :
    s.updateResult f tag id o = q := by
  unfold State.updateResult
  rw [hh]
  dsimp only
  cases hf : b.inFlight.find? (fun r : InFlightRecord => r.tag == tag) with
  | none => rfl
  | some r => exact if_neg (hno r hf)

theorem State.updateResult_ends {f : LabelFrame} {tag : Nat} {r : InFlightRecord} (hh : s.hearStation f = some (q, b))
    (hf : b.inFlight.find? (fun r => r.tag == tag) = some r) (hr : r.label = id) :
    s.updateResult f tag id o = q.endUpdate b r o := by
  unfold State.updateResult
  rw [hh]
  dsimp only
  rw [hf]
  exact if_pos hr

section
variable {f : LabelFrame} {tag : Nat} (hs : s.Sound) (hin : s.link.inbox = f :: rest) (hm : f.message = .result tag id o)
include hs hin hm

theorem exec_updateResult : exec .updateResult s = .next ((s.dropLabelFrame rest).updateResult f tag id o).settle := by
  refine powered_next hs.1 ?_
  rw [hin]
  dsimp only
  rw [hm]

theorem exec_updateResult_unheard (hn : ∀ b, s.station f.station = some b → b.phase = .lost ∨ b.address ≠ f.source) :
    exec .updateResult s = .next (s.setLink { s.link with inbox := rest }) := by
  rw [exec_updateResult hs hin hm]
  unfold State.updateResult
  rw [State.hearStation_none (s := s.dropLabelFrame rest) hn]
  exact congrArg Host.Outcome.next (State.settle_of_none _ hs.2.2)

variable (hst : s.station f.station = some b) (hp : b.phase = .active) (haddr : b.address = f.source)
include hst hp haddr

/-- A result for no update in flight only tells that the station is there. -/
theorem exec_updateResult_only (hno : ∀ r, b.inFlight.find? (fun r : InFlightRecord => r.tag == tag) = some r → r.label ≠ id) :
    ∃ t, exec .updateResult s = .next t
      ∧ t.station f.station = some { b with lastHeard := s.now, port := f.port } ∧ t.link.inbox = rest ∧ t.setLink s.link = s := by
  refine ⟨(s.dropLabelFrame rest).putStation { b with lastHeard := s.now, port := f.port }, ?_,
    State.station_putStation_same (s := s.dropLabelFrame rest) hst (State.station_some hst).2, rfl, rfl⟩
  rw [exec_updateResult hs hin hm,
    State.updateResult_only (State.hearStation_some (s := s.dropLabelFrame rest) hst hp haddr) hno]
  exact congrArg Host.Outcome.next (State.settle_of_none _ hs.2.2)

/-- A result for an update in flight ends it. -/
theorem exec_updateResult_ends (hb : s.TablesBounded) {r : InFlightRecord}
    (hf : b.inFlight.find? (fun r => r.tag == tag) = some r) (hr : r.label = id) (hready : b.ready = []) :
    ∃ q, Ends s q f.station { b with
        lastHeard := s.now, port := f.port, inFlight := b.inFlight.filter (fun x => x.tag != tag) } rest
      ∧ exec .updateResult s = .next ((q.updateEnded tag id o).callArbiter f.station).settle := by
  have hid := (State.station_some hst).2
  have htag : r.tag = tag := by simpa using List.find?_some hf
  refine ⟨(s.dropLabelFrame rest).putStation { b with
    lastHeard := s.now, port := f.port, inFlight := b.inFlight.filter (fun x => x.tag != tag) }, ?_, ?_⟩
  · have hends := Ends.of_putStation (s := s.dropLabelFrame rest) (c := { b with
      lastHeard := s.now, port := f.port, inFlight := b.inFlight.filter (fun x => x.tag != tag) }) hb.stations hs.2.2 hst rfl hready
    exact ⟨rfl, hends.distinct, hends.station, hready, hends.due, rfl⟩
  · rw [exec_updateResult hs hin hm,
      State.updateResult_ends (State.hearStation_some (s := s.dropLabelFrame rest) hst hp haddr) hf hr]
    have hput := State.putStation_putStation (s.dropLabelFrame rest) { b with lastHeard := s.now, port := f.port } { b with
      lastHeard := s.now, port := f.port, inFlight := b.inFlight.filter (fun x => x.tag != tag) } rfl
    unfold State.endUpdate
    rw [htag, hr, ← hput, ← hid]
    rfl

end

/-- A deadline reached ends its update NO_ANSWER (R118). -/
theorem exec_updateDeadline_ends (hs : s.Sound) (hb : s.TablesBounded) {tag : Nat} {r : InFlightRecord}
    (hst : s.station n = some b) (hf : b.inFlight.find? (fun r => r.tag == tag) = some r) (hd : r.deadline ≤ s.now)
    (hready : b.ready = []) :
    ∃ q, Ends s q n { b with inFlight := b.inFlight.filter (fun x => x.tag != tag) } s.link.inbox
      ∧ exec (.updateDeadline n tag) s = .next ((q.updateEnded tag r.label .noAnswer).callArbiter n).settle := by
  have hid := (State.station_some hst).2
  have htag : r.tag = tag := by simpa using List.find?_some hf
  refine ⟨s.putStation { b with inFlight := b.inFlight.filter (fun x => x.tag != tag) },
    .of_putStation hb.stations hs.2.2 hst rfl hready, powered_next hs.1 ?_⟩
  unfold State.updateDeadline
  rw [hst]
  dsimp only
  rw [hf]
  dsimp only
  rw [if_pos hd]
  unfold State.endUpdate
  rw [htag, hid]

theorem exec_updateDeadline_early (hs : s.Sound) {tag : Nat} (h : ∀ b r, s.station n = some b →
    b.inFlight.find? (fun r => r.tag == tag) = some r → s.now < r.deadline) : exec (.updateDeadline n tag) s = .next s := by
  have hsame : s.updateDeadline n tag = s := by
    unfold State.updateDeadline
    cases hst : s.station n with
    | none => rfl
    | some b =>
      dsimp only
      cases hf : b.inFlight.find? (fun r => r.tag == tag) with
      | none => rfl
      | some r =>
        have := h b r hst hf
        exact if_neg (by omega)
  refine powered_next hs.1 ?_
  rw [hsame, State.settle_of_none s hs.2.2]

theorem State.pick_of_unbinding (s : State) (hp : m.phase = .unbinding) (hb : m.blankDue = true) (hf : m.inFlight = none) :
    s.pick m = some blankUpdateOf := by
  unfold State.pick
  rw [hp]
  dsimp only
  rw [hb, hf]
  rfl

/-- The label QUEUED again after an unanswered attempt, its station without credit (R96). -/
theorem Ends.unanswered (h : Ends s q n c rest) (haw : Awaits q id l u) (hk : u.kind ≠ .blankUpdate) (hp : l.phase = .sent)
    (ha : l.article = some a) (hi : s.item a = some i) (hm : l.attempts + 1 < s.labels.maxAttempts)
    (hc : l.confirmed ≠ some (i.target l.template)) (hh : l.home = some n) (hcredit : c.credit ≤ c.costInFlight) :
    ∃ t, ((q.updateEnded u.tag id .noAnswer).callArbiter n).settle = t
      ∧ t.label l.id = some { l with inFlight := none, again := false, attempts := l.attempts + 1, phase := .queued }
      ∧ t.station n = some (BaseStation.calmed [n] { c with ready := [l.id] }) ∧ (∀ y, y ≠ l.id → t.label y = s.label y)
      ∧ t.link.inbox = rest ∧ t.labels.homeless = s.labels.homeless ∧ t.price = s.price ∧ t.net = s.net
      ∧ t.requests = s.requests := by
  rw [haw.unanswered hk hp (by rw [h.labels]; exact hm)]
  exact h.queues_put (m := { l with inFlight := none, again := false, attempts := l.attempts + 1, phase := .queued }) hh hcredit
    (State.pick_of_queued rfl ha (h.item_putLabel hi _) hc)

/-- Settles O44, outcome by outcome. -/
theorem updateEnds : Obligations.UpdateEnds := by
  unfold Obligations.UpdateEnds
  intro confirmedBy
  refine ⟨fun s f rest tag id o hs hb hin hm => ⟨exec_updateResult_unheard hs hin hm, fun b hst hp haddr _ => ?_⟩,
    fun n tag s hs hb => ⟨exec_updateDeadline_early hs, fun b r l u a i hst _ hf hd hl hu htag hk hphase hready ha hi => ?_⟩⟩
  · intro heard
    refine ⟨fun hno => ?_, fun r hf hr => ?_, fun r l u hf hr hl hu htag hready => ?_⟩
    · refine exec_updateResult_only hs hin hm hst hp haddr (fun r hf => ?_)
      have hmem := List.mem_of_find?_eq_some hf
      exact absurd (by simpa using List.find?_some hf) (hno r hmem)
    · obtain ⟨t, h1, h2, -, h3⟩ := exec_updateResult_only hs hin hm hst hp haddr (fun r' hf' => by
        rw [hf] at hf'
        cases hf'
        exact hr)
      exact ⟨t, h1, h2, h3⟩
    intro ended
    obtain ⟨q, hq, hexec⟩ := exec_updateResult_ends hs hin hm hst hp haddr hb hf hr hready
    have hlid : l.id = id := hb.labelId hl
    have haw := hq.awaits hl hlid hu
    have hcalm := BaseStation.calmed_of_active hq.stationId (c := { heard with
      inFlight := b.inFlight.filter (fun x => x.tag != tag) }) hp
    have hmax : q.labels.maxAttempts = s.labels.maxAttempts := by rw [hq.labels]
    have hend : ∀ {t : State}, t.link.inbox = rest → t.station f.station = some (BaseStation.calmed [f.station] { heard with
        inFlight := b.inFlight.filter (fun x => x.tag != tag) }) → ended t := fun h1 h2 => ⟨h1, by rw [h2, hcalm]⟩
    subst hlid htag
    refine ⟨fun a i hk hphase hagain ha hi hid htarget ho => ?_, fun a i hk hphase ha hi hid => ⟨fun ho => ?_, fun ho hlast => ?_⟩,
      fun hk ho => ?_, fun hk ho => ?_, fun hk ho hlast => ?_, ?_⟩
    · subst ho
      rw [haw.shown hk hphase] at hexec
      intro shown
      have hshown : Label.shownIdle { l with lastHeard := q.now } u = shown := by
        show ({ l with
          lastHeard := q.now, confirmed := some (confirmedBy u), attempts := 0, inFlight := none, again := false
          phase := .idle } : Label) = shown
        rw [hq.now, ← hagain]
      have hart := hb.article hi
      refine ⟨fun hpending => ?_, fun v hpending hconf hwait => ⟨fun hone => ?_, fun hmore => ?_⟩⟩
      · obtain ⟨t, h1, h2, h3, h4, h5, h6⟩ := hq.shown_settled (m := { l with lastHeard := q.now }) ha hi hpending hagain htarget
        rw [h1] at hexec
        exact ⟨t, hexec, h2.trans (congrArg some hshown), hend h4 h3, h5, h6⟩
      · obtain ⟨t, h1, h2, h3, h4, h5, h6⟩ := hq.shown_last (m := { l with lastHeard := q.now }) ha hi hart hpending hid hconf
          hagain htarget hs.2.1.1 hone hwait
        rw [h1] at hexec
        exact ⟨t, hexec, h2.trans (congrArg some hshown), hend h4 h3, h5, h6⟩
      · obtain ⟨t, h1, h2, h3, h4, h5, h6⟩ := hq.shown_more (m := { l with lastHeard := q.now }) ha hi hart hpending hid hconf
          hagain htarget hmore
        rw [h1] at hexec
        exact ⟨t, hexec, h2.trans (congrArg some hshown), hend h4 h3, h5, h6⟩
    · subst ho
      rw [haw.rejected hk hphase, hq.now] at hexec
      obtain ⟨t, h1, h2, h3, h4, h5, h6⟩ := hq.stale (m := { l with lastHeard := s.now, inFlight := none, again := false })
        hs.2.1.1 ha (hb.article hi) hi hid .rejected
      rw [h1] at hexec
      exact ⟨t, hexec, hend h2 h3, h4, h5, h6⟩
    · subst ho
      rw [haw.unanswered_last hk hphase (by rw [hmax]; exact hlast)] at hexec
      obtain ⟨t, h1, h2, h3, h4, h5, h6⟩ := hq.stale (m := { l with
        inFlight := none, again := false, attempts := l.attempts + 1 }) hs.2.1.1 ha (hb.article hi) hi hid .noAnswer
      rw [h1] at hexec
      exact ⟨t, hexec, hend h2 h3, h4, h5, h6⟩
    · subst ho
      rw [haw.blank_shown hk] at hexec
      obtain ⟨t, h1, h2, h3, h4, h5⟩ := hq.removed hb l.id
      rw [h1] at hexec
      exact ⟨t, hexec, hend h2 h3, h4, h5⟩
    · subst ho
      rw [haw.blank_rejected hk] at hexec
      obtain ⟨t, h1, h2, h3, h4, h5⟩ := hq.failed hb hs.2.1.1 l.id (twoParts 2 l.attempts)
      rw [h1] at hexec
      exact ⟨t, hexec, hend h2 h3, h4, h5⟩
    · subst ho
      rw [haw.blank_failed hk (by rw [hmax]; exact hlast)] at hexec
      obtain ⟨t, h1, h2, h3, h4, h5⟩ := hq.failed hb hs.2.1.1 l.id (twoParts 3 (l.attempts + 1))
      rw [h1] at hexec
      exact ⟨t, hexec, hend h2 h3, h4, h5⟩
    · intro left queues hhome hcredit
      have hcalmed := BaseStation.calmed_of_active hq.stationId (c := { heard with inFlight := left, ready := [l.id] }) hp
      refine ⟨fun a i hk hphase ha hi => ⟨fun ho hless hc => ?_, fun ho hpending hne => ?_⟩, fun hk hphase => ?_,
        fun hk hphase ho hless => ?_⟩
      · subst ho
        obtain ⟨t, h1, h2, h3, h4⟩ := hq.unanswered haw hk hphase ha hi hless hc hhome hcredit
        rw [h1] at hexec
        exact ⟨t, hexec, h2, h3.trans (congrArg some hcalmed), h4⟩
      · subst ho
        rw [haw.shown hk hphase, hq.now] at hexec
        obtain ⟨t, h1, h2, h3, h4⟩ := hq.shown_again (m := { l with lastHeard := s.now }) ha hi hpending hne hhome hcredit
        rw [h1] at hexec
        exact ⟨t, hexec, h2, h3.trans (congrArg some hcalmed), h4⟩
      · rw [haw.unbound hk hphase, hq.now] at hexec
        obtain ⟨t, h1, h2, h3, h4⟩ := hq.queues_put (m := l.endedUnbound u o s.now) hhome hcredit
          (State.pick_of_unbinding _ hphase rfl rfl)
        rw [h1] at hexec
        exact ⟨t, hexec, h2, h3.trans (congrArg some hcalmed), h4⟩
      · subst ho
        rw [haw.blank_again hk (by rw [hmax]; exact hless)] at hexec
        obtain ⟨t, h1, h2, h3, h4⟩ := hq.queues_put (m := { l with
          inFlight := none, attempts := l.attempts + 1, blankDue := true }) hhome hcredit (State.pick_of_unbinding _ hphase rfl rfl)
        rw [h1] at hexec
        exact ⟨t, hexec, h2, h3.trans (congrArg some hcalmed), h4⟩
  · obtain ⟨q, hq, hexec⟩ := exec_updateDeadline_ends hs hb hst hf hd hready
    have hlid : l.id = r.label := hb.labelId hl
    have haw := hq.awaits hl hlid hu
    rw [← htag] at hexec
    rw [← hlid]
    refine ⟨fun hlast hid => ?_, ?_⟩
    · rw [haw.unanswered_last hk hphase (by rw [hq.labels]; exact hlast)] at hexec
      obtain ⟨t, h1, -, h3, h4, h5, h6⟩ := hq.stale (m := { l with
        inFlight := none, again := false, attempts := l.attempts + 1 }) hs.2.1.1 ha (hb.article hi) hi hid .noAnswer
      rw [h1, htag] at hexec
      exact ⟨t, hexec, h4, ⟨_, h3, BaseStation.calmed_inFlight ..⟩, h5, h6⟩
    · intro left hm hhome hc hactive hcredit
      obtain ⟨t, h1, h2, h3, h4, -, -, h5⟩ := hq.unanswered haw hk hphase ha hi hm hc hhome hcredit
      rw [h1, htag] at hexec
      have hcalmed := BaseStation.calmed_of_active hq.stationId (c := { b with inFlight := left, ready := [l.id] }) hactive
      exact ⟨t, hexec, h2, h3.trans (congrArg some hcalmed), h4, h5⟩

end Sys2Proof.Machine
end

section
/-! PROOFS. Chapter 2 on exact integers (R30-R39): what a multi-buy saves, the lower of two, the unit price, the promotion test
and the plausibility window: O24 and O25. -/

namespace Sys2Proof.Machine

/-! ### Line amounts (R30-R33) -/

/-- A quantity bought singly costs what its groups and its remainder cost singly. -/
theorem pieces_eq_groups (base q n : Nat) : base * q = q / n * (n * base) + q % n * base := by
  calc base * q = base * (n * (q / n) + q % n) := by rw [Nat.div_add_mod]
    _ = q / n * (n * base) + q % n * base := by ring

theorem lineAmount_single {v : Version} (h : v.promo = none) (q : Nat) : lineAmount .each v q = v.base * q := by
  simp [lineAmount, h]

theorem lineAmount_groups {v : Version} {p : Promotion} (h : v.promo = some p) (q : Nat) :
    lineAmount .each v q = q / p.n * p.t + q % p.n * v.base := by
  simp [lineAmount, h]

theorem promoValid_iff {k : SaleKind} {b : Nat} {p : Promotion} : promoValid k b p = true ↔
    k = .each ∧ 2 ≤ p.n ∧ p.n ≤ 99 ∧ 1 ≤ p.t ∧ p.t ≤ 9999999 ∧ p.t < p.n * b := by
  simp [promoValid, and_assoc]

/-- Each group of a valid promotion costs less than its pieces, so a line with a group costs less, and one without no more. -/
theorem lineAmount_groups_le {v : Version} {p : Promotion} (h : v.promo = some p) (hp : promoValid .each v.base p = true)
    (q : Nat) : lineAmount .each v q ≤ v.base * q ∧ (p.n ≤ q → lineAmount .each v q < v.base * q) := by
  obtain ⟨-, hn, -, -, -, ht⟩ := promoValid_iff.mp hp
  rw [lineAmount_groups h, pieces_eq_groups v.base q p.n]
  refine ⟨Nat.add_le_add_right (Nat.mul_le_mul_left _ ht.le) _, fun hq => Nat.add_lt_add_right ?_ _⟩
  exact Nat.mul_lt_mul_of_pos_left ht (Nat.div_pos hq (by omega))

theorem lineAmount_weighed (v : Version) (g : Nat) : 1000 * lineAmount .weighed v g ≤ v.base * g + 500
    ∧ v.base * g + 500 < 1000 * lineAmount .weighed v g + 1000 := by
  have h : lineAmount .weighed v g = (v.base * g + 500) / 1000 := by simp [lineAmount]
  omega

theorem validAmount_eq (k : SaleKind) (v : Version) (q : Nat) :
    validAmount k v q = if 99999999 < lineAmount k v q then none else some (lineAmount k v q) := by
  unfold validAmount overlimit
  by_cases h : 99999999 < lineAmount k v q
  · rw [if_pos h]; exact if_neg (by omega)
  · rw [if_neg h]; exact if_pos (by omega)

/-! ### The lower of two (R34) -/

/-- The rule of R34 over the valid amounts of the current and the pending version. -/
def lesser (cur pend : Option Nat) : Option (Nat × Basis) :=
  match cur, pend with
  | some a, some b => if a ≤ b then some (a, .current) else some (b, .pending)
  | some a, none => some (a, .current)
  | none, some b => some (b, .pending)
  | none, none => none

theorem lowerOfTwo_settled {i : Item} (h : i.pending = none) (q : Nat) :
    lowerOfTwo i q = (validAmount i.saleKind i.current q).map (fun a => (a, Basis.current)) := by
  simp [lowerOfTwo, h]

theorem lowerOfTwo_pending {i : Item} {v : Version} (h : i.pending = some v) (q : Nat) :
    lowerOfTwo i q = lesser (validAmount i.saleKind i.current q) (validAmount i.saleKind v q) := by
  simp only [lowerOfTwo, h]
  rfl

theorem lesser_eq_none {cur pend : Option Nat} : lesser cur pend = none ↔ cur = none ∧ pend = none := by
  cases cur with
  | none => cases pend <;> simp [lesser]
  | some a =>
    cases pend with
    | none => simp [lesser]
    | some b => simp only [lesser]; split <;> simp

theorem lesser_eq_some {cur pend : Option Nat} {a : Nat} {b : Basis} (h : lesser cur pend = some (a, b)) :
    (b = .current → cur = some a) ∧ (b = .pending → pend = some a)
      ∧ (∀ x, cur = some x → a ≤ x ∧ (a = x → b = .current)) ∧ ∀ x, pend = some x → a ≤ x := by
  cases cur with
  | none =>
    cases pend with
    | none => cases h
    | some y => cases h; simp
  | some x =>
    cases pend with
    | none => cases h; simp
    | some y =>
      simp only [lesser] at h
      split at h
      next hxy => cases h; simp [hxy]
      next hxy => cases h; simp; omega

/-- Settles O24: the cases of a line amount and of the lower of two. -/
theorem lineAmounts : Obligations.LineAmounts := by
  unfold Obligations.LineAmounts
  refine ⟨fun v q h => lineAmount_single h q, fun v p q h => ⟨lineAmount_groups h q, fun hp => lineAmount_groups_le h hp q⟩,
    lineAmount_weighed, validAmount_eq, fun i q => ⟨fun h => lowerOfTwo_settled h q, fun v h => ?_⟩⟩
  rw [lowerOfTwo_pending h]
  exact ⟨lesser_eq_none, fun a b hab => lesser_eq_some hab⟩

/-! ### The unit price (R36) -/

theorem unitPriceOf_weighed {i : Item} {b : Nat} (h : i.saleKind = .weighed) (hb : b ≤ 9999999) :
    unitPriceOf i b = (b, false) := by
  simp only [unitPriceOf, h]
  exact if_neg (by omega)

/-- Adding half the divisor before a division rounds half up. -/
theorem add_half_div_bounds (x : Nat) {p : Nat} (hp : 1 ≤ p) :
    2 * p * ((x + p / 2) / p) ≤ 2 * x + p ∧ 2 * x + p < 2 * p * ((x + p / 2) / p + 1) := by
  have hdiv := Nat.div_add_mod (x + p / 2) p
  have hmod := Nat.mod_lt (x + p / 2) hp
  generalize (x + p / 2) / p = u at hdiv ⊢
  rw [Nat.mul_add, Nat.mul_assoc]
  omega

theorem unitPriceOf_each {i : Item} (b : Nat) (h : i.saleKind = .each) : unitPriceOf i b =
    if 9999999 < (b * i.refQty + i.packQty / 2) / i.packQty then (9999999, true)
    else ((b * i.refQty + i.packQty / 2) / i.packQty, false) := by
  simp only [unitPriceOf, h]

/-! ### The plausibility window (R39) -/

theorem insideWindow_iff {e : PriceEngine} {old new : Nat} : insideWindow e old new = true ↔
    windowLow e.down old ≤ new ∧ new ≤ windowHigh e.up old := by
  simp [insideWindow]

theorem windowLow_le (down old : Nat) : windowLow down old ≤ old := by
  unfold windowLow
  have := Nat.mul_le_mul_left old (Nat.sub_le 100 down)
  omega

theorem windowHigh_bounds (up old : Nat) :
    old * (100 + up) ≤ 100 * windowHigh up old ∧ 100 * windowHigh up old < old * (100 + up) + 100 := by
  unfold windowHigh
  omega

theorem le_windowHigh (up old : Nat) : old ≤ windowHigh up old := by
  have := (windowHigh_bounds up old).1
  have := Nat.mul_le_mul_left old (Nat.le_add_right 100 up)
  omega

theorem windowHigh_zero_up (old : Nat) : windowHigh 0 old = old := by
  unfold windowHigh; omega

/-- Settles O25: the unit price by sale kind, the promotion test, and the window from its two bounds. -/
theorem unitPromoWindow : Obligations.UnitPromoWindow := by
  unfold Obligations.UnitPromoWindow
  refine ⟨fun i b h hb => unitPriceOf_weighed h hb, fun i b h hp => ?_, fun k b p => promoValid_iff,
    fun e old new _ => ⟨insideWindow_iff, windowHigh_bounds e.up old,
      insideWindow_iff.mpr ⟨windowLow_le .., le_windowHigh ..⟩, ?_, ?_, ?_⟩⟩
  · have hround := add_half_div_bounds (b * i.refQty) hp
    rw [← Nat.mul_assoc] at hround
    exact ⟨_, hround.1, hround.2, unitPriceOf_each b h⟩
  · rintro rfl
    simp [insideWindow_iff, windowLow, windowHigh]
  · intro hdown hle
    refine insideWindow_iff.mpr ⟨?_, hle.trans (le_windowHigh ..)⟩
    simp [windowLow, hdown]
  · intro hup hlt
    refine Bool.eq_false_iff.mpr fun hin => ?_
    have := (insideWindow_iff.mp hin).2
    rw [hup, windowHigh_zero_up] at this
    omega

end Sys2Proof.Machine
end

section
/-! PROOFS. SET_PLAUSIBILITY and SET_GUEST_POLICY (R40, R165), and the values of the units after a reset (R187): O18 and O5. -/

namespace Sys2Proof.Machine

/-! ### Clamping (R195) -/

theorem leNat_lt (bs : List Byte) : leNat bs < 256 ^ bs.length := by
  induction bs with
  | nil => simp [leNat]
  | cons b bs ih =>
    have hb : b.toNat < 256 := b.isLt
    simp only [leNat, List.length_cons, Nat.pow_succ]
    omega

theorem leField_lt (bs : List Byte) (o n : Nat) : leField bs o n < 256 ^ n :=
  (leNat_lt _).trans_le (Nat.pow_le_pow_right (by decide) (List.length_take_le ..))

theorem clampFlag_zero (hi v : Nat) : clampFlag 0 hi v = (min hi v, decide (hi < v)) := by
  unfold clampFlag clampTo
  by_cases h : hi < v
  · simp [h, h.ne, h.le]
  · simp [h, Nat.not_lt.mp h]

theorem clampFlag_mem {lo hi : Nat} (v : Nat) (h : lo ≤ hi) :
    clampFlag lo hi v = (max lo (min hi v), decide (v < lo ∨ hi < v)) := by
  unfold clampFlag clampTo
  by_cases h1 : v < lo
  · have : max lo (min hi v) = lo := by omega
    simp [h1, h1.ne', this]
  · by_cases h2 : hi < v
    · have : max lo (min hi v) = hi := by omega
      simp [h1, h2, h2.ne, this]
    · have : max lo (min hi v) = v := by omega
      simp [h1, h2, this]

/-! ### The two requests -/

/-- SET_PLAUSIBILITY's body: both percentages clamped. -/
theorem setPlausibilityBody_eq (s : State) (b : List Byte) : setPlausibilityBody s b =
    (s.setPrice { s.price with down := min 100 (leField b 0 2), up := min 1000 (leField b 2 2) },
      .adjusted (decide (100 < leField b 0 2 ∨ 1000 < leField b 2 2)) []) := by
  unfold setPlausibilityBody
  rw [clampFlag_zero, clampFlag_zero, Bool.decide_or]

/-- SET_GUEST_POLICY's body: the budget has no bound above but its field's width. -/
theorem setGuestPolicyBody_eq (s : State) (b : List Byte) : setGuestPolicyBody s b =
    (s.setGuests { s.guests with
      defaultBudget := max 1048576 (leField b 0 4), defaultLimit := max 60 (min 86400 (leField b 4 4)) },
      .adjusted (decide (leField b 0 4 < 1048576 ∨ leField b 4 4 < 60 ∨ 86400 < leField b 4 4)) []) := by
  have hlt : leField b 0 4 < 4294967296 := leField_lt b 0 4
  have hmin : min 4294967295 (leField b 0 4) = leField b 0 4 := by omega
  have hflag : (leField b 0 4 < 1048576 ∨ 4294967295 < leField b 0 4) ↔ leField b 0 4 < 1048576 := by omega
  unfold setGuestPolicyBody minBudget maxBudget
  rw [clampFlag_mem _ (by decide), clampFlag_mem _ (by decide), hmin]
  simp only [hflag, Bool.decide_or]

/-- A request that replaces the Price Engine alone, as its record's log is set aside. -/
theorem State.setPrice_withLog {s t : State} {x : PriceEngine} (h : t.withLogOf (s.setPrice x) = s.setPrice x) :
    t.price = x ∧ (t.withLogOf s).setPrice s.price = s :=
  ⟨(congrArg State.price h :), (congrArg (fun u : State => (u.withLogOf s).setPrice s.price) h :)⟩

/-- A request that replaces the Guest Unit alone. -/
theorem State.setGuests_withLog {s t : State} {x : GuestUnit} (h : t.withLogOf (s.setGuests x) = s.setGuests x) :
    t.guests = x ∧ (t.withLogOf s).setGuests s.guests = s :=
  ⟨(congrArg State.guests h :), (congrArg (fun u : State => (u.withLogOf s).setGuests s.guests) h :)⟩

/-- Settles O18: the bodies with their clamps written as minimum and maximum, and the record answered. -/
theorem percentagesAndPolicySet : Obligations.PercentagesAndPolicySet := by
  unfold Obligations.PercentagesAndPolicySet
  refine ⟨fun s r h => ?_, fun s r h => ?_⟩
  · obtain ⟨t, ht, hlog, -, hans⟩ := h.replies (own := noBytes) (by decide) (by decide) (setPlausibilityBody_eq s r.body)
      (.of_eq rfl rfl rfl) (fun _ ha => Bool.noConfusion ha) h.1.2.2 (Reply.fitsIn_of_no_parts rfl _)
    obtain ⟨hprice, hframe⟩ := State.setPrice_withLog hlog
    exact ⟨t, powered_next h.1.1 ht, hprice, hframe, hans⟩
  · obtain ⟨t, ht, hlog, -, hans⟩ := h.replies (own := noBytes) (by decide) (by decide) (setGuestPolicyBody_eq s r.body)
      (.of_eq rfl rfl rfl) (fun _ ha => Bool.noConfusion ha) h.1.2.2 (Reply.fitsIn_of_no_parts rfl _)
    obtain ⟨hguests, hframe⟩ := State.setGuests_withLog hlog
    exact ⟨t, powered_next h.1.1 ht, hguests, hframe, hans⟩

/-! ### After a reset (R187) -/

theorem RequestUnit.reset_chain (c : Chain) : RequestUnit.reset.chains.get c = ChainState.reset := by cases c <;> rfl

theorem Forwarding.reset_port (p : Port) : Forwarding.reset.ports.get p = PortState.reset := by cases p <;> rfl

theorem TillService.reset_entry (n : Fin 64) : TillService.reset.entries[n] = TillEntry.reset :=
  Vector.getElem_replicate n.isLt

/-- Every journal field holds its value before the scan (log 25), with nothing handed over. -/
theorem State.reset_journalSound : State.reset.JournalSound :=
  ⟨by decide, by decide, by decide, (fun _ h => by cases h), (fun _ h => by cases h),
    fun _ => ⟨rfl, rfl, rfl, rfl, rfl, rfl⟩⟩

theorem State.reset_invariants : State.reset.MemoryWf ∧ State.reset.Settled ∧ State.reset.BuffersAdd
    ∧ State.reset.GuestsWithinBudget ∧ State.reset.ClosedEmpty ∧ State.reset.CreditKept ∧ State.reset.ItemsAgree := by
  refine ⟨by decide, rfl, rfl, ?_, fun _ => ⟨rfl, rfl⟩, ?_, ?_, ?_⟩ <;> exact fun _ h => by cases h

theorem State.reset_pacerBounded : State.reset.PacerBounded :=
  ⟨by decide, by decide, fun c f hf => by cases c <;> cases hf⟩

/-- Settles O5: every unit's reset value by its definition, then the invariants. -/
theorem resetValues : Obligations.ResetValues := by
  unfold Obligations.ResetValues
  obtain ⟨hmem, hsettled, hbuffers, hguests, hclosed, hcredit, hitems⟩ := State.reset_invariants
  obtain ⟨hlog, htables⟩ := State.reset_bounded
  refine ⟨⟨rfl, rfl, rfl, rfl, rfl, rfl, rfl, rfl, rfl, RequestUnit.reset_chain⟩, rfl, ⟨rfl, TillService.reset_entry⟩,
    ⟨rfl, rfl, rfl, rfl⟩, rfl, ⟨rfl, rfl, rfl, rfl⟩, ?_, ?_, rfl, ⟨rfl, rfl, rfl, rfl, rfl, rfl⟩,
    hmem, hsettled, hbuffers, hlog, htables, hguests, hclosed, State.reset_pacerBounded, hcredit, hitems,
    State.reset_journalSound⟩
  · exact ⟨rfl, rfl, rfl, rfl, rfl, rfl, rfl, rfl, rfl, rfl, rfl, rfl, rfl, rfl, rfl, rfl, rfl, rfl, rfl, rfl, rfl, rfl⟩
  · refine ⟨Forwarding.reset_port, rfl, rfl, rfl, rfl, rfl, rfl, rfl, rfl, rfl, rfl, rfl, rfl, rfl, rfl, rfl, rfl, rfl, ?_, ?_⟩
    · decide
    · decide

end Sys2Proof.Machine
end

section
/-! PROOFS. Frames of the part offered to a port (R155), the till table (R44), and QUOTE_ASK (R50, R51): O39. -/

namespace Sys2Proof.Machine

variable {s t : State} {p : Port}

/-! ### A frame offered to a port (R155) -/

theorem State.offerOwn_frame (s : State) (p : Port) (f : Frame) : (s.offerOwn p f).setNet s.net = s := by
  unfold State.offerOwn State.offer
  split
  · rfl
  · rfl

/-- A port's LAN egress queue refuses a frame exactly when it cannot join, for the first reason that holds (log 58). -/
theorem State.refusal_lan (s : State) (p : Port) :
    s.refusal (.lan p) = if s.JoinsLan p then none else some (s.lanDropReason p) := by
  unfold State.refusal State.JoinsLan State.lanDropReason State.targetUp State.hasRoom
  cases hup : (s.port p).linkUp with
  | false => simp [hup]
  | true =>
    by_cases hfree : s.net.freeBuffers = 0
    · simp [hup, hfree]
    · have hpos : 0 < s.net.freeBuffers := Nat.pos_of_ne_zero hfree
      by_cases hroom : (s.port p).lan.length < (s.port p).lanCap
      · simp [hup, hfree, hpos, hroom]
      · simp [hup, hfree, hroom]

theorem State.offerOwn_of_refused (h : ¬ s.JoinsLan p) (f : Frame) : s.offerOwn p f = s.countDrop p (s.lanDropReason p) := by
  unfold State.offerOwn State.offer
  rw [State.refusal_lan, if_neg h]

theorem LanOffered.offerOwn (s : State) (p : Port) (f : Frame) : LanOffered s (s.offerOwn p f) p f := by
  by_cases h : s.JoinsLan p
  · exact .of_joins h (by rw [State.offerOwn_of_joins h]; rfl)
  · rw [State.offerOwn_of_refused h]
    have hport : (s.countDrop p (s.lanDropReason p)).port p
        = { s.port p with counters := (s.port p).counters.drop (s.lanDropReason p) } := PerPort.get_set_same _ _ _
    refine ⟨?_, ?_, ?_, fun q hq => PerPort.get_set_other _ _ hq, rfl⟩
    · rw [if_neg h, hport]
    · rw [if_neg h]; rfl
    · rw [if_neg h, hport]

/-! ### The till table (R44) -/

theorem State.till_putTill_same {n : Nat} {e : TillEntry} (h : s.till n = some e) (x : TillEntry) :
    (s.putTill n x).till n = some x := by
  unfold State.till at h
  split at h
  · cases h
  next hn =>
    have hlt : n - 1 < 64 := by simpa using (List.getElem?_eq_some_iff.mp h).1
    unfold State.putTill State.till
    rw [if_neg hn, if_neg hn]
    simp [hlt]

theorem State.till_putTill_other {n m : Nat} (hm : m ≠ n) (x : TillEntry) : (s.putTill n x).till m = s.till m := by
  unfold State.putTill State.till
  by_cases hn : n = 0
  · rw [if_pos hn]
  · by_cases h0 : m = 0
    · rw [if_pos h0, if_pos h0]
    · have hne : n - 1 ≠ m - 1 := by omega
      rw [if_neg hn, if_neg h0, if_neg h0]
      simp [hne]

theorem State.putTill_frame (s : State) (n : Nat) (x : TillEntry) : (s.putTill n x).setTills s.tills = s := by
  unfold State.putTill
  split
  · rfl
  · rfl

theorem State.putTill_inbox (s : State) (n : Nat) (x : TillEntry) : (s.putTill n x).tills.inbox = s.tills.inbox := by
  unfold State.putTill
  split
  · rfl
  · rfl

/-! ### Bytes of a QUOTE (R208) -/

/-- A quote of no version leaves every field after its status empty. -/
theorem quoteBody_empty (ref : Nat) (st : QuoteStatus) :
    quoteBody ref (.empty st) = beBytes 2 ref ++ beBytes 1 st.code ++ zeros 39 := by
  have hrest : beBytes 1 Basis.current.code ++ beBytes 4 0 ++ beBytes 4 0 ++ beBytes 4 0 ++ beBytes 1 (flagByte [false])
      ++ textField [] = zeros 39 := by decide
  rw [← hrest]
  simp only [quoteBody, Quote.empty, List.append_assoc]

theorem quoteBody_ofVersion (ref : Nat) (i : Item) (v : Version) (st : QuoteStatus) (amount : Nat) (basis : Basis) :
    quoteBody ref (.ofVersion i v st amount basis) =
      beBytes 2 ref ++ beBytes 1 st.code ++ beBytes 1 basis.code ++ beBytes 4 amount ++ beBytes 4 v.number
        ++ beBytes 4 (unitPriceOf i v.base).1 ++ beBytes 1 (unitPriceOf i v.base).2.toNat ++ textField i.text := by
  simp only [quoteBody, Quote.ofVersion, flagByte, Nat.mul_zero, Nat.add_zero]

/-! ### The quote of an item (R29, R34, R35) -/

section
variable {i : Item} {q x : Nat}

theorem maxQuantity_eq (k : SaleKind) : maxQuantity k = if k = .each then 999 else 99999 := by cases k <;> rfl

theorem itemQuote_badQuantity (h : q = 0 ∨ maxQuantity i.saleKind < q) : itemQuote i q = .empty .badQuantity := if_pos h

theorem itemQuote_overlimit (h1 : 1 ≤ q) (h2 : q ≤ maxQuantity i.saleKind) (h : lowerOfTwo i q = none) :
    itemQuote i q = .ofVersion i i.current .overlimit 0 .current := by
  unfold itemQuote
  rw [if_neg (by omega), h]

theorem itemQuote_current (h1 : 1 ≤ q) (h2 : q ≤ maxQuantity i.saleKind) (h : lowerOfTwo i q = some (x, .current)) :
    itemQuote i q = .ofVersion i i.current .ok x .current := by
  unfold itemQuote
  rw [if_neg (by omega), h]

theorem itemQuote_pending {v : Version} (h1 : 1 ≤ q) (h2 : q ≤ maxQuantity i.saleKind)
    (h : lowerOfTwo i q = some (x, .pending)) (hv : i.pending = some v) : itemQuote i q = .ofVersion i v .ok x .pending := by
  unfold itemQuote
  rw [if_neg (by omega), h, hv]
  rfl

theorem PriceEngine.quote_none {a : Nat} (h : s.item a = none) (q : Nat) : s.price.quote a q = .empty .notFound := by
  unfold State.item at h
  unfold PriceEngine.quote
  rw [h]

theorem PriceEngine.quote_some {a : Nat} (h : s.item a = some i) (q : Nat) : s.price.quote a q = itemQuote i q := by
  unfold State.item at h
  unfold PriceEngine.quote
  rw [h]

/-- No version of the item gives a lower amount than the lower of two, an OVERLIMIT one least of all (R33, R34). -/
theorem lowerOfTwo_le {b : Basis} {v : Version} (h : lowerOfTwo i q = some (x, b)) (hv : v = i.current ∨ i.pending = some v) :
    x ≤ lineAmount i.saleKind v q := by
  have hvalid : x ≤ 99999999 ∧ ∀ y, validAmount i.saleKind v q = some y → x ≤ y := by
    have hle : ∀ {w : Version}, validAmount i.saleKind w q = some x → x ≤ 99999999 := fun {w} hw => by
      rw [validAmount_eq] at hw
      split at hw
      · cases hw
      · cases hw; omega
    cases hp : i.pending with
    | none =>
      rw [lowerOfTwo_settled hp] at h
      obtain ⟨a, ha, hax⟩ := Option.map_eq_some_iff.mp h
      cases hax
      rcases hv with rfl | hv
      · exact ⟨hle ha, fun y hy => by rw [ha] at hy; cases hy; exact le_rfl⟩
      · rw [hp] at hv; cases hv
    | some w =>
      rw [lowerOfTwo_pending hp] at h
      obtain ⟨hcur, hpend, hlecur, hlepend⟩ := lesser_eq_some h
      refine ⟨?_, ?_⟩
      · cases b with
        | current => exact hle (hcur rfl)
        | pending => exact hle (hpend rfl)
      · rcases hv with rfl | hv
        · exact fun y hy => (hlecur y hy).1
        · rw [hp] at hv; cases hv; exact hlepend
  by_cases hover : 99999999 < lineAmount i.saleKind v q
  · omega
  · exact hvalid.2 _ ((validAmount_eq ..).trans (if_neg hover))

end

/-! ### QUOTE_ASK (R50) -/

theorem TillEntry.matches_iff {e : TillEntry} {m : MacAddr} :
    e.matches m = true ↔ e.phase = .signedOn ∧ e.station = some m := by
  unfold TillEntry.matches
  rw [Bool.and_eq_true, beq_iff_eq, beq_iff_eq]

theorem State.matchTill_none {f : TillFrame}
    (h : ∀ e, s.till f.till = some e → e.phase ≠ .signedOn ∨ e.station ≠ some f.source) : s.matchTill f = none := by
  unfold State.matchTill
  cases he : s.till f.till with
  | none => rfl
  | some e =>
    refine if_neg fun hm => ?_
    obtain ⟨h1, h2⟩ := TillEntry.matches_iff.mp hm
    rcases h e he with h | h
    · exact h h1
    · exact h h2

theorem State.matchTill_some {f : TillFrame} {e : TillEntry} (he : s.till f.till = some e) (hp : e.phase = .signedOn)
    (hm : e.station = some f.source) : s.matchTill f =
      some (s.putTill f.till { e with lastHeard := s.now, port := some f.port },
        { e with lastHeard := s.now, port := some f.port }) := by
  unfold State.matchTill
  rw [he]
  exact if_pos (TillEntry.matches_iff.mpr ⟨hp, hm⟩)

/-- An answer to a till from a state in which only the till table has changed. -/
theorem TillAnswered.tillAnswer {u : State} (h : u.setTills s.tills = s) (p : Port) (dest : MacAddr) (kind : TillAnswer)
    (till : Nat) (body : List Byte) : TillAnswered s (u.tillAnswer p dest kind till body) p dest kind.code till body := by
  have hnet : u.net = s.net := (congrArg State.net h :)
  have hframe := u.offerOwn_frame p (u.makeFrame dest u.net.tillType (beBytes 1 kind.code ++ beBytes 1 till ++ body))
  refine ⟨.of_net hnet ?_, ?_⟩
  · have hf : s.tillFrameOut dest kind.code till body = u.tillFrameOut dest kind.code till body := by
      unfold State.tillFrameOut State.makeFrame
      rw [hnet]
    rw [hf]
    exact .offerOwn u p _
  · show (((u.tillAnswer p dest kind till body).setNet s.net).withLogOf s).setTills s.tills = s
    rw [← hnet]
    unfold State.tillAnswer
    rw [hframe]
    exact (congrArg (fun x : State => x.withLogOf s) h :)

section
variable {f : TillFrame} {rest : List TillFrame} {ref a q : Nat} (hs : s.Sound) (hin : s.tills.inbox = f :: rest)
  (hm : f.message = .quoteAsk ref a q)
include hs hin hm

theorem exec_quoteAsk : exec .quoteAsk s = .next ((s.dropTillFrame rest).takeQuoteAsk f ref a q) := by
  refine powered_next hs.1 ?_
  rw [hin]
  dsimp only
  rw [hm]

/-- An ask of a sender that matches no SIGNED_ON entry. -/
theorem quoteAsk_unmatched (h : ∀ e, s.till f.till = some e → e.phase ≠ .signedOn ∨ e.station ≠ some f.source) :
    ∃ t, exec .quoteAsk s = .next t
      ∧ TillAnswered s t f.port f.source 4 f.till (quoteBody ref (.empty .notSignedOn))
      ∧ t.tills = { s.tills with inbox := rest } := by
  refine ⟨(s.dropTillFrame rest).tillAnswer f.port f.source .quote f.till (quoteBody ref (.empty .notSignedOn)), ?_,
    .tillAnswer rfl .., State.offerOwn_tills ..⟩
  rw [exec_quoteAsk hs hin hm]
  unfold State.takeQuoteAsk
  rw [State.matchTill_none (s := s.dropTillFrame rest) h]

/-- An ask of a till that is signed on: it is heard, its quotes raised, and the article's quote answered. -/
theorem quoteAsk_matched {e : TillEntry} (he : s.till f.till = some e) (hp : e.phase = .signedOn)
    (hst : e.station = some f.source) : ∃ t, exec .quoteAsk s = .next t
      ∧ TillAnswered s t f.port f.source 4 f.till (quoteBody ref (s.price.quote a q))
      ∧ TillEntryIs s t rest f.till { e with lastHeard := s.now, port := some f.port, quotes := e.quotes + 1 } := by
  let heard : TillEntry := { e with lastHeard := s.now, port := some f.port }
  let u := (s.dropTillFrame rest).putTill f.till heard
  let v := u.putTill f.till { heard with quotes := heard.quotes + 1 }
  have hu : u.till f.till = some heard := State.till_putTill_same (s := s.dropTillFrame rest) he heard
  have hheard : u.setTills s.tills = s :=
    (congrArg (fun x : State => x.setTills s.tills) ((s.dropTillFrame rest).putTill_frame f.till heard) :)
  have hframe : v.setTills s.tills = s :=
    (congrArg (fun x : State => x.setTills s.tills) (u.putTill_frame f.till { heard with quotes := heard.quotes + 1 }) :).trans
      hheard
  have hprice : v.price = s.price := (congrArg State.price hframe :)
  have htills : ∀ n, (v.tillAnswer f.port f.source .quote f.till (quoteBody ref (v.price.quote a q))).till n = v.till n :=
    fun n => by unfold State.till State.tillAnswer; rw [State.offerOwn_tills]
  refine ⟨v.tillAnswer f.port f.source .quote f.till (quoteBody ref (v.price.quote a q)), ?_, ?_, ?_, ?_, fun n hn => ?_⟩
  · rw [exec_quoteAsk hs hin hm]
    unfold State.takeQuoteAsk
    rw [State.matchTill_some (s := s.dropTillFrame rest) he hp hst]
    rfl
  · rw [← hprice]
    exact .tillAnswer hframe ..
  · have hinbox : v.tills.inbox = rest :=
      (State.putTill_inbox ..).trans (State.putTill_inbox (s.dropTillFrame rest) f.till heard)
    unfold State.tillAnswer
    rw [State.offerOwn_tills, hinbox]
  · exact (htills f.till).trans (State.till_putTill_same hu _)
  · exact (htills n).trans ((State.till_putTill_other hn _).trans
      (State.till_putTill_other (s := s.dropTillFrame rest) hn heard))

end

/-- Settles O39: the body of the answer by the status of the quote; and the lower of two against the version of a label. -/
theorem quoteAnswered : Obligations.QuoteAnswered := by
  unfold Obligations.QuoteAnswered
  refine ⟨fun s f rest ref a q hs hin hm => ⟨fun hno => ?_, fun e he hp hst => ?_⟩,
    fun s a i id l c q x b hag hi hid hl hc hq => ?_⟩
  · obtain ⟨t, ht, hans, htills⟩ := quoteAsk_unmatched hs hin hm hno
    rw [quoteBody_empty] at hans
    exact ⟨t, ht, hans, htills⟩
  · obtain ⟨t, ht, hans, hentry⟩ := quoteAsk_matched hs hin hm he hp hst
    refine ⟨fun hnone => ?_, fun i hi => ?_⟩
    · rw [PriceEngine.quote_none hnone, quoteBody_empty] at hans
      exact ⟨t, ht, hans, hentry⟩
    rw [PriceEngine.quote_some hi] at hans
    rw [← maxQuantity_eq]
    refine ⟨fun hbad => ?_, fun h1 h2 => ?_⟩
    · rw [itemQuote_badQuantity hbad, quoteBody_empty] at hans
      exact ⟨t, ht, hans, hentry⟩
    refine ⟨fun hover => ?_, fun x hx => ?_, fun x v hx hv => ?_⟩
    · rw [itemQuote_overlimit h1 h2 hover, quoteBody_ofVersion] at hans
      exact ⟨t, ht, hans, hentry⟩
    · rw [itemQuote_current h1 h2 hx, quoteBody_ofVersion] at hans
      exact ⟨t, ht, hans, hentry⟩
    · rw [itemQuote_pending h1 h2 hx hv, quoteBody_ofVersion] at hans
      exact ⟨t, ht, hans, hentry⟩
  · obtain ⟨k, hk, hfits⟩ := ((s.itemAgrees_iff i).mp (hag.1 _ (Table.mem_of_find hi))).listed id hid
    obtain rfl : k = l := Option.some.inj (hk.symm.trans hl)
    rcases hfits.confirmed c hc with hcur | hpend
    · exact ⟨i.current, .inl rfl, hcur.symm, lowerOfTwo_le hq (.inl rfl)⟩
    · obtain ⟨v, hv, hnum⟩ := Option.map_eq_some_iff.mp hpend
      exact ⟨v, .inr hv, hnum, lowerOfTwo_le hq (.inr hv)⟩

end Sys2Proof.Machine
end

section
/-! PROOFS. Slots and tags (R112, R113, R116), and the update a pick gives with its bytes (R82-R84, R209). -/

namespace Sys2Proof.Machine

/-! ### Slots (R112, R113) -/

theorem slotDistance_spec {slots : Nat} (now label : Nat) (h : 0 < slots) : slotDistance slots now label < slots
    ∧ (now / 25 + slotDistance slots now label) % slots = label % slots := by
  refine ⟨Nat.mod_lt _ h, ?_⟩
  have hlt : now / 25 % slots < slots := Nat.mod_lt _ h
  unfold slotDistance
  calc (now / 25 + (label % slots + slots - now / 25 % slots) % slots) % slots
      = (now / 25 % slots + (label % slots + slots - now / 25 % slots)) % slots := by
        rw [Nat.add_mod_mod, Nat.mod_add_mod]
    _ = (label % slots + slots) % slots := by congr 1; omega
    _ = label % slots := by rw [Nat.add_mod_right, Nat.mod_mod]

/-- One label comes before another: its slot is nearer, or as near with an id no higher (R113). -/
def NoLater (slots now a b : Nat) : Prop := slotDistance slots now a < slotDistance slots now b
  ∨ (slotDistance slots now a = slotDistance slots now b ∧ a ≤ b)

theorem NoLater.refl (slots now a : Nat) : NoLater slots now a a := .inr ⟨rfl, le_rfl⟩

theorem NoLater.trans {slots now a b c : Nat} (h : NoLater slots now a b) (h' : NoLater slots now b c) :
    NoLater slots now a c := by
  unfold NoLater at *
  omega

theorem nearer_iff {slots now a b : Nat} : nearer slots now a b = true ↔ NoLater slots now a b ∧ a ≠ b := by
  unfold NoLater
  constructor
  · intro h
    simp only [nearer, Bool.or_eq_true, Bool.and_eq_true, decide_eq_true_eq] at h
    rcases h with h | ⟨h1, h2⟩
    · exact ⟨.inl h, by rintro rfl; exact h.false⟩
    · exact ⟨.inr ⟨h1, h2.le⟩, h2.ne⟩
  · rintro ⟨h, hne⟩
    simp only [nearer, Bool.or_eq_true, Bool.and_eq_true, decide_eq_true_eq]
    exact h.imp_right fun h => ⟨h.1, lt_of_le_of_ne h.2 hne⟩

theorem noLater_of_not_nearer {slots now a b : Nat} (h : ¬ nearer slots now a b = true) : NoLater slots now b a := by
  by_cases hab : a = b
  · exact hab ▸ .refl ..
  · have hlater : ¬ NoLater slots now a b := fun hn => h (nearer_iff.mpr ⟨hn, hab⟩)
    unfold NoLater at *
    omega

/-- The label chosen is of the set and comes no later than any other of it. -/
theorem nearest_spec (slots now : Nat) {ids : List Nat} (h : ids ≠ []) :
    ∃ id, nearest slots now ids = some id ∧ id ∈ ids ∧ ∀ x ∈ ids, NoLater slots now id x := by
  induction ids with
  | nil => exact absurd rfl h
  | cons x xs ih =>
    by_cases hxs : xs = []
    · subst hxs
      exact ⟨x, rfl, List.mem_cons_self, by simpa using NoLater.refl slots now x⟩
    · obtain ⟨y, hy, hmem, hfirst⟩ := ih hxs
      by_cases hn : nearer slots now y x = true
      · refine ⟨y, by simp [nearest, hy, hn], List.mem_cons_of_mem _ hmem, fun z hz => ?_⟩
        rcases List.mem_cons.mp hz with rfl | hz
        · exact (nearer_iff.mp hn).1
        · exact hfirst z hz
      · refine ⟨x, by simp [nearest, hy, hn], List.mem_cons_self, fun z hz => ?_⟩
        rcases List.mem_cons.mp hz with rfl | hz
        · exact .refl ..
        · exact (noLater_of_not_nearer hn).trans (hfirst z hz)

/-! ### Tags (R116) -/

/-- The tags run in a circle of 4,294,967,295. -/
theorem tagAfter_iterate {tag : Nat} (h1 : 1 ≤ tag) (h2 : tag ≤ 4294967295) (j : Nat) :
    tagAfter^[j] tag = (tag - 1 + j) % 4294967295 + 1 := by
  induction j with
  | zero => simp only [Function.iterate_zero, id]; omega
  | succ j ih =>
    rw [Function.iterate_succ_apply', ih]
    unfold tagAfter
    split <;> omega

/-- The search for a free tag passes tags in use, and stops at one that is free or when its fuel is spent. -/
theorem StationLink.freeTag_stops (k : StationLink) (fuel tag : Nat) : ∃ j ≤ fuel, k.freeTag fuel tag = tagAfter^[j] tag
    ∧ (∀ i < j, k.tagInUse (tagAfter^[i] tag) = true) ∧ (j < fuel → k.tagInUse (tagAfter^[j] tag) = false) := by
  induction fuel generalizing tag with
  | zero => exact ⟨0, le_rfl, rfl, fun i hi => absurd hi (Nat.not_lt_zero i), fun h => absurd h (Nat.not_lt_zero 0)⟩
  | succ fuel ih =>
    cases huse : k.tagInUse tag with
    | false => exact ⟨0, Nat.zero_le _, by simp [freeTag, huse], fun i hi => absurd hi (Nat.not_lt_zero i), fun _ => huse⟩
    | true =>
      obtain ⟨j, hj, heq, hpassed, hfree⟩ := ih (tagAfter tag)
      refine ⟨j + 1, by omega, by simp [freeTag, huse, heq], fun i hi => ?_, fun hlt => hfree (by omega)⟩
      cases i with
      | zero => exact huse
      | succ i => exact hpassed i (by omega)

/-- The tags in use, one for each update in flight. -/
def StationLink.tags (k : StationLink) : List Nat := k.table.flatMap (fun b => b.inFlight.map InFlightRecord.tag)

theorem StationLink.tags_length (k : StationLink) : k.tags.length = k.inFlightCount := by
  simp [tags, inFlightCount, List.length_flatMap]

theorem StationLink.tagInUse_iff (k : StationLink) (tag : Nat) : k.tagInUse tag = true ↔ tag ∈ k.tags := by
  simp [tags, tagInUse]

/-- The next send takes a tag that is not in use: of one more tag than there are updates in flight, one is free. -/
theorem StationLink.tagInUse_freeTag {k : StationLink} (h1 : 1 ≤ k.nextTag) (h2 : k.nextTag ≤ 4294967295)
    (hcount : k.inFlightCount < 4294967295) : k.tagInUse (k.freeTag k.inFlightCount k.nextTag) = false := by
  obtain ⟨j, hj, heq, hpassed, hfree⟩ := k.freeTag_stops k.inFlightCount k.nextTag
  rw [heq]
  refine Bool.eq_false_iff.mpr fun huse => ?_
  have hspent : j = k.inFlightCount := by
    by_contra hne
    rw [hfree (by omega)] at huse
    cases huse
  have hmaps : Set.MapsTo (fun i => tagAfter^[i] k.nextTag) (Finset.range (j + 1)) k.tags.toFinset := by
    intro i hi
    have hi : i < j + 1 := Finset.mem_range.mp hi
    refine List.mem_toFinset.mpr ((k.tagInUse_iff _).mp ?_)
    rcases Nat.lt_succ_iff_lt_or_eq.mp hi with hi | rfl
    · exact hpassed i hi
    · exact huse
  have hinj : Set.InjOn (fun i => tagAfter^[i] k.nextTag) (Finset.range (j + 1)) := by
    intro x hx y hy hxy
    have hx : x < j + 1 := Finset.mem_range.mp hx
    have hy : y < j + 1 := Finset.mem_range.mp hy
    simp only [tagAfter_iterate h1 h2] at hxy
    omega
  have hcard := Finset.card_le_card_of_injOn _ hmaps hinj
  have hlength := k.tags.toFinset_card_le
  rw [k.tags_length] at hlength
  rw [Finset.card_range] at hcard
  omega

/-! ### Picks (R82) -/

section
variable {s : State} {l : Label} {i : Item} {m : Template}

theorem State.pick_at_target {a : Nat} (hp : l.phase = .queued) (ha : l.article = some a) (hi : s.item a = some i)
    (hc : l.confirmed = some (i.target l.template)) : s.pick l = none := by
  simp [State.pick, hp, ha, hi, hc]

theorem State.pick_unbinding (s : State) (hp : l.phase = .unbinding) :
    s.pick l = if l.blankDue = true ∧ l.inFlight = none then some blankUpdateOf else none := by
  simp [State.pick, hp]

theorem State.pick_not_waiting (s : State) (hp : l.phase = .idle ∨ l.phase = .sent ∨ l.phase = .stale) :
    s.pick l = none := by
  rcases hp with hp | hp | hp <;> simp [State.pick, hp]

/-! ### The bytes of an update (R84, R209) -/

theorem textField_bytes (text : List Byte) :
    textField text = beBytes 1 text.length ++ (text.take 24 ++ zeros (24 - text.length)) := rfl

theorem Display.flags_eq (d : Display) (colour : Bool) :
    d.flags colour = d.clamped.toNat + 2 * d.promo.isSome.toNat + 4 * (colour && d.promo.isSome).toNat := by
  simp only [Display.flags, flagByte]
  omega

/-- The version a PARTIAL update may start from: what the label has confirmed is of its template and text, and of the
item's current version or else of its pending one (R37, R83). -/
def StartsFrom (l : Label) (i : Item) (c : Confirmed) (old : Version) : Prop :=
  c.template = l.template ∧ c.textRevision = i.textRevision ∧ c.version = old.number
    ∧ (old = i.current ∨ (i.current.number ≠ c.version ∧ i.pending = some old))

theorem Item.versionOf_eq_some {n : Nat} {old : Version} : i.versionOf n = some old ↔
    n = old.number ∧ (old = i.current ∨ (i.current.number ≠ n ∧ i.pending = some old)) := by
  unfold Item.versionOf
  by_cases hcur : i.current.number = n
  · rw [if_pos hcur]
    refine ⟨?_, ?_⟩
    · rintro ⟨⟩
      exact ⟨hcur.symm, .inl rfl⟩
    · rintro ⟨-, rfl | ⟨hne, -⟩⟩
      · rfl
      · exact absurd hcur hne
  · rw [if_neg hcur]
    cases hp : i.pending with
    | none =>
      refine ⟨(fun h => nomatch h), ?_⟩
      rintro ⟨hn, rfl | ⟨-, h⟩⟩
      · exact absurd hn.symm hcur
      · cases h
    | some w =>
      dsimp only
      by_cases hw : w.number = n
      · rw [if_pos hw]
        refine ⟨?_, ?_⟩
        · rintro ⟨⟩
          exact ⟨hw.symm, .inr ⟨hcur, rfl⟩⟩
        · rintro ⟨hn, rfl | ⟨-, h⟩⟩
          · exact absurd hn.symm hcur
          · exact h
      · rw [if_neg hw]
        refine ⟨(fun h => nomatch h), ?_⟩
        rintro ⟨hn, rfl | ⟨-, h⟩⟩
        · exact absurd hn.symm hcur
        · cases h; exact absurd hn.symm hw

theorem Label.partialFrom_eq_some {old : Version} : l.partialFrom i = some old ↔
    ∃ c, l.confirmed = some c ∧ StartsFrom l i c old := by
  unfold Label.partialFrom StartsFrom
  cases hc : l.confirmed with
  | none => simp
  | some c =>
    simp only [Option.some.injEq, exists_eq_left']
    split
    next h => rw [Item.versionOf_eq_some]; simp [h]
    next h =>
      refine ⟨(fun h => nomatch h), ?_⟩
      rintro ⟨h1, h2, -⟩
      exact absurd ⟨h1, h2⟩ h

theorem buildUpdate_full (h : ∀ c old, l.confirmed = some c → ¬ StartsFrom l i c old) : buildUpdate l m i =
    { kind := .fullUpdate, version := i.followed.number, template := l.template, textRevision := i.textRevision
      content := fullContent l.template m i i.followed } := by
  have hnone : l.partialFrom i = none := by
    refine Option.eq_none_iff_forall_ne_some.mpr fun old hold => ?_
    obtain ⟨c, hc, hs⟩ := Label.partialFrom_eq_some.mp hold
    exact h c old hc hs
  unfold buildUpdate
  rw [hnone]

theorem buildUpdate_partial {c : Confirmed} {old : Version} (hc : l.confirmed = some c) (h : StartsFrom l i c old) :
    buildUpdate l m i =
    { kind := .partialUpdate, version := i.followed.number, template := l.template, textRevision := i.textRevision
      content := partialContent m i old i.followed } := by
  unfold buildUpdate
  rw [Label.partialFrom_eq_some.mpr ⟨c, hc, h⟩]

theorem buildUpdate_carries (l : Label) (m : Template) (i : Item) : (buildUpdate l m i).version = i.followed.number
    ∧ (buildUpdate l m i).template = l.template ∧ (buildUpdate l m i).textRevision = i.textRevision := by
  unfold buildUpdate
  split
  · exact ⟨rfl, rfl, rfl⟩
  · exact ⟨rfl, rfl, rfl⟩

/-- The chosen of a list of fields, each with whether it is chosen. -/
theorem chosen_cons (c : Bool) (x : List Byte) (es : List (Bool × List Byte)) :
    (((c, x) :: es).filter Prod.fst).map Prod.snd = (if c then [x] else []) ++ (es.filter Prod.fst).map Prod.snd := by
  cases c <;> rfl

theorem partialEntries_eq (t : Template) (old new : Display) : partialEntries t old new =
    ([(decide (old.price ≠ new.price), beBytes 1 1 ++ t.price.bytes ++ beBytes 4 new.price ++ zeros 1),
      (decide ((old.unitPrice, old.clamped) ≠ (new.unitPrice, new.clamped)),
        beBytes 1 2 ++ t.unitPrice.bytes ++ beBytes 4 new.unitPrice ++ beBytes 1 (new.flags t.colour)),
      (decide (old.promo ≠ new.promo), beBytes 1 3 ++ t.promo.bytes ++ new.promoBytes),
      (t.colour && (old.promo.isSome != new.promo.isSome),
        beBytes 1 4 ++ t.promo.bytes ++ beBytes 1 new.promo.isSome.toNat ++ zeros 4)].filter Prod.fst).map Prod.snd := by
  have hcolour : (!t.colour || old.promo.isSome == new.promo.isSome) = !(t.colour && (old.promo.isSome != new.promo.isSome)) := by
    cases t.colour <;> simp [bne]
  unfold partialEntries
  simp only [chosen_cons, hcolour, decide_eq_true_eq, ite_not, Bool.not_eq_true', List.filter_nil, List.map_nil,
    List.append_nil, ne_eq, Prod.mk.injEq, List.append_assoc]
  cases t.colour && (old.promo.isSome != new.promo.isSome) <;> rfl

end

end Sys2Proof.Machine
end

section
/-! PROOFS. One run of a station's arbiter (R113-R116) by what it finds: nothing, no credit, no buffer, a label with nothing to
get, an update to send. The station need not stand once in the table, only in one form. -/

namespace Sys2Proof.Machine

variable {s : State} {n id : Nat} {b : BaseStation} {l : Label} {u : Update}

/-! ### A station in one form -/

/-- Every entry of the table under a station's id is that station. -/
def State.Sole (s : State) (b : BaseStation) : Prop := ∀ x ∈ s.link.table, x.id = b.id → x = b

theorem State.Sole.putStation_self (h : s.Sole b) : s.putStation b = s := by
  have htable : s.link.table.map (fun x => if x.id = b.id then b else x) = s.link.table :=
    (List.map_congr_left fun x hx => by
      split
      next hid => exact (h x hx hid).symm
      next => rfl).trans (List.map_id' _)
  unfold State.putStation
  rw [htable]
  rfl

theorem State.sole_putStation (s : State) (b : BaseStation) : (s.putStation b).Sole b := by
  intro x hx hid
  obtain ⟨y, -, rfl⟩ := List.mem_map.mp hx
  split
  next => rfl
  next hne => rw [if_neg hne] at hid; exact absurd hid hne

/-- A label leaves nothing behind at its home when nothing is ready there. -/
theorem State.Sole.leaveSet (h : s.Sole b) (hst : s.station n = some b) (hready : b.ready = []) (hhome : l.home = some n) :
    s.leaveSet l = s := by
  have hsame : { b with ready := setDrop b.ready l.id } = b := by
    rw [hready]
    show { b with ready := [] } = b
    rw [← hready]
  simp only [State.leaveSet, hhome, hst, hsame]
  exact h.putStation_self

/-! ### One turn of a run -/

theorem State.runArbiter_of_station (hst : s.station n = some b) :
    s.runArbiter n = State.arbiterRun n (b.ready.length + 1) s := by
  simp only [State.runArbiter, hst]

section
variable (hst : s.station n = some b) (hactive : b.phase = .active) (hnear : nearest s.link.slots s.now b.ready = some id)
  (hl : s.label id = some l)
include hst hactive hnear hl

/-- The chosen label has an update to get: it is sent unless credit or buffers are wanting (R113, R115). -/
theorem State.arbiterRun_update (hu : s.pick l = some u) (fuel : Nat) : State.arbiterRun n (fuel + 1) s =
    if b.credit < b.costInFlight + u.kind.cost then s.setWaiting b false
    else if s.net.freeBuffers = 0 ∨ !s.hasRoom (.lan b.port) then
      (s.countDrop b.port ((s.refusal (.lan b.port)).getD .noBuffer)).setWaiting b true
    else State.arbiterRun n fuel (s.sendUpdate b l u) := by
  have hnotLost : b.phase ≠ .lost := by rw [hactive]; decide
  simp only [State.arbiterRun, hst, if_neg hnotLost, hnear, hl, hu]

/-- The chosen label has nothing to get (R82). -/
theorem State.arbiterRun_nothing (hu : s.pick l = none) (fuel : Nat) : State.arbiterRun n (fuel + 1) s =
    State.arbiterRun n fuel ((s.putStation { b with ready := setDrop b.ready id }).pickNothing l) := by
  have hnotLost : b.phase ≠ .lost := by rw [hactive]; decide
  simp only [State.arbiterRun, hst, if_neg hnotLost, hnear, hl, hu]

theorem State.runArbiter_noCredit (hu : s.pick l = some u) (hc : b.credit < b.costInFlight + u.kind.cost) :
    s.runArbiter n = s.putStation { b with waitingForBuffer := false } := by
  rw [State.runArbiter_of_station hst, State.arbiterRun_update hst hactive hnear hl hu, if_pos hc]
  rfl

/-- Without a buffer or room in the queue the drop is counted and the station waits (R115, R155). -/
theorem State.runArbiter_noBuffer (hu : s.pick l = some u) (hc : b.costInFlight + u.kind.cost ≤ b.credit)
    (hfull : s.net.freeBuffers = 0 ∨ (s.port b.port).lanCap ≤ (s.port b.port).lan.length) :
    s.runArbiter n = (s.countDrop b.port (s.lanDropReason b.port)).putStation { b with waitingForBuffer := true } := by
  have hno : ¬ s.JoinsLan b.port := by rintro ⟨-, hfree, hroom⟩; omega
  have hroom : s.net.freeBuffers = 0 ∨ (!s.hasRoom (.lan b.port)) = true :=
    hfull.imp_right fun h => by simpa [State.hasRoom] using h
  rw [State.runArbiter_of_station hst, State.arbiterRun_update hst hactive hnear hl hu, if_neg (by omega), if_pos hroom,
    State.refusal_lan, if_neg hno]
  rfl

end

/-! ### A send -/

theorem State.updateSent_of_sole (h : s.Sole b) (hst : s.station n = some b) (hready : b.ready = []) (hhome : l.home = some n)
    (u : Update) (tag : Nat) : s.updateSent l u tag n = s.putLabel (l.onWay u tag n) := by
  unfold State.updateSent Label.onWay
  rw [h.leaveSet hst hready hhome]
  dsimp only
  split
  · rfl
  · rfl

/-- The state in which the station has the record of its send and the port the frame, the label's record still to come. -/
def State.onAir (s : State) (b : BaseStation) (l : Label) (u : Update) : State :=
  ((s.setLink { s.link with nextTag := tagAfter s.link.sendTag }).putStation (b.sent (s.sendRecord l u))).setNet
    (s.lanJoined b.port (s.updateFrame b l u))

theorem State.afterSend_eq (s : State) (b : BaseStation) (l : Label) (u : Update) :
    s.afterSend b l u = (s.onAir b l u).putLabel (l.onWay u s.link.sendTag b.id) := rfl

theorem State.sole_onAir (s : State) (b : BaseStation) (l : Label) (u : Update) :
    (s.onAir b l u).Sole (b.sent (s.sendRecord l u)) :=
  State.sole_putStation (s.setLink { s.link with nextTag := tagAfter s.link.sendTag }) _

theorem State.frameSent_of_joins (hready : b.ready = [l.id]) (hjoins : s.JoinsLan b.port) (u : Update) :
    s.frameSent b l u = s.onAir b l u := by
  have hsent : { b with
      inFlight := b.inFlight ++ [{ tag := s.link.sendTag, label := l.id, kind := u.kind, cost := u.kind.cost
                                   deadline := s.now + cycleTime s.link.slots + 5000 }]
      ready := setDrop b.ready l.id, waitingForBuffer := false } = b.sent (s.sendRecord l u) := by
    simp only [BaseStation.sent, State.sendRecord, cycleTime, hready, setDrop_singleton, Nat.mul_comm]
  have hframe : s.labelFrame b 4 (updatePutBody s.link.sendTag l.id u) = s.updateFrame b l u := by
    simp only [State.labelFrame, State.updateFrame, updatePutBody, List.append_assoc]
  calc s.frameSent b l u
      = ((s.setLink { s.link with nextTag := tagAfter s.link.sendTag }).putStation (b.sent (s.sendRecord l u))).offerOwn
          b.port (s.updateFrame b l u) := by rw [← hsent, ← hframe]; rfl
    _ = s.onAir b l u := State.offerOwn_of_joins
          (s := (s.setLink { s.link with nextTag := tagAfter s.link.sendTag }).putStation (b.sent (s.sendRecord l u))) hjoins _

section
variable (hst : s.station b.id = some b)
include hst

theorem State.station_onAir (l : Label) (u : Update) : (s.onAir b l u).station b.id = some (b.sent (s.sendRecord l u)) :=
  State.station_putStation_same (s := s.setLink { s.link with nextTag := tagAfter s.link.sendTag }) hst rfl

theorem State.station_afterSend (l : Label) (u : Update) :
    (s.afterSend b l u).station b.id = some (b.sent (s.sendRecord l u)) := by
  rw [State.afterSend_eq, (OnlyLabels.putLabel ..).station, State.station_onAir hst]

variable (hready : b.ready = [l.id]) (hhome : l.home = some b.id) (hjoins : s.JoinsLan b.port)
include hready hhome hjoins

theorem State.sendUpdate_of_joins (u : Update) : s.sendUpdate b l u = s.afterSend b l u := by
  rw [State.sendUpdate_eq, State.frameSent_of_joins hready hjoins, State.afterSend_eq]
  exact State.updateSent_of_sole (s.sole_onAir b l u) (State.station_onAir hst l u) rfl hhome u _

/-- The one label ready at an ACTIVE station is sent its update, and the run ends on the empty set. -/
theorem State.runArbiter_sends (hactive : b.phase = .active) (hl : s.label l.id = some l) (hu : s.pick l = some u)
    (hc : b.costInFlight + u.kind.cost ≤ b.credit) : s.runArbiter b.id = s.afterSend b l u := by
  have ⟨_, hfree, hroom⟩ := hjoins
  have hnear : nearest s.link.slots s.now b.ready = some l.id := by rw [hready]; rfl
  have hopen : ¬ (s.net.freeBuffers = 0 ∨ (!s.hasRoom (.lan b.port)) = true) := by
    simp [State.hasRoom, hroom, Nat.ne_of_gt hfree]
  have hactive' : (b.sent (s.sendRecord l u)).phase ≠ .lost := by
    show b.phase ≠ .lost
    rw [hactive]; decide
  have hsole : (s.afterSend b l u).Sole (b.sent (s.sendRecord l u)) := by
    unfold State.Sole
    rw [State.afterSend_eq, State.putLabel_link]
    exact s.sole_onAir b l u
  rw [State.runArbiter_of_station hst, hready]
  show State.arbiterRun b.id 2 s = _
  rw [State.arbiterRun_update hst hactive hnear hl hu, if_neg (by omega), if_neg hopen,
    State.sendUpdate_of_joins hst hready hhome hjoins, State.arbiterRun_empty 0 (State.station_afterSend hst l u) hactive' rfl]
  exact hsole.putStation_self

end

theorem Label.onWay_of_queued (hp : l.phase = .queued) (u : Update) (tag n : Nat) : l.onWay u tag n = { l with
    phase := .sent, again := false
    inFlight := some { tag := tag, kind := u.kind, version := u.version, template := u.template
                       textRevision := u.textRevision, station := n } } := by
  simp only [Label.onWay, if_pos hp]

theorem UpdateOnWay.afterSend (hst : s.station b.id = some b) (hp : l.phase = .queued) (hjoins : s.JoinsLan b.port) (u : Update) :
    UpdateOnWay s (s.afterSend b l u) b l u := by
  refine ⟨State.station_afterSend hst l u, ?_, .of_joins hjoins (State.putLabel_net ..)⟩
  rw [State.afterSend_eq, State.label_putLabel, Label.onWay_id, if_pos rfl, Label.onWay_of_queued hp]

theorem State.afterSend_nextTag (s : State) (b : BaseStation) (l : Label) (u : Update) :
    (s.afterSend b l u).link.nextTag = tagAfter s.link.sendTag := by
  rw [State.afterSend_eq, State.putLabel_link]
  rfl

theorem OnlyLabels.frame_within {v t : State} (h : OnlyLabels v t) (hv : (v.setNet s.net).setLink s.link = s) :
    (((t.withLogOf s).setNet s.net).setLink s.link).setLabels s.labels = s := by
  have hback := congrArg (fun x : State => (((x.withLogOf s).setNet s.net).setLink s.link).setLabels s.labels) h.frame
  have hsame : (((v.withLogOf s).setNet s.net).setLink s.link).setLabels s.labels = s :=
    congrArg (fun x : State => (x.withLogOf s).setLabels s.labels) hv
  exact hback.trans hsame

theorem State.onAir_frame (s : State) (b : BaseStation) (l : Label) (u : Update) :
    ((s.onAir b l u).setNet s.net).setLink s.link = s := by
  obtain ⟨link, net, h⟩ : ∃ link net, s.onAir b l u = (s.setLink link).setNet net := ⟨_, _, rfl⟩
  rw [h]
  rfl

theorem State.afterSend_frame (s : State) (b : BaseStation) (l : Label) (u : Update) :
    ((((s.afterSend b l u).withLogOf s).setNet s.net).setLink s.link).setLabels s.labels = s :=
  (OnlyLabels.putLabel (s.onAir b l u) _).frame_within (s.onAir_frame b l u)

/-! ### A label with nothing to get -/

/-- A label a pick has found nothing for, out of its set already: a QUEUED one is at its target, and IDLE (R82). -/
def Label.picked (l : Label) : Label := if l.phase = .queued then { l with phase := .idle } else l

/-- What a pick of nothing leaves of the directory. -/
theorem State.pickNothing_of_sole (h : s.Sole b) (hst : s.station n = some b) (hready : b.ready = []) (hhome : l.home = some n)
    (hl : s.label l.id = some l) : OnlyLabels s (s.pickNothing l)
      ∧ (∀ x, (s.pickNothing l).label x = if x = l.id then some l.picked else s.label x)
      ∧ (s.pickNothing l).labels.homeless = s.labels.homeless := by
  unfold State.pickNothing Label.picked
  rw [h.leaveSet hst hready hhome]
  dsimp only
  split
  next => exact ⟨.putLabel .., fun x => State.label_putLabel .., State.putLabel_homeless ..⟩
  next =>
    refine ⟨.refl s, fun x => ?_, rfl⟩
    split
    next hx => rw [hx, hl]
    next => rfl

/-- A run that finds one label with nothing to get: the station's set and flag, and that label's record. -/
theorem State.runArbiter_nothing (hst : s.station n = some b) (hactive : b.phase = .active)
    (hready : b.ready = [l.id]) (hl : s.label l.id = some l) (hhome : l.home = some n) (hu : s.pick l = none) :
    ∃ w, OnlyLabels (s.putStation { b with ready := [] }) w
      ∧ (∀ x, w.label x = if x = l.id then some l.picked else s.label x) ∧ w.labels.homeless = s.labels.homeless
      ∧ s.runArbiter n = w.putStation { b with ready := [], waitingForBuffer := false } := by
  have hnear : nearest s.link.slots s.now b.ready = some l.id := by rw [hready]; rfl
  have hempty : (s.putStation { b with ready := [] }).station n = some { b with ready := [] } :=
    State.station_putStation_same hst (State.station_some hst).2
  obtain ⟨honly, hlabel, hhomeless⟩ := State.pickNothing_of_sole (s.sole_putStation { b with ready := [] }) hempty rfl hhome hl
  refine ⟨_, honly, hlabel, hhomeless, ?_⟩
  have hnotLost : b.phase ≠ .lost := by rw [hactive]; decide
  rw [State.runArbiter_of_station hst, hready]
  show State.arbiterRun n 2 s = _
  rw [State.arbiterRun_nothing hst hactive hnear hl hu, hready, setDrop_singleton,
    State.arbiterRun_empty 0 ((honly.station n).trans hempty) hnotLost rfl]
  rfl

end Sys2Proof.Machine
end

section
/-! PROOFS. A buffer's return (R115): which arbiters it runs; and O45. -/

namespace Sys2Proof.Machine

variable {s t u : State} {n : Nat} {b : BaseStation} {l : Label}

/-! ### Runs at other stations -/

/-- What decides whether a buffer's return runs a station's arbiter (R115). -/
def BaseStation.flags (b : BaseStation) : StationPhase × Bool := (b.phase, b.waitingForBuffer)

/-- The flags of the station under an id. -/
def State.flags (s : State) (m : Nat) : Option (StationPhase × Bool) := (s.station m).map BaseStation.flags

/-- Between two states every station but one has kept its flags. -/
structure FlagsKept (n : Nat) (s t : State) : Prop where
  flags : ∀ m, m ≠ n → t.flags m = s.flags m

theorem FlagsKept.refl (n : Nat) (s : State) : FlagsKept n s s := ⟨fun _ _ => rfl⟩

theorem FlagsKept.trans (h : FlagsKept n s t) (h' : FlagsKept n t u) : FlagsKept n s u :=
  ⟨fun m hm => (h'.flags m hm).trans (h.flags m hm)⟩

theorem FlagsKept.of_table (n : Nat) (h : t.link.table = s.link.table) : FlagsKept n s t := ⟨fun m _ => by
  unfold State.flags State.station
  rw [h]⟩

theorem FlagsKept.putStation (s : State) (hid : b.id = n) : FlagsKept n s (s.putStation b) := ⟨fun m hm => by
  unfold State.flags
  rw [State.station_putStation_other (by rw [hid]; exact hm)]⟩

/-- A ready set replaced changes no flags at any station. -/
theorem State.flags_putStation_ready {h : Nat} {x : BaseStation} (hx : s.station h = some x) (ids : List Nat) (m : Nat) :
    (s.putStation { x with ready := ids }).flags m = s.flags m := by
  unfold State.flags
  by_cases hm : m = h
  · rw [hm, State.station_putStation_same hx (x := { x with ready := ids }) (State.station_some hx).2, hx]
    rfl
  · rw [State.station_putStation_other (x := { x with ready := ids }) ((State.station_some hx).2 ▸ hm)]

theorem FlagsKept.leaveSet (n : Nat) (s : State) (l : Label) : FlagsKept n s (s.leaveSet l) := by
  unfold State.leaveSet
  split
  next => exact .of_table n rfl
  next =>
    split
    next => exact .refl n s
    next x hx => exact ⟨fun m _ => State.flags_putStation_ready hx _ m⟩

theorem FlagsKept.putLabel (n : Nat) (s : State) (l : Label) : FlagsKept n s (s.putLabel l) :=
  .of_table n (by rw [State.putLabel_link])

theorem FlagsKept.pickNothing (n : Nat) (s : State) (l : Label) : FlagsKept n s (s.pickNothing l) := by
  unfold State.pickNothing
  dsimp only
  split
  · exact (FlagsKept.leaveSet n s l).trans (.putLabel ..)
  · exact .leaveSet ..

theorem FlagsKept.setLink_putStation (s : State) {k : StationLink} (hk : k.table = s.link.table) (hid : b.id = n) :
    FlagsKept n s ((s.setLink k).putStation b) := .trans (.of_table n hk) (.putStation _ hid)

theorem FlagsKept.setWaiting (s : State) (hid : b.id = n) (flag : Bool) : FlagsKept n s (s.setWaiting b flag) :=
  .putStation s (b := { b with waitingForBuffer := flag }) hid

theorem FlagsKept.countDrop (n : Nat) (s : State) (p : Port) (r : DropReason) : FlagsKept n s (s.countDrop p r) :=
  .of_table n rfl

theorem FlagsKept.offerOwn (h : FlagsKept n s t) (p : Port) (f : Frame) : FlagsKept n s (t.offerOwn p f) :=
  h.trans (.of_table n (by rw [State.offerOwn_link]))

theorem FlagsKept.sendUpdate (s : State) (hid : b.id = n) (l : Label) (up : Update) : FlagsKept n s (s.sendUpdate b l up) := by
  have hframe : FlagsKept n s (s.frameSent b l up) := by
    unfold State.frameSent
    dsimp only
    refine .offerOwn (.setLink_putStation s ?_ ?_) _ _
    · rfl
    · exact hid
  rw [State.sendUpdate_eq]
  refine hframe.trans ?_
  unfold State.updateSent
  dsimp only
  split
  · exact (FlagsKept.leaveSet ..).trans (.putLabel ..)
  · exact (FlagsKept.leaveSet ..).trans (.putLabel ..)

/-- A run of a station's arbiter moves no other station's flags. -/
theorem FlagsKept.arbiterRun (n fuel : Nat) (s : State) : FlagsKept n s (State.arbiterRun n fuel s) := by
  induction fuel generalizing s with
  | zero => exact .refl n s
  | succ fuel ih =>
    unfold State.arbiterRun
    split
    next => exact .refl n s
    next b hst =>
      have hid : b.id = n := (State.station_some hst).2
      split
      next => exact .refl n s
      split
      next => exact .setWaiting s hid false
      split
      next => exact .trans (.putStation s (by exact hid)) (ih _)
      split
      next => exact .trans (.trans (.putStation s (by exact hid)) (.pickNothing ..)) (ih _)
      split
      next => exact .setWaiting s hid false
      split
      next => exact .trans (.countDrop n s ..) (.setWaiting _ hid true)
      next => exact (FlagsKept.sendUpdate s hid ..).trans (ih _)

theorem FlagsKept.runArbiter (n : Nat) (s : State) : FlagsKept n s (s.runArbiter n) := by
  unfold State.runArbiter
  split
  · exact .refl n s
  · exact .arbiterRun ..

/-! ### A buffer's return -/

/-- A station that a buffer's return runs the arbiter of (R115). -/
def BaseStation.awaits (b : BaseStation) : Bool := b.phase == .active && b.waitingForBuffer

/-- One station of a buffer's return, its entry read as it then stands. -/
def State.returnTo (s : State) (b : BaseStation) : State :=
  match s.station b.id with
  | none => s
  | some x => if x.phase = .active ∧ x.waitingForBuffer then s.runArbiter b.id else s

theorem State.returnTo_of_flags (h : s.flags b.id = some b.flags) :
    s.returnTo b = if b.awaits then s.runArbiter b.id else s := by
  obtain ⟨x, hx, hflags⟩ := Option.map_eq_some_iff.mp h
  obtain ⟨hphase, hwaiting⟩ := Prod.mk.inj hflags
  simp only [State.returnTo, hx, BaseStation.awaits, hphase, hwaiting, Bool.and_eq_true, beq_iff_eq]

/-- The runs of a buffer's return are those of the stations that waited when it came: no run moves another's flags. -/
theorem foldl_returnTo {bs : List BaseStation} (hd : (bs.map BaseStation.id).Nodup)
    (hflags : ∀ b ∈ bs, s.flags b.id = some b.flags) :
    bs.foldl State.returnTo s = ((bs.filter BaseStation.awaits).map BaseStation.id).foldl State.runArbiter s := by
  induction bs generalizing s with
  | nil => rfl
  | cons b bs ih =>
    obtain ⟨hnew, hd⟩ := List.nodup_cons.mp hd
    have hrest : ∀ x ∈ bs, s.flags x.id = some x.flags := fun x hx => hflags x (List.mem_cons_of_mem _ hx)
    rw [List.foldl_cons, State.returnTo_of_flags (hflags b List.mem_cons_self)]
    cases hw : b.awaits with
    | false => simpa [hw] using ih hd hrest
    | true =>
      have hkept : ∀ x ∈ bs, (s.runArbiter b.id).flags x.id = some x.flags := fun x hx => by
        refine ((FlagsKept.runArbiter b.id s).flags x.id fun heq => hnew ?_).trans (hrest x hx)
        rw [← heq]
        exact List.mem_map_of_mem hx
      simpa [hw] using ih hd hkept

theorem State.bufferReturned_eq (hd : s.StationsDistinct) : s.bufferReturned =
    ((s.link.table.filter BaseStation.awaits).map BaseStation.id).foldl State.runArbiter s :=
  foldl_returnTo hd fun _ hb => congrArg (Option.map BaseStation.flags) (hd.station hb)

/-! ### O45 -/

/-- A run at an ACTIVE station with an update to send first. -/
theorem runArbiter_first {id : Nat} {up : Update} (hst : s.station n = some b) (hactive : b.phase = .active)
    (hnear : nearest s.link.slots s.now b.ready = some id) (hl : s.label id = some l) (hid : l.id = id)
    (hu : s.pick l = some up) :
    (b.credit < b.costInFlight + up.kind.cost → s.runArbiter n = s.putStation { b with waitingForBuffer := false })
    ∧ (b.costInFlight + up.kind.cost ≤ b.credit →
        s.net.freeBuffers = 0 ∨ (s.port b.port).lanCap ≤ (s.port b.port).lan.length →
        s.runArbiter n = (s.countDrop b.port (s.lanDropReason b.port)).putStation { b with waitingForBuffer := true })
    ∧ (b.costInFlight + up.kind.cost ≤ b.credit → s.JoinsLan b.port → b.ready = [id] → l.phase = .queued →
        l.home = some n → (s.runArbiter n).link.nextTag = tagAfter s.link.sendTag ∧ UpdateOnWay s (s.runArbiter n) b l up
          ∧ (((((s.runArbiter n).withLogOf s).setNet s.net).setLink s.link).setLabels s.labels) = s) := by
  refine ⟨State.runArbiter_noCredit hst hactive hnear hl hu, State.runArbiter_noBuffer hst hactive hnear hl hu,
    fun hc hjoins hready hqueued hhome => ?_⟩
  obtain rfl := (State.station_some hst).2
  subst hid
  rw [State.runArbiter_sends hst hready hhome hjoins hactive hl hu hc]
  exact ⟨State.afterSend_nextTag .., .afterSend hst hqueued hjoins up, State.afterSend_frame ..⟩

/-- A run at an ACTIVE station where the one label ready has nothing to get. -/
theorem runArbiter_only_nothing (hb : s.TablesBounded) {id : Nat} (hst : s.station n = some b) (hactive : b.phase = .active)
    (hready : b.ready = [id]) (hl : s.label id = some l) (hu : s.pick l = none) (hhome : l.home = some n) :
    (s.runArbiter n).station n = some { b with ready := [], waitingForBuffer := false }
      ∧ (s.runArbiter n).label id = some l.picked ∧ (∀ x, x ≠ id → (s.runArbiter n).label x = s.label x)
      ∧ (s.runArbiter n).labels.homeless = s.labels.homeless
      ∧ (∀ m, m ≠ n → (s.runArbiter n).station m = s.station m)
      ∧ (((s.runArbiter n).setStore s.store).setLink s.link).setLabels s.labels = s := by
  obtain rfl : l.id = id := hb.labelId hl
  have hid : b.id = n := (State.station_some hst).2
  obtain ⟨w, honly, hlabel, hhomeless, hrun⟩ := State.runArbiter_nothing hst hactive hready hl hhome hu
  rw [hrun]
  refine ⟨?_, (hlabel _).trans (if_pos rfl), fun x hx => (hlabel x).trans (if_neg hx), hhomeless, fun m hm => ?_, ?_⟩
  · exact State.station_putStation_same ((honly.station n).trans (State.station_putStation_same hst hid)) hid
  · rw [State.station_putStation_other (by exact hid ▸ hm), honly.station, State.station_putStation_other (by exact hid ▸ hm)]
  · exact (congrArg (fun x : State => ((x.setStore s.store).setLink s.link).setLabels s.labels) honly.frame :)

/-- Settles O45: slots and tags, one run by what it finds, picks, the bytes of an update, and a buffer's return. -/
theorem arbiterRuns : Obligations.ArbiterRuns := by
  unfold Obligations.ArbiterRuns
  refine ⟨fun slots now label h => slotDistance_spec now label h, fun slots now ids h => nearest_spec slots now h,
    fun k h1 h2 h3 => StationLink.tagInUse_freeTag h1 h2 h3, fun n s b _ hst _ => ⟨?_, ?_, ?_⟩,
    fun n id s b l _ hb hst hactive hready hl hu hhome => runArbiter_only_nothing hb hst hactive hready hl hu hhome,
    fun s l => ⟨?_, State.pick_unbinding s, State.pick_not_waiting s⟩, fun l m i => ?_,
    fun s hd => State.bufferReturned_eq hd⟩
  · intro hlost
    rw [State.runArbiter_of_station hst, State.arbiterRun_lost _ hst hlost]
  · intro hactive hempty
    rw [State.runArbiter_of_station hst, State.arbiterRun_empty _ hst (by rw [hactive]; decide) hempty]
    rfl
  · intro id l up hactive hnear hl hid hu
    exact runArbiter_first hst hactive hnear hl hid hu
  · intro a i hp ha hi shows
    exact ⟨State.pick_at_target hp ha hi, fun m hc hm => State.pick_of_template hp ha hi hc hm⟩
  · intro v up window unit flags promo holds
    obtain ⟨hversion, htemplate, htext⟩ := buildUpdate_carries l m i
    refine ⟨hversion, htemplate, htext, fun hfull => ?_, fun c old hc hold => ?_⟩
    · rw [show up = _ from buildUpdate_full hfull]
      refine ⟨rfl, ?_⟩
      simp only [fullContent, displayOf, textField_bytes, Display.flags_eq, List.append_assoc]
      rfl
    · rw [show up = _ from buildUpdate_partial hc hold]
      refine ⟨rfl, ?_⟩
      simp only [partialContent, partialEntries_eq, displayOf, Display.flags_eq]
      rfl

end Sys2Proof.Machine
end

section
/-! PROOFS. The till link (R43-R55): answers and notices of the Till Service, SIGN_ON, SIGN_OFF and the silence of a till: O38;
SALE_PUT up to its hand-off: O40. -/

namespace Sys2Proof.Machine

variable {s t u : State} {f : TillFrame} {rest : List TillFrame} {n : Nat} {e x y : TillEntry}

/-! ### The till table (R44) -/

theorem State.till_none_of_range (h : n = 0 ∨ 64 < n) : s.till n = none := by
  unfold State.till
  split
  · rfl
  · exact List.getElem?_eq_none (by simp; omega)

theorem State.till_range (h : s.till n = some e) : 1 ≤ n ∧ n ≤ 64 := by
  by_contra hn
  rw [State.till_none_of_range (by omega)] at h
  cases h

theorem State.till_congr (h : t.tills = s.tills) (n : Nat) : t.till n = s.till n := by
  unfold State.till
  rw [h]

/-- A second entry put under a till id replaces the first. -/
theorem State.putTill_putTill (s : State) (n : Nat) (x y : TillEntry) : (s.putTill n x).putTill n y = s.putTill n y := by
  unfold State.putTill
  split
  · rfl
  · simp [State.setTills]

theorem TillEntryIs.putTill (he : s.till n = some e) (ht : t.tills = ((s.dropTillFrame rest).putTill n x).tills) :
    TillEntryIs s t rest n x := by
  refine ⟨?_, ?_, fun m hm => ?_⟩
  · rw [ht, State.putTill_inbox]
    rfl
  · exact (State.till_congr ht n).trans (State.till_putTill_same (s := s.dropTillFrame rest) he x)
  · exact (State.till_congr ht m).trans (State.till_putTill_other (s := s.dropTillFrame rest) hm x)

/-- The front of the inbox taken and an entry replaced: nothing but the till table has changed. -/
theorem State.heard_frame (s : State) (rest : List TillFrame) (n : Nat) (x : TillEntry) :
    ((s.dropTillFrame rest).putTill n x).setTills s.tills = s :=
  (congrArg (fun u : State => u.setTills s.tills) ((s.dropTillFrame rest).putTill_frame n x) :)

theorem State.mark_congr (h : t.backed = s.backed) (n : Nat) : t.mark n = s.mark n := by
  unfold State.mark
  rw [h]

theorem State.mark_heard (s : State) (rest : List TillFrame) (n : Nat) (x : TillEntry) (m : Nat) :
    ((s.dropTillFrame rest).putTill n x).mark m = s.mark m :=
  State.mark_congr (congrArg State.backed (s.heard_frame rest n x) :) m

theorem State.mark_post (s : State) (k : NoticeKind) (x d n : Nat) : (s.post k x d).mark n = s.mark n :=
  State.mark_congr (State.post_backed ..) n

/-! ### Answers and notices of the Till Service (R43, R199) -/

/-- An answer to a till from a state in which only the till table and the log have changed. -/
theorem TillAnswered.of_log (h : (u.withLogOf s).setTills s.tills = s) (p : Port) (dest : MacAddr) (kind : TillAnswer)
    (till : Nat) (body : List Byte) : TillAnswered s (u.tillAnswer p dest kind till body) p dest kind.code till body := by
  have hans := TillAnswered.tillAnswer (s := u) (u := u) rfl p dest kind till body
  have hnet : u.net = s.net := (congrArg State.net h :)
  refine ⟨?_, ?_⟩
  · have hframe : u.tillFrameOut dest kind.code till body = s.tillFrameOut dest kind.code till body := by
      unfold State.tillFrameOut State.makeFrame
      rw [hnet]
    rw [← hframe]
    exact .of_net hnet hans.offered
  · have hf : ((u.tillAnswer p dest kind till body).setNet u.net) = u := u.offerOwn_frame p _
    rw [hnet] at hf
    exact (congrArg (fun x : State => (x.withLogOf s).setTills s.tills) hf :).trans h

theorem SameLog.of_eq (hs : t.store = s.store) (hr : t.requests = s.requests) (hc : t.clock = s.clock) : SameLog s t :=
  (Writes.of_eq (own := labelCountBytes) hs hr hc).sameLog

theorem SameLog.tillAnswer (u : State) (p : Port) (dest : MacAddr) (kind : TillAnswer) (till : Nat) (body : List Byte) :
    SameLog u (u.tillAnswer p dest kind till body) :=
  .of_eq (State.offerOwn_store ..) (State.offerOwn_requests ..) (State.offerOwn_clock ..)

@[simp] theorem State.tillAnswer_tills (u : State) (p : Port) (dest : MacAddr) (kind : TillAnswer) (till : Nat)
    (body : List Byte) : (u.tillAnswer p dest kind till body).tills = u.tills := State.offerOwn_tills ..

/-- A till entry replaced, the front of the inbox taken, a notice posted and the sender answered. -/
theorem posted_and_answered (hw : s.store.wf) (he : s.till n = some e) (rest : List TillFrame) (x : TillEntry)
    (k : NoticeKind) (subject detail : Nat) (p : Port) (dest : MacAddr) (kind : TillAnswer) (till : Nat) (body : List Byte) :
    ∃ t, (((s.dropTillFrame rest).putTill n x).post k subject detail).tillAnswer p dest kind till body = t
      ∧ TillAnswered s t p dest kind.code till body ∧ TillEntryIs s t rest n x ∧ Posted s t k subject detail := by
  have hheard := s.heard_frame rest n x
  have hstore : ((s.dropTillFrame rest).putTill n x).store = s.store := (congrArg State.store hheard :)
  have hsame : SameLog s ((s.dropTillFrame rest).putTill n x) :=
    .of_eq hstore (congrArg State.requests hheard :) (congrArg State.clock hheard :)
  have hposted := Posted.post (s := (s.dropTillFrame rest).putTill n x) k subject detail (hstore ▸ hw)
  have hlog := ((s.dropTillFrame rest).putTill n x).post_withLog k subject detail
  refine ⟨_, rfl, .of_log ?_ .., .putTill he ((State.tillAnswer_tills ..).trans (State.post_tills ..)),
    hposted.of_sameLog hsame (.tillAnswer ..)⟩
  exact (congrArg (fun v : State => (v.withLogOf s).setTills s.tills) hlog :).trans
    (congrArg (fun v : State => v.withLogOf s) hheard :)

/-- An answer from the till table as it stands, the front of the inbox taken. -/
theorem answered_unchanged (s : State) (rest : List TillFrame) (p : Port) (dest : MacAddr) (kind : TillAnswer) (till : Nat)
    (body : List Byte) : ∃ t, (s.dropTillFrame rest).tillAnswer p dest kind till body = t
      ∧ TillAnswered s t p dest kind.code till body ∧ t.tills = { s.tills with inbox := rest } :=
  ⟨_, rfl, .tillAnswer rfl .., State.tillAnswer_tills ..⟩

/-- An answer once the sender's entry has been replaced, the front of the inbox taken. -/
theorem answered_entry (he : s.till n = some e) (rest : List TillFrame) (x : TillEntry) (p : Port) (dest : MacAddr)
    (kind : TillAnswer) (till : Nat) (body : List Byte) :
    ∃ t, ((s.dropTillFrame rest).putTill n x).tillAnswer p dest kind till body = t
      ∧ TillAnswered s t p dest kind.code till body ∧ TillEntryIs s t rest n x :=
  ⟨_, rfl, .tillAnswer (s.heard_frame rest n x) .., .putTill he (State.tillAnswer_tills ..)⟩

/-! ### SIGN_ON (R46) -/

theorem exec_signOn (hs : s.Sound) (hin : s.tills.inbox = f :: rest) (hm : f.message = .signOn) :
    exec .signOn s = .next ((s.dropTillFrame rest).takeSignOn f) := by
  refine powered_next hs.1 ?_
  rw [hin]
  dsimp only
  rw [hm]

theorem State.takeSignOn_badTill (h : s.till f.till = none) : s.takeSignOn f = s.answerSignOn f .badTill (0, 0) := by
  unfold State.takeSignOn
  rw [h]

theorem State.takeSignOn_clash (he : s.till f.till = some e) (hp : e.phase = .signedOn) (hst : e.station ≠ some f.source) :
    s.takeSignOn f = s.answerSignOn f .tillClash (0, 0) := by
  have hno : s.matchTill f = none := State.matchTill_none fun x hx => by
    rw [he] at hx
    cases hx
    exact .inr hst
  unfold State.takeSignOn
  rw [he, hno]
  dsimp only
  rw [hp]

theorem State.takeSignOn_refreshed (he : s.till f.till = some e) (hp : e.phase = .signedOn)
    (hst : e.station = some f.source) : s.takeSignOn f =
      (s.putTill f.till { e with lastHeard := s.now, port := some f.port }).answerSignOn f .ok
        ((s.putTill f.till { e with lastHeard := s.now, port := some f.port }).mark f.till) := by
  unfold State.takeSignOn
  rw [he, State.matchTill_some he hp hst]
  dsimp only
  rw [hp]

theorem State.takeSignOn_free (he : s.till f.till = some e) (hp : e.phase ≠ .signedOn) : s.takeSignOn f =
    ((s.putTill f.till (e.bind f s.now)).post .tillSignedOn f.till (Port.index f.port)).answerSignOn f .ok
      ((s.putTill f.till (e.bind f s.now)).mark f.till) := by
  rw [← State.mark_post _ .tillSignedOn f.till (Port.index f.port)]
  unfold State.takeSignOn
  rw [he]
  dsimp only
  cases h : e.phase with
  | signedOn => exact absurd h hp
  | absent => rfl
  | signedOff => rfl

/-! ### SIGN_OFF (R47) and silence (R48) -/

theorem exec_signOff (hs : s.Sound) (hin : s.tills.inbox = f :: rest) (hm : f.message = .signOff) :
    exec .signOff s = .next ((s.dropTillFrame rest).takeSignOff f) := by
  refine powered_next hs.1 ?_
  rw [hin]
  dsimp only
  rw [hm]

theorem State.takeSignOff_matched (he : s.till f.till = some e) (hp : e.phase = .signedOn) (hst : e.station = some f.source) :
    s.takeSignOff f = (s.endTill f.till { e with lastHeard := s.now, port := some f.port }).answerSignOff f .ok := by
  unfold State.takeSignOff State.endTill
  rw [State.matchTill_some he hp hst]
  dsimp only
  rw [State.putTill_putTill]

theorem State.takeSignOff_badTill (h : s.till f.till = none) : s.takeSignOff f = s.answerSignOff f .notSignedOn := by
  have hno : s.matchTill f = none := State.matchTill_none fun x hx => by rw [h] at hx; cases hx
  unfold State.takeSignOff
  rw [hno, h]

theorem State.takeSignOff_unmatched (he : s.till f.till = some e)
    (h : e.phase ≠ .signedOn ∨ e.station ≠ some f.source) :
    s.takeSignOff f = s.answerSignOff f (if e.phase = .signedOn then .tillClash else .notSignedOn) := by
  have hno : s.matchTill f = none := State.matchTill_none fun x hx => by
    rw [he] at hx
    cases hx
    exact h
  unfold State.takeSignOff
  rw [hno, he]

theorem exec_tillSilenceExpiry (hs : s.Sound) (n : Nat) : exec (.tillSilenceExpiry n) s = .next (s.tillSilence n) :=
  powered_next hs.1 rfl

/-- A till's session ended: its entry SIGNED_OFF and its notice posted. -/
theorem endTill_spec (hw : s.store.wf) (he : s.till n = some e) :
    TillEntryIs s (s.endTill n e) s.tills.inbox n { e with phase := .signedOff }
      ∧ Posted s (s.endTill n e) .tillSignedOff n e.quotes.toNat
      ∧ ((s.endTill n e).withLogOf s).setTills s.tills = s := by
  have hput := s.putTill_frame n { e with phase := .signedOff }
  have hstore : (s.putTill n { e with phase := .signedOff }).store = s.store := (congrArg State.store hput :)
  have hposted := Posted.post (s := s.putTill n { e with phase := .signedOff }) .tillSignedOff n e.quotes.toNat (hstore ▸ hw)
  have hlog := (s.putTill n { e with phase := .signedOff }).post_withLog .tillSignedOff n e.quotes.toNat
  refine ⟨.putTill he (State.post_tills ..), hposted.of_sameLog ?_ (.refl _), ?_⟩
  · exact .of_eq hstore (congrArg State.requests hput :) (congrArg State.clock hput :)
  · exact (congrArg (fun v : State => (v.withLogOf s).setTills s.tills) hlog :).trans
      (congrArg (fun v : State => v.withLogOf s) hput :)

theorem State.tillSilence_of_none (h : s.till n = none) : s.tillSilence n = s := by
  unfold State.tillSilence
  rw [h]

theorem State.tillSilence_of_some (he : s.till n = some e) :
    s.tillSilence n = if e.phase = .signedOn ∧ e.lastHeard + 900000 ≤ s.now then s.endTill n e else s := by
  unfold State.tillSilence
  rw [he]

/-- The state that a command has been shown to lead to, with what is known of it. -/
theorem next_of_eq {x : State} {o : Host.Outcome State Fault Refusal} {P : State → Prop} (ho : o = .next x)
    (h : ∃ t, x = t ∧ P t) : ∃ t, o = .next t ∧ P t := by
  obtain ⟨t, rfl, ht⟩ := h
  exact ⟨x, ho, ht⟩

/-- Settles O38: the three commands by what the entry of the till id holds. -/
theorem tillSigns : Obligations.TillSigns := by
  unfold Obligations.TillSigns
  refine ⟨fun s f rest hs hin hm => ?_, fun s f rest hs hin hm => ?_, fun n s hs => ?_⟩
  · have hnext := exec_signOn hs hin hm
    refine ⟨fun hbad => next_of_eq hnext ?_, fun e he => ⟨fun hp hst => next_of_eq hnext ?_,
      fun hp hst => next_of_eq hnext ?_, fun hp => next_of_eq hnext ?_⟩⟩
    · rw [State.takeSignOn_badTill (s := s.dropTillFrame rest) (State.till_none_of_range hbad)]
      exact answered_unchanged s rest f.port f.source .signOnAnswer f.till _
    · rw [State.takeSignOn_clash (s := s.dropTillFrame rest) he hp hst]
      exact answered_unchanged s rest f.port f.source .signOnAnswer f.till _
    · rw [State.takeSignOn_refreshed (s := s.dropTillFrame rest) he hp hst, State.mark_heard]
      exact answered_entry he rest _ f.port f.source .signOnAnswer f.till _
    · rw [State.takeSignOn_free (s := s.dropTillFrame rest) he hp, State.mark_heard]
      exact posted_and_answered hs.2.1.1 he rest (e.bind f s.now) .tillSignedOn f.till (Port.index f.port) f.port f.source
        .signOnAnswer f.till _
  · have hnext := exec_signOff hs hin hm
    refine ⟨fun hbad => next_of_eq hnext ?_, fun e he => ⟨fun hp => next_of_eq hnext ?_,
      fun hp hst => next_of_eq hnext ?_, fun hp hst => next_of_eq hnext ?_⟩⟩
    · rw [State.takeSignOff_badTill (s := s.dropTillFrame rest) (State.till_none_of_range hbad)]
      exact answered_unchanged s rest f.port f.source .signOffAnswer f.till _
    · rw [State.takeSignOff_unmatched (s := s.dropTillFrame rest) he (.inl hp), if_neg hp]
      exact answered_unchanged s rest f.port f.source .signOffAnswer f.till _
    · rw [State.takeSignOff_unmatched (s := s.dropTillFrame rest) he (.inr hst), if_pos hp]
      exact answered_unchanged s rest f.port f.source .signOffAnswer f.till _
    · rw [State.takeSignOff_matched (s := s.dropTillFrame rest) he hp hst]
      exact posted_and_answered hs.2.1.1 he rest { e with phase := .signedOff, lastHeard := s.now, port := some f.port }
        .tillSignedOff f.till e.quotes.toNat f.port f.source .signOffAnswer f.till _
  · have hnext := exec_tillSilenceExpiry hs n
    refine ⟨fun hnone => by rw [hnext, State.tillSilence_of_none hnone], fun e he => ⟨fun hquiet => ?_, fun hp hlate => ?_⟩⟩
    · rw [hnext, State.tillSilence_of_some he, if_neg (fun ⟨h1, h2⟩ => hquiet.elim (· h1) (by omega))]
    · refine next_of_eq hnext ⟨_, rfl, ?_⟩
      rw [State.tillSilence_of_some he, if_pos ⟨hp, hlate⟩]
      exact endTill_spec hs.2.1.1 he

/-! ### SALE_PUT (R52-R55) -/

section
variable {basket day ms total lineCount : Nat} {lines : List SaleLine}

theorem SaleLine.inForm_iff (l : SaleLine) : l.inForm = true ↔ 1 ≤ l.article ∧ l.article ≤ 99999999999999
    ∧ 1 ≤ l.quantity ∧ l.quantity ≤ 99999 ∧ l.amount ≤ 99999999 ∧ l.basis ≤ 1 := by
  simp only [SaleLine.inForm, Bool.and_eq_true, decide_eq_true_eq, and_assoc]
  exact Iff.rfl

theorem saleInForm_iff : saleInForm basket ms lineCount lines = true ↔ 1 ≤ basket ∧ 1 ≤ lineCount
    ∧ lineCount ≤ lines.length ∧ ms < 86400000 ∧ ∀ l ∈ lines, 1 ≤ l.article ∧ l.article ≤ 99999999999999
      ∧ 1 ≤ l.quantity ∧ l.quantity ≤ 99999 ∧ l.amount ≤ 99999999 ∧ l.basis ≤ 1 := by
  simp only [saleInForm, Bool.and_eq_true, decide_eq_true_eq, and_assoc, List.all_eq_true, SaleLine.inForm_iff]
  exact Iff.rfl

theorem exec_salePut (hs : s.Sound) (hin : s.tills.inbox = f :: rest)
    (hm : f.message = .salePut basket day ms total lineCount lines) :
    exec .salePut s = .next ((s.dropTillFrame rest).takeSale f basket day ms total lineCount lines) := by
  refine powered_next hs.1 ?_
  rw [hin]
  dsimp only
  rw [hm]

theorem State.takeSale_badForm (h : saleInForm basket ms lineCount lines = false) :
    s.takeSale f basket day ms total lineCount lines = s.answerSale f basket .badForm 0 := by
  unfold State.takeSale
  rw [h]
  rfl

theorem State.takeSale_unmatched (h : saleInForm basket ms lineCount lines = true) (hno : s.matchTill f = none) :
    s.takeSale f basket day ms total lineCount lines = s.answerSale f basket .notSignedOn 0 := by
  unfold State.takeSale
  rw [h, hno]
  rfl

/-- The sale context kept for the answer (R55). -/
abbrev TillFrame.context (f : TillFrame) (basket : Nat) : SaleContext :=
  { basket := basket, station := f.source, port := f.port }

section
variable (h : saleInForm basket ms lineCount lines = true) (hmatch : s.matchTill f = some (u, e))
include h hmatch

theorem State.takeSale_inFlight {ctx : SaleContext} (hctx : e.inFlight = some ctx) :
    s.takeSale f basket day ms total lineCount lines = if ctx.basket = basket then u else u.answerSale f basket .hold 0 := by
  unfold State.takeSale
  rw [h, hmatch]
  dsimp only
  rw [hctx]
  rfl

theorem State.takeSale_byMark (hctx : e.inFlight = none) :
    s.takeSale f basket day ms total lineCount lines =
      if basket = (u.mark f.till).1 then u.answerSale f basket .duplicate (u.mark f.till).2
      else if basket < (u.mark f.till).1 then u.answerSale f basket .outOfOrder 0
      else (u.putTill f.till { e with inFlight := some (f.context basket) }).handOver
        { till := f.till, basket := basket, day := day, ms := ms, total := total, lines := lines } := by
  unfold State.takeSale
  rw [h, hmatch]
  dsimp only
  rw [hctx]
  rfl

end

theorem State.handOver_eq (s : State) (sale : Sale) : s.handOver sale = s.setJournal (if s.journal.append = none then
    { s.journal with append := some { sale := sale, started := false, reserved := 0 } }
    else { s.journal with queue := s.journal.queue ++ [sale] }) := by
  unfold State.handOver
  cases h : s.journal.append with
  | none => rw [if_pos rfl]
  | some a => rw [if_neg (Option.some_ne_none a)]

/-- An entry replaced, the front of the inbox taken, and a sale handed over. -/
theorem handedOver (he : s.till n = some e) (rest : List TillFrame) (x : TillEntry) (sale : Sale) :
    ∃ t, ((s.dropTillFrame rest).putTill n x).handOver sale = t ∧ TillEntryIs s t rest n x
      ∧ (t.journal = if s.journal.append = none then
          { s.journal with append := some { sale := sale, started := false, reserved := 0 } }
        else { s.journal with queue := s.journal.queue ++ [sale] })
      ∧ (t.setTills s.tills).setJournal s.journal = s := by
  have hheard := s.heard_frame rest n x
  have hjournal : ((s.dropTillFrame rest).putTill n x).journal = s.journal := (congrArg State.journal hheard :)
  refine ⟨_, rfl, .putTill he ?_, ?_, ?_⟩
  · rw [State.handOver_eq]
    rfl
  · rw [State.handOver_eq, hjournal]
    rfl
  · rw [State.handOver_eq]
    exact (congrArg (fun v : State => v.setJournal s.journal) hheard :)

/-- Settles O40: SALE_PUT by its checks in order. -/
theorem saleTaken : Obligations.SaleTaken := by
  unfold Obligations.SaleTaken
  refine ⟨fun basket ms n lines => saleInForm_iff, fun s f rest basket day ms total n lines hs hin hm => ?_⟩
  have hnext := exec_salePut hs hin hm
  refine ⟨fun hbad => next_of_eq hnext ?_, fun hform => ⟨fun hno => next_of_eq hnext ?_, fun e he hp hst => ?_⟩⟩
  · rw [State.takeSale_badForm hbad]
    exact answered_unchanged s rest f.port f.source .saleAck f.till _
  · rw [State.takeSale_unmatched hform (State.matchTill_none (s := s.dropTillFrame rest) hno)]
    exact answered_unchanged s rest f.port f.source .saleAck f.till _
  · have hmatch := State.matchTill_some (s := s.dropTillFrame rest) he hp hst
    refine ⟨fun ctx hctx hsame => next_of_eq hnext ?_, fun ctx hctx hother => next_of_eq hnext ?_,
      fun hfree hdup => next_of_eq hnext ?_, fun hfree hlow => next_of_eq hnext ?_, fun hfree hhigh => next_of_eq hnext ?_⟩
    · rw [State.takeSale_inFlight hform hmatch hctx, if_pos hsame]
      exact ⟨_, rfl, .putTill he rfl, s.heard_frame rest f.till _⟩
    · rw [State.takeSale_inFlight hform hmatch hctx, if_neg hother]
      exact answered_entry he rest _ f.port f.source .saleAck f.till _
    · rw [State.takeSale_byMark hform hmatch hfree, State.mark_heard, if_pos hdup]
      exact answered_entry he rest _ f.port f.source .saleAck f.till _
    · rw [State.takeSale_byMark hform hmatch hfree, State.mark_heard, if_neg (by omega), if_pos hlow]
      exact answered_entry he rest _ f.port f.source .saleAck f.till _
    · rw [State.takeSale_byMark hform hmatch hfree, State.mark_heard, if_neg (by omega), if_neg (by omega),
        State.putTill_putTill]
      exact handedOver he rest _ _

end

end Sys2Proof.Machine
end

section
/-! PROOFS. Bytes of the backed SRAM (R58-R60, R207): an entry, a mark and a header written are read back, and leave the rest. -/

namespace Sys2Proof.Machine

variable {m : Memory}

/-! ### Pieces written (R58) -/

theorem applyWrites_pieces (m : Memory) (ps : List (Nat × List Byte)) :
    applyWrites m (ps.map (fun p => .piece p.1 p.2)) = piecesWritten m ps := List.foldl_map

theorem piecesWritten_wf (ps : List (Nat × List Byte)) (h : m.wf) : (piecesWritten m ps).wf := by
  induction ps generalizing m with
  | nil => exact h
  | cons p ps ih => exact ih (Memory.writeBytes_wf _ _ h)

theorem piecesWritten_outside (m : Memory) (ps : List (Nat × List Byte)) {x : Nat}
    (h : ∀ p ∈ ps, x < p.1 ∨ p.1 + p.2.length ≤ x) : (piecesWritten m ps).read x = m.read x := by
  induction ps generalizing m with
  | nil => rfl
  | cons p ps ih =>
    exact (ih (m.writeBytes p.1 p.2) (fun q hq => h q (List.mem_cons_of_mem _ hq))).trans
      (Memory.read_writeBytes_outside m p.2 (h p List.mem_cons_self))

/-- A piece is read back whole while none of the pieces written with it overlaps it. -/
theorem piecesWritten_readBack {ps : List (Nat × List Byte)} (hw : m.wf) (hd : ps.Pairwise Apart) {p : Nat × List Byte}
    (hp : p ∈ ps) : (piecesWritten m ps).readBytes p.1 p.2.length = p.2 := by
  induction ps generalizing m with
  | nil => cases hp
  | cons q ps ih =>
    obtain ⟨hq, hps⟩ := List.pairwise_cons.mp hd
    rcases List.mem_cons.mp hp with rfl | hp
    · refine (Memory.readBytes_congr fun x h1 h2 => ?_).trans (Memory.readBytes_writeBytes p.1 p.2 hw)
      refine piecesWritten_outside (m.writeBytes p.1 p.2) ps fun r hr => ?_
      rcases hq r hr with h | h
      · exact .inl (by omega)
      · exact .inr (by omega)
    · exact ih (Memory.writeBytes_wf _ _ hw) hps hp

/-! ### Header copies (R59) -/

/-- The fields of a header copy before its CRC, each with its width. -/
def Header.fields (h : Header) : List (Nat × Nat) :=
  [(4, Config.formatMark.toNat), (4, h.generation), (4, h.head), (4, h.acked), (4, h.next), (1, h.fresh.toNat), (39, 0)]

theorem Header.bytes_eq (h : Header) : h.bytes = packed h.fields ++ leBytes 4 (crc32 (packed h.fields)).toNat := by
  simp only [Header.bytes, Header.fields, packed, List.flatMap_cons, List.flatMap_nil, List.append_nil, List.append_assoc,
    leBytes_zero]

theorem Header.bytes_length (h : Header) : h.bytes.length = 64 := by
  rw [h.bytes_eq, List.length_append, packed_length, leBytes_length]
  rfl

theorem wordField (c : Word) : BitVec.ofNat 32 (c.toNat % 256 ^ 4) = c := by
  apply BitVec.eq_of_toNat_eq
  have := c.isLt
  rw [BitVec.toNat_ofNat]
  omega

/-- A header copy within its fields' widths is valid and read back as it was written. -/
theorem Header.ofBytes_bytes {h : Header} (hg : h.generation < 4294967296) (hh : h.head < 114688) (ha : h.acked < h.next)
    (hn : h.next < 4294967296) : Header.ofBytes h.bytes = some h := by
  have htake : h.bytes.take 60 = packed h.fields := by
    rw [h.bytes_eq]
    exact List.take_left' (packed_length _)
  have hfields : FieldsAre h.bytes (placed 0 (h.fields ++ [(4, (crc32 (packed h.fields)).toNat)])) := by
    have hall : h.bytes = packed (h.fields ++ [(4, (crc32 (packed h.fields)).toNat)]) := by
      rw [packed_append, h.bytes_eq]
      simp [packed]
    rw [hall]
    exact fieldsAre_of_packed rfl
  simp only [Header.fields, List.cons_append, List.nil_append, placed, FieldsAre, List.forall_mem_cons] at hfields
  obtain ⟨hmark, hgen, hhead, hacked, hnext, hfresh, -, hcrc, -⟩ := hfields
  have hsum : BitVec.ofNat 32 (leField h.bytes 60 4) = crc32 (packed h.fields) := (congrArg _ hcrc).trans (wordField _)
  unfold Header.ofBytes
  rw [htake, hsum, hmark, hgen, hhead, hacked, hnext, hfresh, wordField, if_neg (not_not_intro rfl),
    if_neg (not_not_intro rfl)]
  have hfit : ∀ v : Nat, v < 4294967296 → v % 256 ^ 4 = v := fun v hv => Nat.mod_eq_of_lt hv
  have hbit : ((h.fresh.toNat % 256 ^ 1 == 1) = h.fresh) := by cases h.fresh <;> rfl
  rw [hfit _ hg, hfit _ (by omega), hfit _ (by omega), hfit _ hn, hbit]
  exact if_pos ⟨hh, ha⟩

/-- The header copy that a memory holds in a place, if it is valid there. -/
def headerAt (m : Memory) (copy : Nat) : Option Header := Header.ofBytes (m.readBytes (headerAddr copy) 64)

theorem newestHeader_of_none {copy : Nat} {h : Header} (hc : copy ≤ 1) (hh : headerAt m copy = some h)
    (ho : headerAt m (1 - copy) = none) : newestHeader m = some (h, copy) := by
  unfold headerAt at hh ho
  unfold newestHeader
  rcases (by omega : copy = 0 ∨ copy = 1) with rfl | rfl
  · rw [hh, ho]
  · rw [hh, ho]

theorem newestHeader_of_newer {copy : Nat} {h o : Header} (hc : copy ≤ 1) (hh : headerAt m copy = some h)
    (ho : headerAt m (1 - copy) = some o) (hnew : newerGeneration h.generation o.generation = true)
    (hold : newerGeneration o.generation h.generation = false) : newestHeader m = some (h, copy) := by
  unfold headerAt at hh ho
  unfold newestHeader
  rcases (by omega : copy = 0 ∨ copy = 1) with rfl | rfl
  · rw [hh, ho]
    dsimp only
    rw [hold]
    rfl
  · rw [hh, ho]
    dsimp only
    rw [hnew]
    rfl

theorem newestHeader_some {copy : Nat} {h : Header} (hm : newestHeader m = some (h, copy)) :
    copy ≤ 1 ∧ headerAt m copy = some h := by
  unfold newestHeader at hm
  split at hm
  · cases hm
  next h0 h1 => cases hm; exact ⟨Nat.zero_le 1, h0⟩
  next h0 h1 => cases hm; exact ⟨le_rfl, h1⟩
  next h0 h1 =>
    split at hm
    · cases hm; exact ⟨le_rfl, h1⟩
    · cases hm; exact ⟨Nat.zero_le 1, h0⟩

theorem newestHeader_none (hm : newestHeader m = none) (copy : Nat) (hc : copy ≤ 1) : headerAt m copy = none := by
  unfold newestHeader at hm
  split at hm
  next h0 h1 => rcases (by omega : copy = 0 ∨ copy = 1) with rfl | rfl; exacts [h0, h1]
  · cases hm
  · cases hm
  · split at hm
    · cases hm
    · cases hm

/-- The generation after a generation is the newer of the two, modulo 4,294,967,296. -/
theorem newerGeneration_succ (g : Nat) : newerGeneration ((g + 1) % 4294967296) g = true
    ∧ newerGeneration g ((g + 1) % 4294967296) = false := by
  simp only [newerGeneration, Bool.and_eq_true, Bool.and_eq_false_iff, decide_eq_true_eq, decide_eq_false_iff_not]
  omega

theorem headerAt_written (hw : m.wf) {h : Header} (copy : Nat) (hh : Header.ofBytes h.bytes = some h) :
    headerAt (m.writeBytes (headerAddr copy) h.bytes) copy = some h := by
  have hback := Memory.readBytes_writeBytes (headerAddr copy) h.bytes hw
  rw [h.bytes_length] at hback
  unfold headerAt
  rw [hback, hh]

theorem headerAt_other {copy : Nat} (hc : copy ≤ 1) (m : Memory) (h : Header) :
    headerAt (m.writeBytes (headerAddr copy) h.bytes) (1 - copy) = headerAt m (1 - copy) := by
  unfold headerAt
  rw [Memory.readBytes_writeBytes_outside]
  rw [h.bytes_length]
  unfold headerAddr
  omega

/-- A header write is one piece, below the marks and the journal area. -/
theorem headerWrite_piece (m : Memory) (head acked next : Nat) (fresh : Bool) : ∃ copy g, copy ≤ 1 ∧ g < 4294967296
    ∧ headerWrite m head acked next fresh = .piece (headerAddr copy)
        (Header.bytes { generation := g, head := head, acked := acked, next := next, fresh := fresh })
    ∧ ∀ h k, newestHeader m = some (h, k) → copy = 1 - k ∧ g = (h.generation + 1) % 4294967296 := by
  unfold headerWrite
  cases hm : newestHeader m with
  | none => exact ⟨0, 1, by omega, by omega, rfl, nofun⟩
  | some x =>
    obtain ⟨o, k⟩ := x
    exact ⟨1 - k, (o.generation + 1) % 4294967296, by omega, by omega, rfl, fun h k hx => by cases hx; exact ⟨rfl, rfl⟩⟩

/-- The newest header after a header write holds what was written. -/
theorem HeaderHolds.headerWrite (hw : m.wf) {head acked next : Nat} (fresh : Bool) (hh : head < 114688) (ha : acked < next)
    (hn : next < 4294967296) : HeaderHolds ((headerWrite m head acked next fresh).apply m) head acked next fresh := by
  obtain ⟨copy, g, hc, hg, hpiece, hafter⟩ := headerWrite_piece m head acked next fresh
  rw [hpiece]
  have hnew := headerAt_written hw copy (Header.ofBytes_bytes
    (h := { generation := g, head := head, acked := acked, next := next, fresh := fresh }) hg hh ha hn)
  have hother := headerAt_other hc m { generation := g, head := head, acked := acked, next := next, fresh := fresh }
  refine ⟨g, copy, ?_⟩
  cases hm : newestHeader m with
  | none => exact newestHeader_of_none hc hnew (hother.trans (newestHeader_none hm _ (by omega)))
  | some x =>
    obtain ⟨o, k⟩ := x
    obtain ⟨hk, hold⟩ := newestHeader_some hm
    obtain ⟨rfl, rfl⟩ := hafter o k hm
    obtain ⟨h1, h2⟩ := newerGeneration_succ o.generation
    have hback : 1 - (1 - k) = k := by omega
    rw [hback] at hother
    exact newestHeader_of_newer hc hnew (by rw [hback]; exact hother.trans hold) h1 h2

/-! ### Entries (R60, R207) -/

section
variable {unit sequence : Nat} {sale : Sale}

/-- The fields of an entry's first unit before its CRC, each with its width. -/
def entryFields (sequence : Nat) (s : Sale) : List (Nat × Nat) :=
  [(4, sequence), (4, s.basket), (4, s.total), (4, s.ms), (2, s.day), (1, s.till), (1, s.lines.length), (40, 0)]

theorem entryHead_eq (sequence : Nat) (s : Sale) : entryHead sequence s = packed (entryFields sequence s) := by
  simp only [entryHead, entryFields, packed, List.flatMap_cons, List.flatMap_nil, List.append_nil, List.append_assoc,
    leBytes_zero]

theorem entryHead_length (sequence : Nat) (s : Sale) : (entryHead sequence s).length = 60 := by
  rw [entryHead_eq, packed_length]
  rfl

theorem SaleLine.stored_length (l : SaleLine) : l.stored.length = 32 := by simp [SaleLine.stored, zeros]

theorem lineUnits_length (ls : List SaleLine) : (lineUnits ls).length = (ls.length + 1) / 2 := by
  induction ls using lineUnits.induct with
  | case1 => rfl
  | case2 a => simp [lineUnits]
  | case3 a b rest ih =>
    rw [lineUnits, List.length_cons, ih]
    simp only [List.length_cons]
    omega

theorem lineUnits_unit {ls : List SaleLine} {b : List Byte} (h : b ∈ lineUnits ls) : b.length = 64 := by
  induction ls using lineUnits.induct with
  | case1 => cases h
  | case2 a =>
    obtain rfl := List.mem_singleton.mp h
    simp [SaleLine.stored_length, zeros]
  | case3 a c rest ih =>
    rcases List.mem_cons.mp h with rfl | h
    · simp [SaleLine.stored_length]
    · exact ih h

/-- The CRC of an entry (R207). -/
abbrev entryCrc (sequence : Nat) (s : Sale) : Word := crc32 (entryHead sequence s ++ (lineUnits s.lines).flatten)

theorem entryUnits_eq (sequence : Nat) (s : Sale) : entryUnits sequence s =
    (entryHead sequence s ++ leBytes 4 (entryCrc sequence s).toNat) :: lineUnits s.lines := rfl

theorem entryUnits_length (sequence : Nat) (s : Sale) : (entryUnits sequence s).length = unitsFor s.lines.length := by
  rw [entryUnits_eq, List.length_cons, lineUnits_length, unitsFor, Nat.add_comm]

theorem entryUnits_unit {b : List Byte} (h : b ∈ entryUnits sequence sale) : b.length = 64 := by
  rw [entryUnits_eq] at h
  rcases List.mem_cons.mp h with rfl | h
  · rw [List.length_append, entryHead_length, leBytes_length]
  · exact lineUnits_unit h

/-! ### The units of an entry in the journal area (R58, R65) -/

theorem unitAddr_apart {u v : Nat} (h : u % 114688 ≠ v % 114688) :
    unitAddr u + 64 ≤ unitAddr v ∨ unitAddr v + 64 ≤ unitAddr u := by
  unfold unitAddr journalUnits
  omega

theorem unitAddr_ge (u : Nat) : 0x100000 ≤ unitAddr u := Nat.le_add_right ..

/-- The units of an entry, each with its address. -/
def entryPieces (unit sequence : Nat) (s : Sale) : List (Nat × List Byte) :=
  (entryUnits sequence s).zipIdx.map (fun u => (unitAddr (unit + u.2), u.1))

theorem mem_entryPieces {p : Nat × List Byte} : p ∈ entryPieces unit sequence sale ↔
    ∃ k, (entryUnits sequence sale)[k]? = some p.2 ∧ p.1 = unitAddr (unit + k) := by
  unfold entryPieces
  rw [List.mem_map]
  constructor
  · rintro ⟨⟨b, k⟩, hk, rfl⟩
    exact ⟨k, List.mem_zipIdx_iff_getElem?.mp hk, rfl⟩
  · rintro ⟨k, hk, hp⟩
    exact ⟨(p.2, k), List.mem_zipIdx_iff_getElem?.mpr hk, by rw [← hp]⟩

theorem entryPieces_length {p : Nat × List Byte} (h : p ∈ entryPieces unit sequence sale) : p.2.length = 64 := by
  obtain ⟨k, hk, -⟩ := mem_entryPieces.mp h
  exact entryUnits_unit (List.mem_of_getElem? hk)

theorem entryPieces_apart (h : sale.lines.length ≤ 255) : (entryPieces unit sequence sale).Pairwise Apart := by
  have hlen := entryUnits_length sequence sale
  have hunit : ∀ b ∈ entryUnits sequence sale, b.length = 64 := fun b hb => entryUnits_unit hb
  generalize hus : entryUnits sequence sale = us at hlen hunit
  unfold unitsFor at hlen
  unfold entryPieces
  rw [hus, List.pairwise_map, List.pairwise_iff_getElem]
  intro i j hi hj hij
  rw [List.length_zipIdx] at hi hj
  rw [List.getElem_zipIdx, List.getElem_zipIdx]
  unfold Apart
  rw [hunit _ (List.getElem_mem _), hunit _ (List.getElem_mem _)]
  exact unitAddr_apart (by omega)

/-- The writes of an entry are its units, the first of them last (R65). -/
theorem entryWrites_perm (unit sequence : Nat) (sale : Sale) : ∃ ps : List (Nat × List Byte),
    entryWrites unit sequence sale = ps.map (fun p => .piece p.1 p.2) ∧ ps.Perm (entryPieces unit sequence sale) := by
  have hmap : (entryUnits sequence sale).zipIdx.map (fun u => BackedWrite.piece (unitAddr (unit + u.2)) u.1)
      = (entryPieces unit sequence sale).map (fun p => .piece p.1 p.2) := by
    unfold entryPieces
    rw [List.map_map]
    rfl
  unfold entryWrites
  rw [hmap]
  cases entryPieces unit sequence sale with
  | nil => exact ⟨[], rfl, .refl _⟩
  | cons p ps => exact ⟨ps ++ [p], by simp, List.perm_append_singleton p ps⟩

/-- An entry stands in the journal area from a unit on, each of its units as R207 has it. -/
def EntryStored (m : Memory) (unit sequence : Nat) (sale : Sale) : Prop :=
  ∀ k b, (entryUnits sequence sale)[k]? = some b → m.readBytes (unitAddr (unit + k)) 64 = b

theorem unitBytes_eq {us : List (List Byte)} (h : ∀ k b, us[k]? = some b → m.readBytes (unitAddr (unit + k)) 64 = b) :
    unitBytes m unit us.length = us.flatten := by
  induction us generalizing unit with
  | nil => rfl
  | cons b us ih =>
    have hfirst : m.readBytes (unitAddr unit) 64 = b := h 0 b rfl
    rw [List.length_cons, unitBytes, hfirst, List.flatten_cons]
    refine congrArg _ (ih fun k c hk => ?_)
    rw [Nat.add_assoc, Nat.add_comm 1 k]
    exact h (k + 1) c hk

/-- The walk of the scan accepts an entry that stands in the area, at its unit and with its sequence (R73). -/
theorem EntryStored.accepted (h : EntryStored m unit sequence sale) (ht1 : 1 ≤ sale.till) (ht : sale.till ≤ 64)
    (hb : sale.basket < 4294967296) (hn : sequence < 4294967296) (hl1 : 1 ≤ sale.lines.length)
    (hl : sale.lines.length ≤ 255) : acceptEntry m unit sequence 0 =
      some { till := sale.till, basket := sale.basket, sequence := sequence, units := unitsFor sale.lines.length } := by
  obtain ⟨first, hfirst⟩ : ∃ first, first = packed (entryFields sequence sale ++ [(4, (entryCrc sequence sale).toNat)]) :=
    ⟨_, rfl⟩
  have hread : m.readBytes (unitAddr unit) 64 = first := by
    rw [hfirst, packed_append, ← entryHead_eq]
    simpa [packed] using h 0 _ rfl
  have htake : first.take 60 = entryHead sequence sale := by
    rw [hfirst, packed_append, ← entryHead_eq]
    exact List.take_left' (entryHead_length ..)
  have hrest : unitBytes m (unit + 1) (unitsFor sale.lines.length - 1) = (lineUnits sale.lines).flatten := by
    rw [show unitsFor sale.lines.length - 1 = (lineUnits sale.lines).length by rw [lineUnits_length, unitsFor]; omega]
    refine unitBytes_eq fun k b hk => ?_
    rw [Nat.add_assoc, Nat.add_comm 1 k]
    exact h (k + 1) b hk
  have hfields : FieldsAre first (placed 0 (entryFields sequence sale ++ [(4, (entryCrc sequence sale).toNat)])) := by
    rw [hfirst]
    exact fieldsAre_of_packed rfl
  simp only [entryFields, List.cons_append, List.nil_append, placed, FieldsAre, List.forall_mem_cons] at hfields
  obtain ⟨hsequence, hbasket, -, -, -, htill, hcount, -, hcrc, -⟩ := hfields
  have hn' : leField first 19 1 = sale.lines.length := hcount.trans (Nat.mod_eq_of_lt (by omega))
  have ht' : leField first 18 1 = sale.till := htill.trans (Nat.mod_eq_of_lt (by omega))
  have hb' : leField first 4 4 = sale.basket := hbasket.trans (Nat.mod_eq_of_lt hb)
  have hs' : leField first 0 4 = sequence := hsequence.trans (Nat.mod_eq_of_lt hn)
  have hc' : BitVec.ofNat 32 (leField first 60 4) = entryCrc sequence sale := (congrArg _ hcrc).trans (wordField _)
  have hunits : ¬ journalUnits < 0 + unitsFor sale.lines.length := by unfold journalUnits unitsFor; omega
  unfold acceptEntry
  rw [hread]
  dsimp only
  rw [hn', ht', hb', hs', hc', htake]
  rw [hrest, if_neg (by omega), if_neg (not_not_intro rfl)]

end

/-! ### An append made whole (R65) -/

section
variable {j : Journal} {sale : Sale}

theorem markBytes_length (basket sequence : Nat) : (markBytes basket sequence).length = 16 := by simp [markBytes, zeros]

/-- A till's mark as a piece. -/
abbrev markPiece (till basket sequence : Nat) : Nat × List Byte := (markAddr till, markBytes basket sequence)

/-- An append writes its entry's units and its till's mark, in some order. -/
theorem Journal.appendWrites_perm (j : Journal) (sale : Sale) : ∃ ps : List (Nat × List Byte),
    j.appendWrites sale = ps.map (fun p => .piece p.1 p.2)
      ∧ ps.Perm (entryPieces j.tail j.next sale ++ [markPiece sale.till sale.basket j.next]) := by
  obtain ⟨ps, hps, hperm⟩ := entryWrites_perm j.tail j.next sale
  refine ⟨ps ++ [markPiece sale.till sale.basket j.next], ?_, hperm.append_right _⟩
  unfold Journal.appendWrites
  rw [hps, List.map_append]
  rfl

theorem Journal.appended_def (j : Journal) (m : Memory) (sale : Sale) : j.appended m sale =
    (headerWrite (applyWrites m (j.appendWrites sale)) j.head j.acked (j.next + 1) j.fresh).apply
      (applyWrites m (j.appendWrites sale)) := rfl

/-- An append writes its entry and its mark, and then one header copy. -/
theorem Journal.appended_eq (j : Journal) (m : Memory) (sale : Sale) : ∃ ps copy h,
    ps.Perm (entryPieces j.tail j.next sale ++ [markPiece sale.till sale.basket j.next]) ∧ copy ≤ 1
      ∧ j.appended m sale = (piecesWritten m ps).writeBytes (headerAddr copy) (Header.bytes h) := by
  obtain ⟨ps, hps, hperm⟩ := j.appendWrites_perm sale
  obtain ⟨copy, g, hc, -, hpiece, -⟩ := headerWrite_piece (piecesWritten m ps) j.head j.acked (j.next + 1) j.fresh
  refine ⟨ps, copy, { generation := g, head := j.head, acked := j.acked, next := j.next + 1, fresh := j.fresh }, hperm, hc, ?_⟩
  rw [j.appended_def, hps, applyWrites_pieces, hpiece]
  rfl

theorem Journal.appended_header (hw : m.wf) (hh : j.head < 114688) (ha : j.acked < j.next) (hn : j.next < 4294967295) :
    HeaderHolds (j.appended m sale) j.head j.acked (j.next + 1) j.fresh := by
  obtain ⟨ps, hps, -⟩ := j.appendWrites_perm sale
  rw [j.appended_def, hps, applyWrites_pieces]
  exact .headerWrite (piecesWritten_wf ps hw) j.fresh hh (by omega) (by omega)

theorem headerAddr_lt {copy : Nat} (hc : copy ≤ 1) (h : Header) : headerAddr copy + h.bytes.length ≤ 128 := by
  rw [h.bytes_length]
  unfold headerAddr
  omega

/-- An append leaves every byte outside the headers, its till's mark and its own units. -/
theorem Journal.appended_outside (j : Journal) (m : Memory) (sale : Sale) {x : Nat} (hx : 128 ≤ x)
    (hmark : x < markAddr sale.till ∨ markAddr sale.till + 16 ≤ x)
    (hunits : ∀ k, k < unitsFor sale.lines.length → x < unitAddr (j.tail + k) ∨ unitAddr (j.tail + k) + 64 ≤ x) :
    (j.appended m sale).read x = m.read x := by
  obtain ⟨ps, copy, h, hperm, hc, hall⟩ := j.appended_eq m sale
  have hhead := headerAddr_lt hc h
  rw [hall, Memory.read_writeBytes_outside _ _ (.inr (by omega))]
  refine piecesWritten_outside m ps fun p hp => ?_
  rcases List.mem_append.mp (hperm.mem_iff.mp hp) with hp | hp
  · obtain ⟨k, hk, hpk⟩ := mem_entryPieces.mp hp
    rw [hpk, entryPieces_length hp]
    exact hunits k (entryUnits_length j.next sale ▸ (List.getElem?_eq_some_iff.mp hk).1)
  · obtain rfl := List.mem_singleton.mp hp
    rwa [markBytes_length]

theorem Journal.appended_readBack (hw : m.wf) (ht1 : 1 ≤ sale.till) (ht : sale.till ≤ 64) (hl : sale.lines.length ≤ 255)
    {p : Nat × List Byte} (hp : p ∈ entryPieces j.tail j.next sale ++ [markPiece sale.till sale.basket j.next]) :
    (j.appended m sale).readBytes p.1 p.2.length = p.2 := by
  have hmark : 128 ≤ markAddr sale.till ∧ markAddr sale.till + 16 ≤ 0x100000 := by unfold markAddr; omega
  have hentry : ∀ q ∈ entryPieces j.tail j.next sale, 0x100000 ≤ q.1 := fun q hq => by
    obtain ⟨k, -, hk⟩ := mem_entryPieces.mp hq
    exact hk ▸ unitAddr_ge _
  have happart : (entryPieces j.tail j.next sale ++ [markPiece sale.till sale.basket j.next]).Pairwise Apart := by
    refine List.pairwise_append.mpr ⟨entryPieces_apart hl, List.pairwise_singleton .., fun q hq r hr => ?_⟩
    obtain rfl := List.mem_singleton.mp hr
    have hq := hentry q hq
    exact .inr (show markAddr sale.till + (markBytes sale.basket j.next).length ≤ q.1 by rw [markBytes_length]; omega)
  have hlow : 128 ≤ p.1 := by
    rcases List.mem_append.mp hp with hp | hp
    · have := hentry p hp
      omega
    · obtain rfl := List.mem_singleton.mp hp
      exact hmark.1
  obtain ⟨ps, copy, h, hperm, hc, hall⟩ := j.appended_eq m sale
  have hhead := headerAddr_lt hc h
  rw [hall, Memory.readBytes_writeBytes_outside _ _ (.inr (by omega))]
  exact piecesWritten_readBack hw ((hperm.pairwise_iff fun hab => hab.symm).mpr happart) (hperm.mem_iff.mpr hp)

theorem Journal.appended_entry (hw : m.wf) (ht1 : 1 ≤ sale.till) (ht : sale.till ≤ 64) (hl : sale.lines.length ≤ 255) :
    EntryStored (j.appended m sale) j.tail j.next sale := by
  intro k b hk
  have hp : (unitAddr (j.tail + k), b) ∈ entryPieces j.tail j.next sale := mem_entryPieces.mpr ⟨k, hk, rfl⟩
  have hback := Journal.appended_readBack hw ht1 ht hl (List.mem_append_left _ hp)
  rwa [entryPieces_length hp] at hback

end

/-! ### Marks (R63) -/

section
variable {j : Journal} {sale : Sale} {s t : State}

theorem markBytes_fields (basket sequence : Nat) : leField (markBytes basket sequence) 0 4 = basket % 4294967296
    ∧ leField (markBytes basket sequence) 4 4 = sequence % 4294967296 := by
  have hall : markBytes basket sequence = packed [(4, basket), (4, sequence), (4, 0),
      (4, (crc32 (leBytes 4 basket ++ leBytes 4 sequence ++ zeros 4)).toNat)] := by
    simp only [markBytes, packed, List.flatMap_cons, List.flatMap_nil, List.append_nil, List.append_assoc, leBytes_zero]
  have hfields := fieldsAre_of_packed (fs := [(4, basket), (4, sequence), (4, 0),
    (4, (crc32 (leBytes 4 basket ++ leBytes 4 sequence ++ zeros 4)).toNat)]) rfl
  rw [← hall] at hfields
  exact ⟨hfields (0, 4, basket) (.head _), hfields (4, 4, sequence) (.tail _ (.head _))⟩

theorem State.mark_appended_same (hw : m.wf) (ht : t.backed = j.appended m sale) (ht1 : 1 ≤ sale.till) (ht64 : sale.till ≤ 64)
    (hl : sale.lines.length ≤ 255) (hb : sale.basket < 4294967296) (hn : j.next < 4294967296) :
    t.mark sale.till = (sale.basket, j.next) := by
  have hback := Journal.appended_readBack (j := j) hw ht1 ht64 hl
    (List.mem_append_right _ (List.mem_singleton.mpr rfl))
  rw [markBytes_length] at hback
  obtain ⟨hbasket, hsequence⟩ := markBytes_fields sale.basket j.next
  unfold State.mark
  rw [ht, hback]
  dsimp only
  rw [hbasket, hsequence, Nat.mod_eq_of_lt hb, Nat.mod_eq_of_lt hn]

theorem State.mark_appended_other (ht : t.backed = j.appended s.backed sale) {n : Nat} (h1 : 1 ≤ n) (h64 : n ≤ 64)
    (ht1 : 1 ≤ sale.till) (hne : n ≠ sale.till) : t.mark n = s.mark n := by
  have hread : t.backed.readBytes (markAddr n) 16 = s.backed.readBytes (markAddr n) 16 := by
    rw [ht]
    refine Memory.readBytes_congr fun x hx1 hx2 => j.appended_outside s.backed sale ?_ ?_ fun k _ => .inl ?_
    · unfold markAddr at hx1; omega
    · unfold markAddr at hx1 hx2 ⊢; omega
    · have := unitAddr_ge (j.tail + k)
      unfold markAddr at hx2
      omega
  unfold State.mark
  rw [hread]

/-- An append leaves every unit that is not one of its entry's. -/
theorem Journal.appended_unit (j : Journal) (m : Memory) (sale : Sale) (ht64 : sale.till ≤ 64) {u k : Nat} (hk : k < 64)
    (hu : u < 114688) (hne : ∀ i, i < unitsFor sale.lines.length → (j.tail + i) % 114688 ≠ u) :
    (j.appended m sale).read (unitAddr u + k) = m.read (unitAddr u + k) := by
  have hge := unitAddr_ge u
  refine j.appended_outside m sale (by omega) (.inr (by unfold markAddr; omega)) fun i hi => ?_
  have hdiff : u % 114688 ≠ (j.tail + i) % 114688 := by rw [Nat.mod_eq_of_lt hu]; exact (hne i hi).symm
  rcases unitAddr_apart hdiff with h | h
  · exact .inl (by omega)
  · exact .inr (by omega)

end

end Sys2Proof.Machine
end

section
/-! PROOFS. Blocks cut in UPLOAD (R129): how far a cut goes, and the messages it sends. -/

namespace Sys2Proof.Machine

variable {s t : State} {m : Memory} {unit : Nat}

/-! ### Entries read (R69) -/

theorem storedEntries_length (m : Memory) (n unit : Nat) : (storedEntries m n unit).length = n := by
  induction n generalizing unit with
  | zero => rfl
  | succ n ih => rw [storedEntries, List.length_cons, ih]

theorem storedEntries_take (m : Memory) (k n unit : Nat) :
    (storedEntries m n unit).take k = storedEntries m (min k n) unit := by
  induction n generalizing k unit with
  | zero => rw [Nat.min_zero]; exact List.take_nil
  | succ n ih =>
    cases k with
    | zero => rw [Nat.zero_min]; rfl
    | succ k =>
      rw [Nat.succ_min_succ]
      simp only [storedEntries, List.take_succ_cons, ih]

theorem State.journalRead_of_inside {first : Nat} (ha : s.journal.acked < first) (hn : first < s.journal.next) :
    ∃ unit, ∀ count, s.journalRead first count = storedEntries s.backed (min count (s.journal.next - first)) unit := by
  refine ⟨s.journal.head + passUnits s.backed (first - s.journal.acked - 1) s.journal.head, fun count => ?_⟩
  unfold State.journalRead
  dsimp only
  rw [if_neg (by omega)]

theorem State.journalRead_of_outside {first : Nat} (h : first ≤ s.journal.acked ∨ s.journal.next ≤ first) (count : Nat) :
    s.journalRead first count = [] := by
  unfold State.journalRead
  exact if_pos h

theorem State.journalRead_take {first k n : Nat} (h : k ≤ n) : (s.journalRead first n).take k = s.journalRead first k := by
  by_cases hin : first ≤ s.journal.acked ∨ s.journal.next ≤ first
  · rw [State.journalRead_of_outside hin, State.journalRead_of_outside hin, List.take_nil]
  · obtain ⟨unit, hread⟩ := State.journalRead_of_inside (s := s) (first := first) (by omega) (by omega)
    rw [hread, hread, storedEntries_take]
    congr 1
    omega

/-! ### How many entries a block takes (R129) -/

/-- The units of entries, taken together. -/
abbrev unitSum (es : List (List Byte)) : Nat := (es.map storedUnits).sum

/-- How many further entries go into a block that holds one already. -/
theorem blockTake_more (used taken : Nat) (es : List (List Byte)) (ht : 0 < taken) : ∃ k, blockTake used taken es = taken + k
    ∧ k ≤ es.length ∧ (k = 0 ∨ (taken + k ≤ 16 ∧ used + unitSum (es.take k) ≤ 128))
    ∧ (k = es.length ∨ 16 ≤ taken + k ∨ 128 < used + unitSum (es.take (k + 1))) := by
  induction es generalizing used taken with
  | nil => exact ⟨0, rfl, le_rfl, .inl rfl, .inl rfl⟩
  | cons e es ih =>
    unfold blockTake
    by_cases hfit : taken < 16 ∧ used + storedUnits e ≤ 128
    · obtain ⟨k, hk, hlen, htake, hstop⟩ := ih (used + storedUnits e) (taken + 1) (by omega)
      rw [if_pos (.inr hfit)]
      refine ⟨k + 1, by omega, by simpa using hlen, .inr ?_, ?_⟩
      · rw [List.take_succ_cons, unitSum, List.map_cons, List.sum_cons]
        rcases htake with rfl | ⟨h1, h2⟩
        · simp; omega
        · exact ⟨by omega, by unfold unitSum at h2; omega⟩
      · rw [List.take_succ_cons, unitSum, List.map_cons, List.sum_cons]
        rcases hstop with rfl | h | h
        · exact .inl rfl
        · exact .inr (.inl (by omega))
        · exact .inr (.inr (by unfold unitSum at h; omega))
    · rw [if_neg (by omega)]
      refine ⟨0, rfl, Nat.zero_le _, .inl rfl, .inr ?_⟩
      by_cases h16 : taken < 16
      · exact .inr (by simp only [unitSum, List.take_succ_cons, List.take_zero, List.map_cons, List.map_nil, List.sum_cons,
          List.sum_nil]; omega)
      · exact .inl (by omega)

/-- How many of the entries read go into a block: one at least, further ones up to 16 entries and 128 units. -/
theorem blockTake_spec {es : List (List Byte)} (h : es ≠ []) : ∃ n, blockTake 0 0 es = n + 1 ∧ n + 1 ≤ es.length
    ∧ (n = 0 ∨ (n + 1 ≤ 16 ∧ unitSum (es.take (n + 1)) ≤ 128))
    ∧ (n + 1 = es.length ∨ 16 ≤ n + 1 ∨ 128 < unitSum (es.take (n + 2))) := by
  cases es with
  | nil => exact absurd rfl h
  | cons e es =>
    obtain ⟨k, hk, hlen, htake, hstop⟩ := blockTake_more (0 + storedUnits e) 1 es Nat.one_pos
    rw [blockTake, if_pos (.inl rfl), hk]
    simp only [unitSum, List.take_succ_cons, List.map_cons, List.sum_cons, List.length_cons] at *
    refine ⟨k, Nat.add_comm 1 k, by omega, ?_, by omega⟩
    rcases htake with rfl | h
    · exact .inl rfl
    · exact .inr (by omega)

/-- A block cut from a sequence on takes what R129 lets it take. -/
theorem State.blockFits_of_take {first n : Nat} (h : blockTake 0 0 (s.journalRead first 16) = n + 1) :
    s.BlockFits first { first := first, last := first + n } := by
  have hne : s.journalRead first 16 ≠ [] := fun hnil => by rw [hnil] at h; cases h
  have hin : s.journal.acked < first ∧ first < s.journal.next := by
    by_contra hout
    exact hne (State.journalRead_of_outside (by omega) 16)
  obtain ⟨k, hk, hlen, htake, hstop⟩ := blockTake_spec hne
  obtain rfl : k = n := by omega
  obtain ⟨unit, hread⟩ := State.journalRead_of_inside hin.1 hin.2
  have hcount : (s.journalRead first 16).length = min 16 (s.journal.next - first) := by rw [hread, storedEntries_length]
  have hunits : ∀ c, c ≤ 16 → unitSum ((s.journalRead first 16).take c) = s.unitsOf first c := fun c hc => by
    rw [State.journalRead_take hc]
    rfl
  rw [hcount] at hlen hstop
  refine ⟨rfl, Nat.le_add_right .., by dsimp only; omega, ?_, ?_⟩
  · dsimp only
    rcases htake with rfl | ⟨h16, hsum⟩
    · exact .inl rfl
    · rw [hunits _ (by omega)] at hsum
      exact .inr ⟨by omega, by rwa [show first + k + 1 - first = k + 1 by omega]⟩
  · dsimp only
    by_cases hend : first + k + 1 = s.journal.next ∨ first + k + 1 = first + 16
    · exact hend.imp_right .inl
    · rw [hunits _ (by omega)] at hstop
      exact .inr (.inr (by rw [show first + k + 2 - first = k + 2 by omega]; omega))

/-! ### Messages sent while the window changes (R124, R129) -/

/-- The state with the upload window, its next sequence and its times taken from another context. -/
def State.withWindow (s : State) (y : Exchange) : State :=
  s.setExchange { s.exchange with window := y.window, nextToCut := y.nextToCut, tries := y.tries, resend := y.resend }

theorem State.withWindow_withWindow (s : State) (y z : Exchange) : (s.withWindow y).withWindow z = s.withWindow z := rfl

theorem State.messageFrames_withWindow (s : State) (y : Exchange) (msg : List Byte) :
    (s.withWindow y).messageFrames msg = s.messageFrames msg := by
  have hpackets : messagePackets (s.withWindow y).exchange msg = messagePackets s.exchange msg :=
    ipv4Packets_congr (x := s.exchange) (y := (s.withWindow y).exchange) (fun _ _ _ _ => rfl) _ _ _ _
  unfold State.messageFrames
  rw [hpackets]
  rfl

/-- A message does not tell of the window: the same one is sent whatever the window is. -/
theorem State.sendMessage_withWindow (s : State) (y : Exchange) (k : PartMessage) (b : List Byte) :
    (s.withWindow y).sendMessage k b = (s.sendMessage k b).withWindow y := by
  unfold State.sendMessage
  rw [State.messageFrames_withWindow]
  generalize hfs : s.messageFrames (messageBytes k (s.withWindow y).exchange.branchId b) = fs
  rw [show s.messageFrames (messageBytes k s.exchange.branchId b) = fs from hfs]
  have hrefusal : ((s.withWindow y).setExchange { (s.withWindow y).exchange with
      datagrams := (s.withWindow y).exchange.datagrams + 1 }).messageRefusal fs.length
    = (s.setExchange { s.exchange with datagrams := s.exchange.datagrams + 1 }).messageRefusal fs.length := rfl
  have huplink : ((s.withWindow y).setExchange { (s.withWindow y).exchange with
      datagrams := (s.withWindow y).exchange.datagrams + 1 }).net.uplink
    = (s.setExchange { s.exchange with datagrams := s.exchange.datagrams + 1 }).net.uplink := rfl
  dsimp only
  rw [hrefusal, huplink]
  cases (s.setExchange { s.exchange with datagrams := s.exchange.datagrams + 1 }).messageRefusal fs.length with
  | none =>
    dsimp only
    rw [State.join_exchange_all, State.join_exchange_all]
    rfl
  | some r =>
    dsimp only
    cases (s.setExchange { s.exchange with datagrams := s.exchange.datagrams + 1 }).net.uplink with
    | none => rfl
    | some p => rfl

theorem MessageSent.withWindow {k : PartMessage} {b : List Byte} (h : MessageSent s t k b) (y : Exchange) :
    MessageSent (s.withWindow y) (t.withWindow y) k b := by
  obtain ⟨hjoined, hlost, hcounted⟩ := h
  refine ⟨?_, ?_, hcounted⟩
  · rw [State.messageFrames_withWindow]
    exact hjoined
  · rw [State.messageFrames_withWindow]
    exact hlost

theorem MessagesSent.withWindow {ms : List (PartMessage × List Byte)} (h : MessagesSent s t ms) (y : Exchange) :
    MessagesSent (s.withWindow y) (t.withWindow y) ms := by
  induction ms generalizing s with
  | nil => exact congrArg (fun v : State => v.withWindow y) h
  | cons m ms ih =>
    obtain ⟨u, hsent, hx, honly, hstore, hrest⟩ := h
    refine ⟨u.withWindow y, hsent.withWindow y, ?_, (congrArg (fun v : State => v.withWindow y) honly :), hstore, ih hrest⟩
    unfold State.withWindow
    rw [State.setExchange_exchange, hx]
    rfl

/-- A block's message is read from the journal and the backed SRAM alone. -/
theorem State.blockMessage_congr (hj : t.journal = s.journal) (hb : t.backed = s.backed) : t.blockMessage = s.blockMessage := by
  unfold State.blockMessage State.journalRead
  rw [hj, hb]

theorem State.blocksFit_congr (hj : t.journal = s.journal) (hb : t.backed = s.backed) {first : Nat} {bs : List Block}
    (h : t.BlocksFit first bs) : s.BlocksFit first bs := by
  have hread : ∀ f c, t.journalRead f c = s.journalRead f c := fun f c => by unfold State.journalRead; rw [hj, hb]
  induction bs generalizing first with
  | nil => trivial
  | cons b bs ih =>
    obtain ⟨hfit, hrest⟩ := h
    unfold State.BlockFits State.unitsOf at hfit
    simp only [hread, hj] at hfit
    exact ⟨hfit, ih hrest⟩

/-! ### Blocks cut (R129) -/

/-- The context of the exchange once a block has been cut: in the window, the resend time armed if it is the first. -/
def Exchange.withBlock (x : Exchange) (now : Nat) (b : Block) : Exchange :=
  { x with
    window := x.window ++ [b], nextToCut := b.last + 1
    tries := if x.window = [] then 1 else x.tries
    resend := if x.window = [] then some (now + x.retransmit) else x.resend }

/-- The state once a block has been cut and sent. -/
def State.blockCut (s : State) (b : Block) : State := (s.withWindow (s.exchange.withBlock s.now b)).sendBlock b

theorem State.cutBlocks_stop (fuel : Nat) (h : 8 ≤ s.exchange.window.length
    ∨ s.journal.next ≤ s.exchange.nextToCut ∨ s.exchange.nextToCut ≤ s.journal.acked) : State.cutBlocks fuel s = s := by
  cases fuel with
  | zero => rfl
  | succ fuel =>
    rw [State.cutBlocks]
    dsimp only
    by_cases hgo : s.exchange.window.length < 8 ∧ s.exchange.nextToCut < s.journal.next
    · rw [if_pos hgo, State.journalRead_of_outside (by omega)]
      rfl
    · rw [if_neg hgo]

theorem State.cutBlocks_step (fuel : Nat) {n : Nat} (hwindow : s.exchange.window.length < 8)
    (hmore : s.exchange.nextToCut < s.journal.next)
    (hn : blockTake 0 0 (s.journalRead s.exchange.nextToCut 16) = n + 1) : State.cutBlocks (fuel + 1) s =
      State.cutBlocks fuel (s.blockCut { first := s.exchange.nextToCut, last := s.exchange.nextToCut + n }) := by
  rw [State.cutBlocks]
  dsimp only
  rw [if_pos ⟨hwindow, hmore⟩, hn]
  dsimp only
  unfold State.blockCut Exchange.withBlock
  by_cases hempty : s.exchange.window = []
  · simp only [hempty, if_true]
    rfl
  · simp only [hempty, if_false]
    rfl

/-- Nothing but the exchange context and the network side has changed. -/
def OnlyMessages (s t : State) : Prop := (t.setExchange s.exchange).setNet s.net = s

theorem OnlyMessages.trans {u : State} (h : OnlyMessages s t) (h' : OnlyMessages t u) : OnlyMessages s u := by
  unfold OnlyMessages at *
  conv_rhs => rw [← h, ← h']
  rfl

theorem OnlyMessages.onlyExchange (h : OnlyMessages s t) : OnlyExchange s t :=
  (congrArg (fun v : State => v.withLogOf s) h :)

/-- Blocks cut with fuel for a number of them: as `BlocksCut`, but that the fuel may have run out. -/
structure CutWithin (fuel : Nat) (s t : State) (bs : List Block) : Prop where
  cut : s.BlocksFit s.exchange.nextToCut bs
  room : bs = [] ∨ s.exchange.window.length + bs.length ≤ 8
  all : bs.length = fuel ∨ 8 ≤ s.exchange.window.length + bs.length
    ∨ s.journal.next ≤ afterBlocks s.exchange.nextToCut bs ∨ afterBlocks s.exchange.nextToCut bs ≤ s.journal.acked
  exchange : t.exchange = { s.exchange with
    window := s.exchange.window ++ bs, nextToCut := afterBlocks s.exchange.nextToCut bs
    tries := if s.exchange.window = [] ∧ bs ≠ [] then 1 else s.exchange.tries
    resend := if s.exchange.window = [] ∧ bs ≠ [] then some (s.now + s.exchange.retransmit) else s.exchange.resend
    datagrams := s.exchange.datagrams + bs.length }
  sent : MessagesSent s (t.withWindow s.exchange) (bs.map s.blockMessage)
  frame : OnlyMessages s t

theorem CutWithin.nothing {fuel : Nat} (h : fuel = 0 ∨ 8 ≤ s.exchange.window.length
    ∨ s.journal.next ≤ s.exchange.nextToCut ∨ s.exchange.nextToCut ≤ s.journal.acked) : CutWithin fuel s s [] where
  cut := trivial
  room := .inl rfl
  all := h.imp_left Eq.symm
  exchange := by simp [afterBlocks]
  sent := rfl
  frame := rfl

theorem afterBlocks_cons (first : Nat) (b : Block) (bs : List Block) :
    afterBlocks first (b :: bs) = afterBlocks (b.last + 1) bs := by
  cases bs with
  | nil => rfl
  | cons c bs =>
    unfold afterBlocks
    rw [List.getLast?_cons_cons, List.getLast?_eq_some_getLast (List.cons_ne_nil c bs)]
    rfl

/-- A block cut first, and then the rest. -/
theorem CutWithin.cons {fuel : Nat} {b : Block} {bs : List Block} (hwindow : s.exchange.window.length < 8)
    (hb : s.BlockFits s.exchange.nextToCut b) (h : CutWithin fuel (s.blockCut b) t bs) :
    CutWithin (fuel + 1) s t (b :: bs) := by
  obtain ⟨u, hu⟩ : ∃ u, u = s.sendMessage (s.blockMessage b).1 (s.blockMessage b).2 := ⟨_, rfl⟩
  have hcutSend : s.blockCut b = u.withWindow (s.exchange.withBlock s.now b) := by
    rw [hu]
    exact s.sendMessage_withWindow ..
  have hux : u.exchange = { s.exchange with datagrams := s.exchange.datagrams + 1 } := hu ▸ State.sendMessage_exchange ..
  have hframe : OnlyMessages s u := hu ▸ State.sendMessage_frame ..
  have hj : (s.blockCut b).journal = s.journal := hcutSend ▸ (congrArg State.journal hframe :)
  have hbk : (s.blockCut b).backed = s.backed := hcutSend ▸ (congrArg State.backed hframe :)
  have hst : u.store = s.store := (congrArg State.store hframe :)
  have hnow : (s.blockCut b).now = s.now := hcutSend ▸ (congrArg State.now hframe :)
  have hx : (s.blockCut b).exchange = { s.exchange.withBlock s.now b with datagrams := s.exchange.datagrams + 1 } := by
    rw [hcutSend]
    unfold State.withWindow
    rw [State.setExchange_exchange, hux]
    rfl
  obtain ⟨hcut, hroom, hall, hexchange, hsent, honly⟩ := h
  have hfit := State.blocksFit_congr hj hbk hcut
  rw [hx] at hfit hroom hall hexchange
  rw [hj] at hall
  rw [hnow] at hexchange
  simp only [Exchange.withBlock, List.length_append, List.length_cons, List.length_nil] at hfit hroom hall hexchange
  refine ⟨⟨hb, hfit⟩, .inr ?_, ?_, ?_, ?_, ?_⟩
  · rw [List.length_cons]
    rcases hroom with rfl | hroom
    · simp only [List.length_nil]; omega
    · omega
  · rw [afterBlocks_cons, List.length_cons]
    omega
  · rw [hexchange, afterBlocks_cons]
    by_cases hempty : s.exchange.window = []
    · simp [hempty]; omega
    · simp [hempty]; omega
  · refine ⟨u, hu ▸ MessageSent.sendMessage .., hux, hframe.onlyExchange, hst, ?_⟩
    have hmore := hsent.withWindow s.exchange
    rw [State.blockMessage_congr hj hbk, State.withWindow_withWindow, hcutSend, State.withWindow_withWindow] at hmore
    have hself : u.withWindow s.exchange = u := by
      unfold State.withWindow
      rw [hux]
      exact congrArg u.setExchange hux.symm
    rwa [hself] at hmore
  · have hfirst : OnlyMessages s (s.blockCut b) := by rw [hcutSend]; exact hframe
    exact hfirst.trans honly

theorem CutWithin.cutBlocks (fuel : Nat) (s : State) : ∃ bs, CutWithin fuel s (State.cutBlocks fuel s) bs := by
  induction fuel generalizing s with
  | zero => exact ⟨[], .nothing (.inl rfl)⟩
  | succ fuel ih =>
    by_cases hgo : s.exchange.window.length < 8 ∧ s.exchange.nextToCut < s.journal.next
        ∧ s.journal.acked < s.exchange.nextToCut
    · obtain ⟨hwindow, hmore, hacked⟩ := hgo
      have hne : s.journalRead s.exchange.nextToCut 16 ≠ [] := by
        obtain ⟨unit, hread⟩ := State.journalRead_of_inside hacked hmore
        rw [← List.length_pos_iff, hread, storedEntries_length]
        omega
      obtain ⟨n, hn, -⟩ := blockTake_spec hne
      obtain ⟨bs, hbs⟩ := ih (s.blockCut { first := s.exchange.nextToCut, last := s.exchange.nextToCut + n })
      rw [State.cutBlocks_step fuel hwindow hmore hn]
      exact ⟨_, .cons hwindow (State.blockFits_of_take hn) hbs⟩
    · have hstop : 8 ≤ s.exchange.window.length ∨ s.journal.next ≤ s.exchange.nextToCut
          ∨ s.exchange.nextToCut ≤ s.journal.acked := by omega
      rw [State.cutBlocks_stop _ hstop]
      exact ⟨[], .nothing (.inr hstop)⟩

/-- The cut of a whole window, as R129 has it. -/
theorem BlocksCut.cutBlocks (s : State) : ∃ bs, BlocksCut s (State.cutBlocks 8 s) bs
    ∧ OnlyMessages s (State.cutBlocks 8 s) := by
  obtain ⟨bs, hcut, hroom, hall, hexchange, hsent, honly⟩ := CutWithin.cutBlocks 8 s
  refine ⟨bs, ⟨hcut, hroom, by omega, hexchange, ?_⟩, honly⟩
  unfold State.withWindow at hsent
  rw [hexchange] at hsent
  exact hsent

end Sys2Proof.Machine
end

section
/-! PROOFS. APPEND_START and APPEND_END (R56, R62-R67, R75, R129): O41. -/

namespace Sys2Proof.Machine

variable {s t u w : State} {sale : Sale} {a : Append} {e : TillEntry} {ctx : SaleContext}

/-! ### What an answer to a till rests on -/

theorem LanOffered.of_net_after {p : Port} {f : Frame} (h : LanOffered s t p f) (hu : u.net = t.net) : LanOffered s u p f := by
  have hp : ∀ q, u.port q = t.port q := fun q => by unfold State.port; rw [hu]
  obtain ⟨h1, h2, h3, h4, h5⟩ := h
  rw [← hp] at h1 h3
  rw [← hu] at h2 h5
  exact ⟨h1, h2, h3, fun q hq => (hp q).trans (h4 q hq), h5⟩

theorem State.tillFrameOut_congr (h : t.net = s.net) (dest : MacAddr) (kind till : Nat) (body : List Byte) :
    t.tillFrameOut dest kind till body = s.tillFrameOut dest kind till body := by
  unfold State.tillFrameOut State.makeFrame
  rw [h]

theorem TillEntryIs.of_tills {rest : List TillFrame} {n : Nat} (h : TillEntryIs w t rest n e) (hw : w.tills = s.tills)
    (hu : u.tills = t.tills) : TillEntryIs s u rest n e := by
  obtain ⟨h1, h2, h3⟩ := h
  refine ⟨by rw [hu, h1], (State.till_congr hu n).trans h2, fun m hm => ?_⟩
  rw [State.till_congr hu, h3 m hm, State.till_congr hw]

/-! ### The end of an append told (R56) -/

theorem State.saleEnded_eq (he : s.till sale.till = some e) (hctx : e.inFlight = some ctx) (o : SaleOutcome) (sequence : Nat) :
    s.saleEnded sale o sequence = (s.putTill sale.till { e with inFlight := none }).tillAnswer ctx.port ctx.station .saleAck
      sale.till (saleAckBody ctx.basket o sequence) := by
  unfold State.saleEnded
  rw [he]
  dsimp only
  rw [hctx]

/-- The answer to the till, and its entry with no sale in flight; nothing else has changed. -/
theorem saleEnded_spec (he : s.till sale.till = some e) (hctx : e.inFlight = some ctx) (o : SaleOutcome) (sequence : Nat) :
    LanOffered s (s.saleEnded sale o sequence) ctx.port
        (s.tillFrameOut ctx.station 6 sale.till (saleAckBody ctx.basket o sequence))
      ∧ TillEntryIs s (s.saleEnded sale o sequence) s.tills.inbox sale.till { e with inFlight := none }
      ∧ ((s.saleEnded sale o sequence).setTills s.tills).setNet s.net = s := by
  have hput := s.putTill_frame sale.till { e with inFlight := none }
  have hnet : (s.putTill sale.till { e with inFlight := none }).net = s.net := (congrArg State.net hput :)
  rw [State.saleEnded_eq he hctx]
  refine ⟨(TillAnswered.tillAnswer hput ctx.port ctx.station .saleAck sale.till _).offered,
    .putTill he (State.tillAnswer_tills ..), ?_⟩
  have hoffer := (s.putTill sale.till { e with inFlight := none }).offerOwn_frame ctx.port
    ((s.putTill sale.till { e with inFlight := none }).tillFrameOut ctx.station TillAnswer.saleAck.code sale.till
      (saleAckBody ctx.basket o sequence))
  rw [hnet] at hoffer
  exact (congrArg (fun v : State => v.setTills s.tills) hoffer :).trans hput

/-! ### The append queue (R64) -/

theorem Journal.nextAppend_eq (j : Journal) : j.nextAppend = { j with
    append := j.queue.head?.map (fun x => { sale := x, started := false, reserved := 0 }), queue := j.queue.tail } := by
  unfold Journal.nextAppend
  cases h : j.queue with
  | nil => simp
  | cons x rest => simp

theorem Journal.holds_iff (j : Journal) (sale : Sale) : j.holds sale = true ↔
    j.freeUnits < 1 + (sale.lines.length + 1) / 2 ∨ j.next = 4294967295 := by
  rw [Journal.holds, unitsFor, Bool.or_eq_true, decide_eq_true_iff, decide_eq_true_iff]

/-! ### APPEND_START (R65) -/

theorem exec_appendStart (hs : s.Sound) (h : s.startAppend.link.due = s.link.due) :
    exec .appendStart s = .next s.startAppend :=
  powered_next hs.1 (State.settle_of_none _ (h.trans hs.2.2))

theorem State.startAppend_idle (h : ∀ a, s.journal.append = some a → a.started = true) : s.startAppend = s := by
  unfold State.startAppend
  cases ha : s.journal.append with
  | none => rfl
  | some a =>
    dsimp only
    rw [h a ha]
    rfl

theorem State.startAppend_waiting (ha : s.journal.append = some a) (hw : a.started = false) : s.startAppend =
    if s.journal.holds a.sale then (s.setJournal s.journal.nextAppend).saleEnded a.sale .hold 0
    else s.setJournal { s.journal with append := some { a with started := true, reserved := unitsFor a.sale.lines.length } } := by
  unfold State.startAppend
  rw [ha]
  dsimp only
  rw [hw]
  rfl

/-! ### The status block's journal fields (R75) -/

/-- The journal fields hold the working state of a journal. -/
structure JournalCounts (s : State) (j : Journal) : Prop where
  backedState : s.storeWord offBackedState = BitVec.ofNat 32 j.backedState.code
  used : s.storeWord offUnitsUsed = BitVec.ofNat 32 j.used
  free : s.storeWord offUnitsFree = BitVec.ofNat 32 j.freeUnits
  oldest : s.storeWord offOldest = BitVec.ofNat 32 (j.acked + 1)
  next : s.storeWord offNext = BitVec.ofNat 32 j.next

theorem State.storeWord_status (hw : s.store.wf) (o v : Nat) : (s.status o v).storeWord o = BitVec.ofNat 32 v :=
  Memory.word_setWord _ _ hw

theorem State.storeWord_status_other (s : State) {o x : Nat} (v : Nat) (h : x + 4 ≤ o ∨ o + 4 ≤ x) :
    (s.status o v).storeWord x = s.storeWord x := Memory.word_setWord_other _ _ h

theorem State.status_wf (hw : s.store.wf) (o v : Nat) : (s.status o v).store.wf := Memory.setWord_wf _ _ hw

theorem JournalCounts.write (hw : s.store.wf) : JournalCounts s.writeJournalCounts s.journal := by
  obtain ⟨s1, h1⟩ : ∃ s1, s1 = s.status offBackedState s.journal.backedState.code := ⟨_, rfl⟩
  obtain ⟨s2, h2⟩ : ∃ s2, s2 = s1.status offUnitsUsed s.journal.used := ⟨_, rfl⟩
  obtain ⟨s3, h3⟩ : ∃ s3, s3 = s2.status offUnitsFree s.journal.freeUnits := ⟨_, rfl⟩
  obtain ⟨s4, h4⟩ : ∃ s4, s4 = s3.status offOldest (s.journal.acked + 1) := ⟨_, rfl⟩
  have hw1 : s1.store.wf := h1 ▸ State.status_wf hw ..
  have hw2 : s2.store.wf := h2 ▸ State.status_wf hw1 ..
  have hw3 : s3.store.wf := h3 ▸ State.status_wf hw2 ..
  have hw4 : s4.store.wf := h4 ▸ State.status_wf hw3 ..
  have hall : s.writeJournalCounts = s4.status offNext s.journal.next := by rw [h4, h3, h2, h1]; rfl
  have hback : s1.storeWord offBackedState = BitVec.ofNat 32 s.journal.backedState.code := h1 ▸ State.storeWord_status hw ..
  have hused : s2.storeWord offUnitsUsed = BitVec.ofNat 32 s.journal.used := h2 ▸ State.storeWord_status hw1 ..
  have hfree : s3.storeWord offUnitsFree = BitVec.ofNat 32 s.journal.freeUnits := h3 ▸ State.storeWord_status hw2 ..
  have hold : s4.storeWord offOldest = BitVec.ofNat 32 (s.journal.acked + 1) := h4 ▸ State.storeWord_status hw3 ..
  rw [hall]
  refine ⟨?_, ?_, ?_, ?_, State.storeWord_status hw4 ..⟩
  · rw [State.storeWord_status_other _ _ (by decide), h4, State.storeWord_status_other _ _ (by decide), h3,
      State.storeWord_status_other _ _ (by decide), h2, State.storeWord_status_other _ _ (by decide), hback]
  · rw [State.storeWord_status_other _ _ (by decide), h4, State.storeWord_status_other _ _ (by decide), h3,
      State.storeWord_status_other _ _ (by decide), hused]
  · rw [State.storeWord_status_other _ _ (by decide), h4, State.storeWord_status_other _ _ (by decide), hfree]
  · rw [State.storeWord_status_other _ _ (by decide), hold]

/-- The journal fields lie outside the log's bytes. -/
theorem JournalCounts.congr {j : Journal} (h : JournalCounts s j)
    (hread : ∀ x, logBytes x = false → t.store.read x = s.store.read x) : JournalCounts t j := by
  have hword : ∀ o, o + 4 ≤ 0x28 ∨ (0x30 ≤ o ∧ o + 4 ≤ 0x1000) → t.storeWord o = s.storeWord o := fun o ho =>
    Memory.word_congr fun x h1 h2 => hread x (by
      rw [Bool.eq_false_iff]
      intro hx
      have := logBytes_iff.mp hx
      omega)
  obtain ⟨h1, h2, h3, h4, h5⟩ := h
  exact ⟨(hword _ (by decide)).trans h1, (hword _ (by decide)).trans h2, (hword _ (by decide)).trans h3,
    (hword _ (by decide)).trans h4, (hword _ (by decide)).trans h5⟩

theorem SameLog.status (s : State) {o : Nat} (v : Nat) (h : o + 4 ≤ 0x28 ∨ (0x30 ≤ o ∧ o + 4 ≤ offReadCount)) :
    SameLog s (s.status o v) where
  written := rfl
  accepted := rfl
  dropped := rfl
  notice := id
  clock := rfl
  bytes x hx := Memory.read_setWord_outside _ _ (by
    have := logBytes_iff.mp hx
    unfold offReadCount at h
    omega)
  offered := State.storeWord_status_other _ _ (by unfold offReadCount at h ⊢; omega)

theorem SameLog.writeJournalCounts (s : State) : SameLog s s.writeJournalCounts :=
  ((((SameLog.status s _ (by decide)).trans (.status _ _ (by decide))).trans (.status _ _ (by decide))).trans
    (.status _ _ (by decide))).trans (.status _ _ (by decide))

theorem State.writeJournalCounts_frame (s : State) : s.writeJournalCounts.setStore s.store = s := rfl

/-! ### The alert level (R67) -/

theorem NothingPosted.of_sameLog (h : SameLog s t) : NothingPosted s t := by
  have hword : ∀ o, o = offWritten ∨ o = offDropped → t.storeWord o = s.storeWord o := fun o ho =>
    Memory.word_congr fun x h1 h2 => h.bytes x (logBytes_iff.mpr (by unfold offWritten offDropped at ho; omega))
  exact ⟨h.written, h.accepted, h.dropped, hword _ (.inl rfl), hword _ (.inr rfl), h.notice⟩

/-- The test of the alert level leaves the side where the units used stand, and moves nothing else but the log. -/
theorem State.testAlert_journal (s : State) : s.testAlert.journal = { s.journal with side := s.journal.sideNow } := by
  unfold State.testAlert
  dsimp only
  split
  next h => rw [h]
  · exact State.post_journal ..

theorem State.testAlert_frame (s : State) : (s.testAlert.withLogOf s).setJournal s.journal = s := by
  unfold State.testAlert
  dsimp only
  split
  · rfl
  · exact (congrArg (fun v : State => v.setJournal s.journal)
      ((s.setJournal { s.journal with side := s.journal.sideNow }).post_withLog .journalLevel 0 _) :)

theorem State.testAlert_read (s : State) {x : Nat} (hx : logBytes x = false) : s.testAlert.store.read x = s.store.read x := by
  unfold State.testAlert
  dsimp only
  split
  · rfl
  · exact (Writes.post ..).bytes x hx

theorem State.testAlert_tells (hw : s.store.wf) : LevelTold s s.testAlert := by
  unfold LevelTold
  rw [State.testAlert_journal]
  unfold State.testAlert
  dsimp only
  split
  · exact .of_sameLog (.refl s)
  · exact (Posted.post (s := s.setJournal { s.journal with side := s.journal.sideNow }) .journalLevel 0 _ hw).of_sameLog
      (.of_eq rfl rfl rfl) (.refl _)

/-- The test told between two states is told between two others with the same logs and sides. -/
theorem LevelTold.of_sameLog {s' t' : State} (h : LevelTold s t) (hs : SameLog s' s) (ht : SameLog t t')
    (hside : s.journal.side = s'.journal.side) (hside' : t'.journal.side = t.journal.side)
    (hused : t'.journal.used = t.journal.used) : LevelTold s' t' := by
  unfold LevelTold at *
  rw [hside', hused, ← hside]
  split at h
  next hkept =>
    rw [if_pos hkept]
    obtain ⟨h1, h2, h3, h4, h5, h6⟩ := h
    obtain ⟨a1, a2, a3, a4, a5, a6⟩ := NothingPosted.of_sameLog hs
    obtain ⟨b1, b2, b3, b4, b5, b6⟩ := NothingPosted.of_sameLog ht
    exact ⟨b1.trans (h1.trans a1), b2.trans (h2.trans a2), b3.trans (h3.trans a3), b4.trans (h4.trans a4),
      b5.trans (h5.trans a5), fun hp => b6 (h6 (a6 hp))⟩
  next hchanged =>
    rw [if_neg hchanged]
    exact h.of_sameLog hs ht

/-! ### APPEND_END (R65) -/

theorem exec_appendEnd (hs : s.Sound) (h : s.endAppend.link.due = s.link.due) :
    exec .appendEnd s = .next s.endAppend :=
  powered_next hs.1 (State.settle_of_none _ (h.trans hs.2.2))

theorem State.endAppend_idle (h : ∀ a, s.journal.append = some a → a.started = false) : s.endAppend = s := by
  unfold State.endAppend
  cases ha : s.journal.append with
  | none => rfl
  | some a =>
    dsimp only
    rw [h a ha]
    rfl

/-- The working state once an append is whole (R65). -/
def Journal.ended (j : Journal) (a : Append) : Journal :=
  { j with used := j.used + a.reserved, next := j.next + 1, append := none }

/-- The state once an append is whole in the backed SRAM and in the working state, the till answered, the counts written
and the alert level tested. -/
def State.toldOf (s : State) (m : Memory) (j : Journal) (sale : Sale) (sequence : Nat) : State :=
  (((s.setBacked m).setJournal j).saleEnded sale .accepted sequence).writeJournalCounts.testAlert

/-- The state that an append which has been made whole leaves, before blocks are cut and the next append waits. -/
def State.appendTold (s : State) (a : Append) : State :=
  s.toldOf (s.journal.appended s.backed a.sale) (s.journal.ended a) a.sale s.journal.next

theorem State.endAppend_started (ha : s.journal.append = some a) (hst : a.started = true) : s.endAppend =
    (s.appendTold a).cutAfterAppend.setJournal (s.appendTold a).cutAfterAppend.journal.nextAppend := by
  unfold State.endAppend
  rw [ha]
  dsimp only
  rw [hst]
  rfl

theorem State.cutAfterAppend_only (s : State) : OnlyMessages s s.cutAfterAppend := by
  unfold State.cutAfterAppend
  split
  · obtain ⟨-, -, honly⟩ := BlocksCut.cutBlocks s
    exact honly
  · rfl

theorem OnlyMessages.sameLog (h : OnlyMessages s t) : SameLog s t :=
  .of_eq (congrArg State.store h :) (congrArg State.requests h :) (congrArg State.clock h :)

section
variable {m : Memory} {j : Journal} {sequence : Nat}

/-- What is known of the state once an append has been told of: the journal and the backed SRAM are as they were made, the
counts are written, the level tested and the till answered, and no more has moved. -/
structure AppendTold (s u : State) (m : Memory) (j : Journal) (sale : Sale) (sequence : Nat) (e : TillEntry)
    (ctx : SaleContext) : Prop where
  journal : u.journal = { j with side := j.sideNow }
  backed : u.backed = m
  frame : (((((u.withLogOf s).setJournal s.journal).setBacked s.backed).setTills s.tills).setNet s.net) = s
  counts : JournalCounts u j
  level : LevelTold s u
  offered : LanOffered s u ctx.port (s.tillFrameOut ctx.station 6 sale.till (saleAckBody ctx.basket .accepted sequence))
  entry : TillEntryIs s u s.tills.inbox sale.till { e with inFlight := none }

/-- The counts written and the level tested, after the till's answer. -/
theorem AppendTold.of_answered {v : State} (hw : s.store.wf) (hside : j.side = s.journal.side)
    (hv : (v.setTills s.tills).setNet s.net = (s.setBacked m).setJournal j)
    (hoffered : LanOffered s v ctx.port (s.tillFrameOut ctx.station 6 sale.till (saleAckBody ctx.basket .accepted sequence)))
    (hentry : TillEntryIs s v s.tills.inbox sale.till { e with inFlight := none }) :
    AppendTold s v.writeJournalCounts.testAlert m j sale sequence e ctx := by
  obtain ⟨c, hc⟩ : ∃ c, c = v.writeJournalCounts := ⟨_, rfl⟩
  obtain ⟨u, hu⟩ : ∃ u, u = c.testAlert := ⟨_, rfl⟩
  have hstore : v.store = s.store := (congrArg State.store hv :)
  have hjournal : v.journal = j := (congrArg State.journal hv :)
  have hcounts : JournalCounts c j := by
    rw [hc, ← hjournal]
    exact .write (hstore ▸ hw)
  have hcv : c.setStore v.store = v := by rw [hc]; exact v.writeJournalCounts_frame
  have huc : (u.withLogOf c).setJournal c.journal = c := by rw [hu]; exact c.testAlert_frame
  have hcj : c.journal = j := (congrArg State.journal hcv :).trans hjournal
  have hcwf : c.store.wf := by
    rw [hc]
    exact State.status_wf (State.status_wf (State.status_wf (State.status_wf (State.status_wf (hstore ▸ hw) ..) ..) ..) ..) ..
  have hsame : SameLog s c := by
    rw [hc]
    exact (SameLog.of_eq hstore (congrArg State.requests hv :) (congrArg State.clock hv :)).trans (.writeJournalCounts v)
  have hnet : u.net = v.net := (congrArg State.net huc :).trans (congrArg State.net hcv :)
  have htills : u.tills = v.tills := (congrArg State.tills huc :).trans (congrArg State.tills hcv :)
  rw [← hc, ← hu]
  refine ⟨?_, ?_, ?_, ?_, ?_, hoffered.of_net_after hnet, hentry.of_tills rfl htills⟩
  · rw [hu, State.testAlert_journal, hcj]
  · exact ((congrArg State.backed huc :).trans (congrArg State.backed hcv :)).trans (congrArg State.backed hv :)
  · have hlog : (u.withLogOf s).setJournal s.journal = (c.withLogOf s).setJournal s.journal :=
      (congrArg (fun x : State => (x.withLogOf s).setJournal s.journal) huc :)
    have hcounted : c.withLogOf s = v.withLogOf s := (congrArg (fun x : State => x.withLogOf s) hcv :)
    rw [hlog, hcounted]
    exact (congrArg (fun x : State => ((x.withLogOf s).setJournal s.journal).setBacked s.backed) hv :)
  · rw [hu]
    exact hcounts.congr fun x hx => c.testAlert_read hx
  · have htold := c.testAlert_tells hcwf
    rw [← hu] at htold
    exact htold.of_sameLog hsame (.refl _) (by rw [hcj, hside]) rfl rfl

theorem AppendTold.toldOf (hw : s.store.wf) (hside : j.side = s.journal.side) (he : s.till sale.till = some e)
    (hctx : e.inFlight = some ctx) : AppendTold s (s.toldOf m j sale sequence) m j sale sequence e ctx := by
  obtain ⟨hoffered, hentry, hframe⟩ := saleEnded_spec (s := (s.setBacked m).setJournal j) he hctx .accepted sequence
  rw [State.tillFrameOut_congr (s := s) (t := (s.setBacked m).setJournal j) rfl] at hoffered
  exact .of_answered hw hside hframe (.of_net (s := s) (w := (s.setBacked m).setJournal j) rfl hoffered) (hentry.of_tills rfl rfl)

end

/-! ### O41 -/

/-- An append that has not started, by its room and the sequence number (R65). -/
theorem appendStart_held (hs : s.Sound) (ha : s.journal.append = some a) (hw : a.started = false)
    (hhold : s.journal.freeUnits < 1 + (a.sale.lines.length + 1) / 2 ∨ s.journal.next = 4294967295)
    (he : s.till a.sale.till = some e) (hctx : e.inFlight = some ctx) :
    ∃ t, exec .appendStart s = .next t ∧ t.journal = s.journal.nextAppend
      ∧ LanOffered s t ctx.port (s.tillFrameOut ctx.station 6 a.sale.till
          (beBytes 4 ctx.basket ++ beBytes 1 3 ++ zeros 4))
      ∧ TillEntryIs s t s.tills.inbox a.sale.till { e with inFlight := none } ∧ t.store = s.store
      ∧ t.backed = s.backed := by
  obtain ⟨w, hj⟩ : ∃ w, w = s.setJournal s.journal.nextAppend := ⟨_, rfl⟩
  have htills : w.tills = s.tills := by rw [hj]; rfl
  have hnet : w.net = s.net := by rw [hj]; rfl
  obtain ⟨hoffered, hentry, hframe⟩ := saleEnded_spec ((State.till_congr htills _).trans he) hctx .hold 0
  rw [State.tillFrameOut_congr hnet] at hoffered
  rw [htills] at hentry
  have hstart : s.startAppend = w.saleEnded a.sale .hold 0 := by
    rw [State.startAppend_waiting ha hw, if_pos ((s.journal.holds_iff a.sale).mpr hhold), hj]
  rw [← hstart] at hoffered hentry hframe
  have hdue : s.startAppend.link.due = s.link.due := (congrArg (fun x : State => x.link.due) hframe :).trans (by rw [hj]; rfl)
  refine ⟨_, exec_appendStart hs hdue, ?_, .of_net hnet hoffered, hentry.of_tills htills rfl, ?_, ?_⟩
  · exact (congrArg State.journal hframe :).trans (by rw [hj]; rfl)
  · exact (congrArg State.store hframe :).trans (by rw [hj]; rfl)
  · exact (congrArg State.backed hframe :).trans (by rw [hj]; rfl)

theorem appendStart_reserves (hs : s.Sound) (ha : s.journal.append = some a) (hw : a.started = false)
    (hroom : 1 + (a.sale.lines.length + 1) / 2 ≤ s.journal.freeUnits) (hnext : s.journal.next ≠ 4294967295) :
    exec .appendStart s = .next (s.setJournal { s.journal with
      append := some { a with started := true, reserved := 1 + (a.sale.lines.length + 1) / 2 } }) := by
  have hstart : s.startAppend = s.setJournal { s.journal with
      append := some { a with started := true, reserved := 1 + (a.sale.lines.length + 1) / 2 } } := by
    have hno : ¬ s.journal.holds a.sale = true := fun h => by
      rcases (s.journal.holds_iff a.sale).mp h with h | h
      · omega
      · exact hnext h
    rw [State.startAppend_waiting ha hw, if_neg hno]
    rfl
  rw [exec_appendStart hs (by rw [hstart]; rfl), hstart]

/-- The state between the last message of an append and the append that waits next. -/
theorem cut_or_not (hx : u.exchange = s.exchange) (hq : t = u.cutAfterAppend.setJournal u.journal.nextAppend) :
    if s.exchange.state = .upload then
      ∃ bs, BlocksCut u (t.setJournal u.journal) bs ∧ t.store = u.store ∧ OnlyExchange u (t.setJournal u.journal)
    else t = u.setJournal t.journal := by
  have hjournal : u.cutAfterAppend.journal = u.journal := (congrArg State.journal u.cutAfterAppend_only :)
  have hself : t.setJournal u.journal = u.cutAfterAppend := by
    rw [hq, State.setJournal_setJournal, ← hjournal, State.setJournal_self]
  have hcut : u.cutAfterAppend = if s.exchange.state = .upload then State.cutBlocks 8 u else u := by
    unfold State.cutAfterAppend
    rw [hx]
  split
  next hup =>
    rw [if_pos hup] at hcut
    obtain ⟨bs, hbs, honly⟩ := BlocksCut.cutBlocks u
    rw [hself, hcut]
    refine ⟨bs, hbs, ?_, honly.onlyExchange⟩
    rw [hq, hcut]
    exact (congrArg State.store honly :)
  next hno =>
    rw [if_neg hno] at hcut
    rw [hq, hcut]
    rfl

/-- Settles O41: the two commands by the append in progress. -/
theorem appendsRun : Obligations.AppendsRun := by
  unfold Obligations.AppendsRun
  refine ⟨fun s hs => ⟨fun hidle => ?_, fun a ha hw => ⟨fun e ctx hhold he hctx => ?_, ?_⟩⟩,
    fun s hs => ⟨fun hidle => ?_, fun a e ctx ha hst he hctx hbasket hlines hlines' hnext hhead hacked => ?_⟩⟩
  · rw [exec_appendStart hs (by rw [State.startAppend_idle hidle]), State.startAppend_idle hidle]
  · obtain ⟨t, hexec, hj, hrest⟩ := appendStart_held hs ha hw hhold he hctx
    exact ⟨t, hexec, hj, hrest⟩
  · exact appendStart_reserves hs ha hw
  · rw [exec_appendEnd hs (by rw [State.endAppend_idle hidle]), State.endAppend_idle hidle]
  · obtain ⟨u, hu⟩ : ∃ u, u = s.appendTold a := ⟨_, rfl⟩
    obtain ⟨hj, hbacked, hframe, hcounts, hlevel, hoffered, hentry⟩ : AppendTold s u (s.journal.appended s.backed a.sale)
        (s.journal.ended a) a.sale s.journal.next e ctx := by
      rw [hu]
      exact .toldOf hs.2.1.1 rfl he hctx
    have hcutOnly := u.cutAfterAppend_only
    have hend : s.endAppend = u.cutAfterAppend.setJournal u.journal.nextAppend := by
      have hjournal : u.cutAfterAppend.journal = u.journal := (congrArg State.journal hcutOnly :)
      rw [State.endAppend_started ha hst, ← hu, hjournal]
    obtain ⟨t, ht⟩ : ∃ t, t = s.endAppend := ⟨_, rfl⟩
    rw [← ht] at hend
    have hdue : s.endAppend.link.due = s.link.due := by
      rw [← ht, hend]
      exact (congrArg (fun x : State => x.link.due) hcutOnly :).trans (congrArg (fun x : State => x.link.due) hframe :)
    have htj : t.journal = u.journal.nextAppend := by rw [hend]; rfl
    rw [Journal.nextAppend_eq, hj] at htj
    have htb : t.backed = s.journal.appended s.backed a.sale := by
      rw [hend]
      exact (congrArg State.backed hcutOnly :).trans hbacked
    have htu : SameLog u t := by rw [hend]; exact hcutOnly.sameLog.trans (.of_eq rfl rfl rfl)
    have hstore : t.store = u.store := by rw [hend]; exact (congrArg State.store hcutOnly :)
    have htills : t.tills = u.tills := by rw [hend]; exact (congrArg State.tills hcutOnly :)
    obtain ⟨hstate, hused, hfree, hold, hnew⟩ := hcounts.congr (t := t) fun x _ => by rw [hstore]
    obtain ⟨ht1, ht64⟩ := State.till_range he
    have hheader : HeaderHolds t.backed s.journal.head s.journal.acked (s.journal.next + 1) s.journal.fresh :=
      htb ▸ Journal.appended_header hs.2.1.2 hhead hacked hnext
    have hentryAt : EntryStored t.backed s.journal.tail s.journal.next a.sale :=
      htb ▸ Journal.appended_entry hs.2.1.2 ht1 ht64 hlines'
    refine ⟨t, u, by rw [exec_appendEnd hs hdue, ht], ?_, ?_, ?_, ?_, ?_, ?_, ?_,
      hentryAt.accepted ht1 ht64 hbasket (by omega) hlines hlines',
      State.mark_appended_same hs.2.1.2 htb ht1 ht64 hlines' hbasket (by omega),
      fun n h1 h64 hne => State.mark_appended_other htb h1 h64 ht1 hne, hheader,
      fun n hn hne k hk => ?_, hnew, hstate, ?_, ?_, hold, ?_, ?_, hoffered, hentry.of_tills rfl htills,
      (congrArg State.exchange hframe :), ?_, ?_⟩
    · rw [htj]; rfl
    · rw [htj]; rfl
    · rw [htj]; rfl
    · rw [htj]; rfl
    · rw [htj]; rfl
    · rw [htj]; rfl
    · exact hlevel.of_sameLog (.refl s) htu rfl (by rw [htj, hj]) (by rw [htj, hj])
    · rw [htb]
      exact s.journal.appended_unit s.backed a.sale ht64 hk hn hne
    · rw [htj]; exact hused
    · rw [htj]; exact hfree
    · rw [htj]; rfl
    · rw [htj]; rfl
    · rw [htj, hj]; rfl
    · exact cut_or_not (congrArg State.exchange hframe :) hend

end Sys2Proof.Machine
end

section
/-! PROOFS. What spells a message of the three links (R41, R103, R125, R208-R210): the parsers against the spelled forms. -/

namespace Sys2Proof.Machine

variable {bs body : List Byte}

/-! ### Fields of a part of a message -/

theorem fieldBytes_drop (bs : List Byte) (k a n : Nat) : fieldBytes (bs.drop k) a n = fieldBytes bs (k + a) n := by
  unfold fieldBytes
  rw [List.drop_drop]

theorem beField_drop (bs : List Byte) (k a n : Nat) : beField (bs.drop k) a n = beField bs (k + a) n := by
  unfold beField
  rw [fieldBytes_drop]

theorem fieldBytes_take {k a n : Nat} (h : a + n ≤ k) : fieldBytes (bs.take k) a n = fieldBytes bs a n := by
  unfold fieldBytes
  rw [List.drop_take, List.take_take, Nat.min_eq_left (by omega)]

theorem beField_take {k a n : Nat} (h : a + n ≤ k) : beField (bs.take k) a n = beField bs a n := by
  unfold beField
  rw [fieldBytes_take h]

/-- A list is another one when both have a length and both have the same element in every place. -/
theorem eq_of_same_elements {α : Type} {xs ys : List α} (hlen : xs.length = ys.length)
    (h : ∀ (k : Nat) (x y : α), xs[k]? = some x → ys[k]? = some y → x = y) : xs = ys :=
  List.ext_getElem hlen fun k h1 h2 => h k _ _ (List.getElem?_eq_getElem h1) (List.getElem?_eq_getElem h2)

/-! ### Messages of the tills (R41, R208) -/

/-- The sale line at an offset of a message. -/
def lineAt (bs : List Byte) (o : Nat) : SaleLine :=
  { article := beField bs o 6, quantity := beField bs (o + 6) 3, amount := beField bs (o + 9) 4
    version := beField bs (o + 13) 4, basis := beField bs (o + 17) 1 }

theorem lineAt_drop (bs : List Byte) (k o : Nat) : lineAt (bs.drop k) o = lineAt bs (k + o) := by
  simp only [lineAt, beField_drop, Nat.add_assoc]

/-- The k-th sale line of a SALE_PUT. -/
theorem lineAt_eq (bs : List Byte) (k : Nat) : lineAt bs (17 + 18 * k) =
    { article := beField bs (17 + 18 * k) 6, quantity := beField bs (23 + 18 * k) 3
      amount := beField bs (26 + 18 * k) 4, version := beField bs (30 + 18 * k) 4, basis := beField bs (34 + 18 * k) 1 } := by
  unfold lineAt
  congr 2 <;> omega

theorem parseLines_length (n : Nat) (bs : List Byte) : (parseLines n bs).length = min n (bs.length / 18) := by
  induction n generalizing bs with
  | zero => simp [parseLines]
  | succ n ih =>
    rw [parseLines]
    unfold saleLineLength
    split
    · simp only [List.length_nil]
      omega
    · rw [List.length_cons, ih, List.length_drop]
      omega

theorem parseLines_line {n k : Nat} {bs : List Byte} {l : SaleLine} (h : (parseLines n bs)[k]? = some l) :
    l = lineAt bs (18 * k) := by
  induction n generalizing bs k with
  | zero => cases h
  | succ n ih =>
    rw [parseLines] at h
    unfold saleLineLength at h
    split at h
    · cases h
    · cases k with
      | zero =>
        cases h
        rfl
      | succ k =>
        rw [ih h, lineAt_drop]
        exact congrArg (lineAt bs) (by omega)

theorem TillMessage.spelled_of_parse {m : TillMessage} (h : TillMessage.parse bs = some m) : TillSpelled bs m := by
  unfold TillMessage.parse at h
  simp only [beField_drop, List.drop_drop, List.length_drop] at h
  split at h
  · cases h
  next hlen =>
    split at h
    next hk =>
      cases h
      exact ⟨by omega, hk⟩
    next hk =>
      split at h
      · cases h
      · cases h
        exact ⟨by omega, hk, rfl, rfl, rfl⟩
    next hk =>
      split at h
      · cases h
      · cases h
        refine ⟨by omega, hk, rfl, rfl, rfl, rfl, rfl, ?_, fun k l hl => ?_⟩
        · rw [parseLines_length, List.length_drop]
        · rw [parseLines_line hl, lineAt_drop, lineAt_eq]
    next hk =>
      cases h
      exact ⟨by omega, hk⟩
    · cases h

theorem TillMessage.parse_of_spelled {m : TillMessage} (h : TillSpelled bs m) : TillMessage.parse bs = some m := by
  unfold TillMessage.parse
  simp only [beField_drop, List.drop_drop, List.length_drop, Nat.reduceAdd]
  cases m with
  | signOn =>
    obtain ⟨hlen, hk⟩ := h
    rw [if_neg (by omega), hk]
    rfl
  | quoteAsk ref article quantity =>
    obtain ⟨hlen, hk, rfl, rfl, rfl⟩ := h
    rw [if_neg (by omega), hk]
    exact if_neg (by omega)
  | salePut basket day ms total n lines =>
    obtain ⟨hlen, hk, rfl, rfl, rfl, rfl, rfl, hlines, hline⟩ := h
    rw [if_neg (by omega), hk]
    have hsame : parseLines (beField bs 16 1) (bs.drop 17) = lines := by
      refine eq_of_same_elements (by rw [parseLines_length, List.length_drop, hlines]) fun k x y hx hy => ?_
      rw [parseLines_line hx, lineAt_drop, hline k y hy, lineAt_eq]
    rw [hsame]
    exact if_neg (by omega)
  | signOff =>
    obtain ⟨hlen, hk⟩ := h
    rw [if_neg (by omega), hk]
    rfl

/-- The bytes the till link's parser takes are those that spell a message. -/
theorem TillMessage.parse_iff {m : TillMessage} : TillMessage.parse bs = some m ↔ TillSpelled bs m :=
  ⟨TillMessage.spelled_of_parse, TillMessage.parse_of_spelled⟩

/-! ### Messages of the base stations (R103, R104, R209) -/

/-- The sighting at an offset of a message. -/
def sightingAt (bs : List Byte) (o : Nat) : Sighting :=
  { label := beField bs o 4, battery := beField bs (o + 4) 1, signal := beField bs (o + 5) 1 }

theorem sightingAt_drop (bs : List Byte) (k o : Nat) : sightingAt (bs.drop k) o = sightingAt bs (k + o) := by
  simp only [sightingAt, beField_drop, Nat.add_assoc]

/-- A sighting within its ranges. -/
def Sighting.InRange (g : Sighting) : Prop := g.label ≠ 0 ∧ g.battery ≤ 100

theorem parseSightings_some {n : Nat} {bs : List Byte} {gs : List Sighting} (h : parseSightings n bs = some gs) :
    gs.length = n ∧ 6 * n ≤ bs.length
      ∧ ∀ (k : Nat) (g : Sighting), gs[k]? = some g → g = sightingAt bs (6 * k) ∧ g.InRange := by
  induction n generalizing bs gs with
  | zero =>
    cases h
    exact ⟨rfl, Nat.zero_le _, nofun⟩
  | succ n ih =>
    rw [parseSightings] at h
    split at h
    · cases h
    next hin =>
      split at h
      · cases h
      next rest hrest =>
        cases h
        obtain ⟨hlen, hfit, hall⟩ := ih hrest
        rw [List.length_drop] at hfit
        refine ⟨by rw [List.length_cons, hlen], by omega, fun k g hg => ?_⟩
        cases k with
        | zero =>
          cases hg
          exact ⟨rfl, by unfold Sighting.InRange; dsimp only; omega⟩
        | succ k =>
          obtain ⟨hg, hrange⟩ := hall k g hg
          refine ⟨?_, hrange⟩
          rw [hg, sightingAt_drop]
          exact congrArg (sightingAt bs) (by omega)

theorem parseSightings_of_all {n : Nat} {bs : List Byte} (hfit : 6 * n ≤ bs.length)
    (h : ∀ k, k < n → (sightingAt bs (6 * k)).InRange) : ∃ gs, parseSightings n bs = some gs := by
  induction n generalizing bs with
  | zero => exact ⟨[], rfl⟩
  | succ n ih =>
    obtain ⟨hlabel, hbattery⟩ := h 0 (Nat.succ_pos n)
    obtain ⟨gs, hgs⟩ := ih (bs := bs.drop 6) (by rw [List.length_drop]; omega) fun k hk => by
      have := h (k + 1) (by omega)
      simp only [Sighting.InRange, sightingAt, beField_drop] at this ⊢
      rw [show 6 * (k + 1) = 6 + 6 * k by omega] at this
      exact this
    simp only [sightingAt, Nat.mul_zero, Nat.zero_add] at hlabel hbattery
    rw [parseSightings, if_neg (by omega), hgs]
    exact ⟨_, rfl⟩

/-- Sightings are read when they are the ones that stand there and each lies within its ranges. -/
theorem parseSightings_iff {n : Nat} {gs : List Sighting} : parseSightings n bs = some gs ↔
    gs.length = n ∧ 6 * n ≤ bs.length
      ∧ ∀ (k : Nat) (g : Sighting), gs[k]? = some g → g = sightingAt bs (6 * k) ∧ g.InRange := by
  refine ⟨parseSightings_some, fun ⟨hlen, hfit, hall⟩ => ?_⟩
  have hrange : ∀ k, k < n → (sightingAt bs (6 * k)).InRange := fun k hk => by
    obtain ⟨hg, hr⟩ := hall k gs[k] (List.getElem?_eq_getElem (by omega))
    rwa [← hg]
  obtain ⟨xs, hxs⟩ := parseSightings_of_all hfit hrange
  obtain ⟨hxlen, -, hxall⟩ := parseSightings_some hxs
  rw [hxs, eq_of_same_elements (hxlen.trans hlen.symm) fun k x y hx hy =>
    (hxall k x hx).1.trans (hall k y hy).1.symm]

theorem UpdateOutcome.ofCode_iff {c : Nat} {o : UpdateOutcome} : UpdateOutcome.ofCode c = some o ↔
    (c = 1 ∧ o = .shown) ∨ (c = 2 ∧ o = .rejected) ∨ (c = 3 ∧ o = .noAnswer) := by
  unfold UpdateOutcome.ofCode
  split <;> simp_all [eq_comm]

theorem LabelMessage.spelled_of_parse {id : Nat} {m : LabelMessage} (h : LabelMessage.parse bs = some (id, m)) :
    LabelSpelled bs id m := by
  unfold LabelMessage.parse at h
  simp only [beField_drop, List.drop_drop, List.length_drop] at h
  split at h
  · cases h
  next hid =>
    split at h
    next hk =>
      split at h
      · cases h
      · cases h
        exact ⟨rfl, by omega, by omega, hk, rfl, rfl, rfl, by omega, by omega⟩
    next hk =>
      split at h
      · cases h
      next hcount =>
        obtain ⟨gs, hgs, heq⟩ := Option.map_eq_some_iff.mp h
        cases heq
        obtain ⟨hlen, hfit, hall⟩ := parseSightings_iff.mp hgs
        rw [List.length_drop] at hfit
        refine ⟨rfl, by omega, hk, hlen, by omega, by omega, by omega, fun k g hg => ?_⟩
        obtain ⟨hat, hrange⟩ := hall k g hg
        unfold Sighting.InRange at hrange
        rw [sightingAt_drop] at hat
        refine ⟨?_, ?_, ?_, hrange⟩
        · rw [hat]
          exact congrArg (beField bs · 4) (by omega)
        · rw [hat]
          exact congrArg (beField bs · 1) (by omega)
        · rw [hat]
          exact congrArg (beField bs · 1) (by omega)
    next hk =>
      split at h
      · cases h
      · obtain ⟨o, ho, heq⟩ := Option.map_eq_some_iff.mp h
        cases heq
        exact ⟨rfl, by omega, by omega, hk, rfl, rfl, UpdateOutcome.ofCode_iff.mp ho⟩
    · cases h

theorem LabelMessage.parse_of_spelled {id : Nat} {m : LabelMessage} (h : LabelSpelled bs id m) :
    LabelMessage.parse bs = some (id, m) := by
  obtain ⟨rfl, hid, h⟩ := h
  unfold LabelMessage.parse
  simp only [beField_drop, List.drop_drop, List.length_drop, Nat.reduceAdd]
  cases m with
  | hello boot credit zone =>
    obtain ⟨hlen, hk, rfl, rfl, rfl, hlow, hhigh⟩ := h
    rw [if_neg (by omega), hk]
    exact if_neg (by omega)
  | seen gs =>
    obtain ⟨hk, hlen, hlow, hhigh, hfit, hall⟩ := h
    rw [if_neg (by omega), hk]
    refine (if_neg (by omega)).trans ?_
    rw [parseSightings_iff.mpr ⟨hlen, by rw [List.length_drop]; omega, fun k g hg => ?_⟩]
    · rfl
    · obtain ⟨h1, h2, h3, h4, h5⟩ := hall k g hg
      refine ⟨?_, h4, h5⟩
      obtain ⟨label, battery, signal⟩ := g
      dsimp only at h1 h2 h3
      rw [h1, h2, h3, sightingAt_drop]
      unfold sightingAt
      congr 2 <;> omega
  | result tag label o =>
    obtain ⟨hlen, hk, rfl, rfl, ho⟩ := h
    rw [if_neg (by omega), hk]
    refine (if_neg (by omega)).trans ?_
    rw [UpdateOutcome.ofCode_iff.mpr ho]
    rfl

/-- The bytes the label link's parser takes are those that spell a message. -/
theorem LabelMessage.parse_iff {id : Nat} {m : LabelMessage} :
    LabelMessage.parse bs = some (id, m) ↔ LabelSpelled bs id m :=
  ⟨LabelMessage.spelled_of_parse, LabelMessage.parse_of_spelled⟩

/-! ### Messages of the server (R124, R125, R210) -/

theorem beField_head (t : Byte) (rest : List Byte) : beField (t :: rest) 0 1 = t.toNat := by
  simp [beField, fieldBytes, beNat, leNat]

/-- The price change that bytes spell. -/
def changeOf (bs : List Byte) : BatchEntry :=
  .change (beField bs 1 8) (beField bs 9 4) (promoOf (beField bs 13 1) (beField bs 14 4))

/-- The new item that bytes spell. -/
def newItemOf (bs : List Byte) : BatchEntry :=
  .newItem { article := beField bs 1 8, textLength := beField bs 9 1, text := fieldBytes bs 10 24
             saleKind := beField bs 34 1, measure := beField bs 35 1, packQty := beField bs 36 4, refQty := beField bs 40 2
             base := beField bs 42 4, promo := promoOf (beField bs 46 1) (beField bs 47 4) }

theorem changeOf_take (bs : List Byte) : changeOf (bs.take 18) = changeOf bs := by
  unfold changeOf
  congr 1
  · exact beField_take (by decide)
  · exact beField_take (by decide)
  · exact congrArg₂ promoOf (beField_take (by decide)) (beField_take (by decide))

theorem newItemOf_take (bs : List Byte) : newItemOf (bs.take 51) = newItemOf bs := by
  have hfield : ∀ a n, a + n ≤ 51 → beField (bs.take 51) a n = beField bs a n := fun a n h => beField_take h
  unfold newItemOf
  rw [hfield 1 8 (by decide), hfield 9 1 (by decide), hfield 34 1 (by decide), hfield 35 1 (by decide),
    hfield 36 4 (by decide), hfield 40 2 (by decide), hfield 42 4 (by decide), hfield 46 1 (by decide),
    hfield 47 4 (by decide), fieldBytes_take (by decide)]

theorem BatchEntry.parse_eq (bs : List Byte) : BatchEntry.parse bs =
    if beField bs 0 1 = 1 then if bs.length < 18 then none else some (changeOf bs, 18)
    else if beField bs 0 1 = 2 then if bs.length < 51 then none else some (newItemOf bs, 51)
    else none := by
  cases bs with
  | nil => rfl
  | cons t rest =>
    have hbyte : ∀ v : Byte, t = v ↔ t.toNat = v.toNat := fun v => BitVec.toNat_inj.symm
    unfold BatchEntry.parse
    dsimp only
    rw [beField_head]
    simp only [hbyte]
    rfl

theorem entrySpelled_iff {e : BatchEntry} : EntrySpelled bs e ↔
    (bs.length = 18 ∧ beField bs 0 1 = 1 ∧ e = changeOf bs) ∨ (bs.length = 51 ∧ beField bs 0 1 = 2 ∧ e = newItemOf bs) := by
  cases e with
  | change article base promo =>
    simp only [changeOf, newItemOf, BatchEntry.change.injEq, reduceCtorEq, and_false, or_false]
    exact Iff.rfl
  | newItem e =>
    simp only [changeOf, newItemOf, BatchEntry.newItem.injEq, reduceCtorEq, and_false, false_or]
    exact Iff.rfl

/-- An entry is read with the bytes that spell it. -/
theorem BatchEntry.parse_iff {e : BatchEntry} {k : Nat} : BatchEntry.parse bs = some (e, k) ↔
    k ≤ bs.length ∧ EntrySpelled (bs.take k) e := by
  rw [BatchEntry.parse_eq, entrySpelled_iff, List.length_take]
  constructor
  · intro h
    split at h
    next ht =>
      split at h
      · cases h
      · cases h
        exact ⟨by omega, .inl ⟨by omega, (beField_take (by decide)).trans ht, (changeOf_take bs).symm⟩⟩
    split at h
    next ht =>
      split at h
      · cases h
      · cases h
        exact ⟨by omega, .inr ⟨by omega, (beField_take (by decide)).trans ht, (newItemOf_take bs).symm⟩⟩
    · cases h
  · rintro ⟨hk, ⟨hlen, ht, rfl⟩ | ⟨hlen, ht, rfl⟩⟩
    · obtain rfl : k = 18 := by omega
      rw [beField_take (by decide)] at ht
      rw [if_pos ht, if_neg (by omega), changeOf_take]
    · obtain rfl : k = 51 := by omega
      rw [beField_take (by decide)] at ht
      rw [if_neg (by omega), if_pos ht, if_neg (by omega), newItemOf_take]

/-- A number of entries is read with the bytes that spell them. -/
theorem BatchEntry.parseMany_iff {n k : Nat} {es : List BatchEntry} : BatchEntry.parseMany n bs = some (es, k) ↔
    es.length = n ∧ k ≤ bs.length ∧ EntriesSpelled es (bs.take k) := by
  induction n generalizing bs es k with
  | zero =>
    rw [BatchEntry.parseMany]
    constructor
    · intro h
      cases h
      exact ⟨rfl, Nat.zero_le _, rfl⟩
    · rintro ⟨hlen, hk, hes⟩
      obtain rfl := List.length_eq_zero_iff.mp hlen
      have hnil : (bs.take k).length = 0 := congrArg List.length hes
      rw [List.length_take] at hnil
      obtain rfl : k = 0 := by omega
      rfl
  | succ n ih =>
    rw [BatchEntry.parseMany]
    constructor
    · intro h
      split at h
      · cases h
      next e a he =>
        split at h
        · cases h
        next rest b hrest =>
          cases h
          obtain ⟨ha, hspelled⟩ := BatchEntry.parse_iff.mp he
          obtain ⟨hlen, hb, hes⟩ := ih.mp hrest
          rw [List.length_drop] at hb
          exact ⟨by rw [List.length_cons, hlen], by omega, bs.take a, (bs.drop a).take b, List.take_add, hspelled, hes⟩
    · rintro ⟨hlen, hk, hes⟩
      cases es with
      | nil => cases hlen
      | cons e es =>
        obtain ⟨xs, ys, hall, he, hes⟩ := hes
        have hsum : k = xs.length + ys.length := by
          have := congrArg List.length hall
          rw [List.length_take, List.length_append] at this
          omega
        have hbs : bs = xs ++ (ys ++ bs.drop k) := by
          rw [← List.append_assoc, ← hall, List.take_append_drop]
        have hxs : bs.take xs.length = xs := by rw [hbs, List.take_left]
        have hys : (bs.drop xs.length).take ys.length = ys := by rw [hbs, List.drop_left, List.take_left]
        rw [BatchEntry.parse_iff.mpr ⟨by omega, hxs.symm ▸ he⟩]
        dsimp only
        rw [ih.mpr ⟨Nat.succ_inj.mp hlen, by rw [List.length_drop]; omega, hys.symm ▸ hes⟩, hsum]

theorem ServerMessage.spelled_of_parse {kind : Nat} {m : ServerMessage} (h : ServerMessage.parse kind body = some m) :
    MessageSpelled kind body m := by
  unfold ServerMessage.parse at h
  split at h
  · split at h
    · cases h
    · cases h
      exact ⟨rfl, by omega, rfl⟩
  · split at h
    · cases h
    · cases h
      exact ⟨rfl, by omega, rfl⟩
  · split at h
    · cases h
    · dsimp only at h
      split at h
      · cases h
      · split at h
        · cases h
        next es k hes =>
          cases h
          obtain ⟨hlen, hk, hes⟩ := BatchEntry.parseMany_iff.mp hes
          rw [List.length_drop] at hk
          refine ⟨rfl, by omega, rfl, rfl, hlen.symm, by omega, by omega, ?_, hes⟩
          unfold fieldBytes
          rw [List.length_take, List.length_drop, Nat.min_eq_left hk]
  · split at h
    · cases h
    · cases h
      exact ⟨rfl, by omega, rfl, rfl, rfl⟩
  · cases h
    rfl
  · cases h
    rfl
  · split at h
    · cases h
    · cases h
      exact ⟨rfl, by omega, rfl⟩
  · cases h

theorem ServerMessage.parse_of_spelled {kind : Nat} {m : ServerMessage} (h : MessageSpelled kind body m) :
    ServerMessage.parse kind body = some m := by
  cases m with
  | welcome a =>
    obtain ⟨rfl, hlen, rfl⟩ := h
    exact if_neg (by omega)
  | jack a =>
    obtain ⟨rfl, hlen, rfl⟩ := h
    exact if_neg (by omega)
  | pblock batch index es bytes =>
    obtain ⟨rfl, hlen, rfl, rfl, hcount, hlow, hhigh, hbytes, hes⟩ := h
    have hk : bytes.length ≤ (body.drop 7).length := by
      have := congrArg List.length hbytes
      rw [List.length_take] at this
      omega
    have hread : BatchEntry.parseMany (beField body 6 1) (body.drop 7) = some (es, bytes.length) :=
      BatchEntry.parseMany_iff.mpr ⟨hcount.symm, hk, hbytes ▸ hes⟩
    refine (if_neg (by omega)).trans ((if_neg (by omega)).trans ?_)
    rw [hread]
    show some (ServerMessage.pblock (beField body 0 4) (beField body 4 2) es (fieldBytes body 7 bytes.length)) = _
    rw [show fieldBytes body 7 bytes.length = bytes from hbytes.symm]
  | commit batch count crc =>
    obtain ⟨rfl, hlen, rfl, rfl, rfl⟩ := h
    exact if_neg (by omega)
  | noMore =>
    obtain rfl := h
    rfl
  | byeAck =>
    obtain rfl := h
    rfl
  | refuse reason =>
    obtain ⟨rfl, hlen, rfl⟩ := h
    exact if_neg (by omega)

theorem ServerMessage.parse_iff {kind : Nat} {m : ServerMessage} :
    ServerMessage.parse kind body = some m ↔ MessageSpelled kind body m :=
  ⟨ServerMessage.spelled_of_parse, ServerMessage.parse_of_spelled⟩

/-- A message taken by the checks of R125 is one from the server, under a good header, that spells it. -/
theorem Exchange.parse_iff {x : Exchange} {source : Ipv4Addr} {m : ServerMessage} : x.parse source bs = some m ↔
    (x.state ≠ .idle ∧ source = x.serverIp ∧ MessageHeaderGood x bs)
      ∧ MessageSpelled (beField bs 2 1) (bs.drop 12) m := by
  unfold Exchange.parse MessageHeaderGood
  rw [← ServerMessage.parse_iff]
  split
  next hno =>
    refine ⟨nofun, fun ⟨⟨hstate, hsource, hlen, _⟩, _⟩ => ?_⟩
    rcases hno with h | h | h
    · exact absurd h hstate
    · exact absurd hsource h
    · omega
  next hyes =>
    simp only [not_or, not_not] at hyes
    obtain ⟨hstate, hsource, hlen⟩ := hyes
    split
    next hno =>
      refine ⟨nofun, fun ⟨⟨_, _, _, hmark, hbranch, hcrc⟩, _⟩ => ?_⟩
      rcases hno with h | h | h
      · exact absurd hmark h
      · exact absurd hbranch h
      · exact absurd hcrc h
    next hyes =>
      simp only [not_or, not_not] at hyes
      exact ⟨fun h => ⟨⟨hstate, hsource, by omega, hyes⟩, h⟩, fun h => h.2⟩

end Sys2Proof.Machine
end

section
/-! PROOFS. FRAME_RECEIVE up to step 1 (R145, R148, R149, R153): the frame check, the source learned, frames for the part. -/

namespace Sys2Proof.Machine

variable {s t u v : State} {p q : Port} {f : Frame} {role : Role} {ok : Bool} {bytes : List Byte} {r : DropReason}

/-! ### A frame received (R145, R148, R153) -/

/-- The counters of a port once a frame received has been counted. -/
abbrev PortCounters.received (c : PortCounters) : PortCounters := { c with framesIn := c.framesIn + 1 }

/-- A source is learned: no group, neither the controller's nor the appliance's, and with room in the table (R153). -/
abbrev State.Learns (s : State) (a : MacAddr) : Prop :=
  isGroup a = false ∧ a ≠ s.net.controller ∧ a ≠ s.net.appliance
    ∧ ((s.stationRecord a).isSome = true ∨ s.net.stations.length < 1024)

/-- The station table once a source has been offered for learning. -/
def State.learnedTable (s : State) (a : MacAddr) (p : Port) : Table StationRecord :=
  if s.Learns a then s.net.stations.put a.toNat { port := p, lastSeen := s.now } else s.net.stations

/-- The state once a frame that passes the frame check has been counted on its port and its source learned. -/
def State.arrived (s : State) (a : MacAddr) (p : Port) : State :=
  s.setNet { s.net with
    ports := s.net.ports.set p { s.port p with counters := (s.port p).counters.received }
    stations := s.learnedTable a p }

/-- Between two states a source has been learned from a port (R153). -/
def LearnedFrom (s t : State) (p : Port) (a : MacAddr) : Prop :=
  ∀ b, t.stationRecord b = if b = a ∧ isGroup b = false ∧ b ≠ s.net.controller ∧ b ≠ s.net.appliance
      ∧ ((s.stationRecord b).isSome = true ∨ s.net.stations.length < 1024)
    then some { port := p, lastSeen := s.now } else s.stationRecord b

theorem State.learn_arrived (s : State) (a : MacAddr) (hg : (s.port p).role ≠ some .guest) :
    (s.countIn p).learn a p = s.arrived a p := by
  have hport : (s.countIn p).port p = { s.port p with counters := (s.port p).counters.received } := PerPort.get_set_same _ _ _
  have hguest : (s.countIn p).hasRole p .guest = false := by
    unfold State.hasRole
    rw [hport]
    exact beq_eq_false_iff_ne.mpr hg
  have hrecord : (s.countIn p).stationRecord a = s.stationRecord a := rfl
  have hstations : (s.countIn p).net.stations = s.net.stations := rfl
  have hcontroller : (s.countIn p).net.controller = s.net.controller := rfl
  have happliance : (s.countIn p).net.appliance = s.net.appliance := rfl
  unfold State.learn State.arrived State.learnedTable
  rw [hguest, hrecord, hstations, hcontroller, happliance]
  split
  next hno =>
    simp only [Bool.or_eq_true, beq_iff_eq, Bool.false_eq_true, or_false] at hno
    have hl : ¬ s.Learns a := fun ⟨h1, h2, h3, _⟩ => by
      rw [h1] at hno
      rcases hno with (h | h) | h
      · cases h
      · exact h2 h
      · exact h3 h
    rw [if_neg hl]
    rfl
  next hyes =>
    simp only [Bool.or_eq_true, beq_iff_eq, not_or, Bool.not_eq_true] at hyes
    obtain ⟨⟨⟨h1, -⟩, h2⟩, h3⟩ := hyes
    by_cases h4 : (s.stationRecord a).isSome = true ∨ s.net.stations.length < 1024
    · rw [if_pos h4, if_pos (show s.Learns a from ⟨h1, h2, h3, h4⟩)]
      rfl
    · rw [if_neg h4, if_neg (show ¬ s.Learns a from fun h => h4 h.2.2.2)]
      rfl

theorem LearnedFrom.arrived (s : State) (p : Port) (a : MacAddr) : LearnedFrom s (s.arrived a p) p a := by
  intro b
  have hfind : (s.arrived a p).stationRecord b = (s.learnedTable a p).find b.toNat := rfl
  rw [hfind]
  unfold State.learnedTable
  by_cases hl : s.Learns a
  · rw [if_pos hl, Table.find_put]
    by_cases hb : b = a
    · subst hb
      rw [if_pos rfl, if_pos ⟨rfl, hl⟩]
    · rw [if_neg (fun h => hb (BitVec.toNat_inj.mp h)), if_neg (fun h => hb h.1)]
      rfl
  · rw [if_neg hl, if_neg]
    · rfl
    · rintro ⟨rfl, h⟩
      exact hl h

theorem LearnedFrom.of_stations {a : MacAddr} (h : LearnedFrom s t p a) (hu : u.net.stations = t.net.stations) :
    LearnedFrom s u p a := fun b => by
  have hb : u.stationRecord b = t.stationRecord b := by unfold State.stationRecord; rw [hu]
  rw [hb]
  exact h b

/-- Learning a source leaves every other station's record. -/
theorem State.arrived_record {a b : MacAddr} (s : State) (p : Port) (h : b ≠ a) :
    (s.arrived a p).stationRecord b = s.stationRecord b := by
  rw [LearnedFrom.arrived s p a b, if_neg (fun hb => h hb.1)]

theorem State.arrived_port_same (s : State) (a : MacAddr) (p : Port) :
    (s.arrived a p).port p = { s.port p with counters := (s.port p).counters.received } := PerPort.get_set_same _ _ _

theorem State.arrived_port_other (s : State) (a : MacAddr) (h : q ≠ p) : (s.arrived a p).port q = s.port q :=
  PerPort.get_set_other _ _ h

/-- An arrival changes nothing of a port but the counters of the port it comes in by. -/
theorem State.arrived_port (s : State) (a : MacAddr) (p q : Port) : { (s.arrived a p).port q with
    counters := (s.port q).counters } = s.port q := by
  by_cases h : q = p
  · subst h
    rw [State.arrived_port_same]
  · rw [State.arrived_port_other _ _ h]

theorem State.arrived_role (s : State) (a : MacAddr) (p q : Port) : ((s.arrived a p).port q).role = (s.port q).role :=
  (congrArg PortState.role (s.arrived_port a p q) :)

theorem State.arrived_linkUp (s : State) (a : MacAddr) (p q : Port) : ((s.arrived a p).port q).linkUp = (s.port q).linkUp :=
  (congrArg PortState.linkUp (s.arrived_port a p q) :)

theorem State.arrived_lan (s : State) (a : MacAddr) (p q : Port) : ((s.arrived a p).port q).lan = (s.port q).lan :=
  (congrArg PortState.lan (s.arrived_port a p q) :)

theorem State.arrived_lanCap (s : State) (a : MacAddr) (p q : Port) : ((s.arrived a p).port q).lanCap = (s.port q).lanCap :=
  (congrArg PortState.lanCap (s.arrived_port a p q) :)

theorem State.arrived_frame (s : State) (a : MacAddr) (p : Port) : (s.arrived a p).setNet s.net = s := rfl

theorem State.arrived_uplink (s : State) (a : MacAddr) (p : Port) : (s.arrived a p).net.uplink = s.net.uplink := by
  have hrole : ∀ q, ((s.arrived a p).net.ports.get q).role = (s.net.ports.get q).role := s.arrived_role a p
  unfold Forwarding.uplink
  simp only [hrole]

theorem State.arrived_joins (s : State) (a : MacAddr) (p q : Port) : (s.arrived a p).JoinsLan q ↔ s.JoinsLan q := by
  unfold State.JoinsLan
  rw [State.arrived_linkUp, State.arrived_lan, State.arrived_lanCap]
  exact Iff.rfl

theorem State.arrived_lanDropReason (s : State) (a : MacAddr) (p q : Port) :
    (s.arrived a p).lanDropReason q = s.lanDropReason q := by
  unfold State.lanDropReason
  rw [State.arrived_linkUp]
  rfl

/-! ### The frame check (R148) -/

/-- A frame of a length from 64 to 1,518 with its check sequence right, and no MAC control frame. -/
abbrev FrameInForm (ok : Bool) (bytes : List Byte) : Prop :=
  ok = true ∧ 64 ≤ bytes.length ∧ bytes.length ≤ 1518 ∧ (Frame.ofBytes bytes).etherType ≠ 0x8808

theorem goodFrame_iff : goodFrame ok bytes = true ↔ FrameInForm ok bytes := by
  unfold goodFrame FrameInForm controlType
  rw [Bool.and_eq_true, Bool.and_eq_true, Bool.and_eq_true, decide_eq_true_iff, decide_eq_true_iff, bne_iff_ne, and_assoc,
    and_assoc]

theorem State.countIn_role (s : State) (p : Port) : ((s.countIn p).port p).role = (s.port p).role := by
  have hport : (s.countIn p).port p = { s.port p with counters := (s.port p).counters.received } := PerPort.get_set_same _ _ _
  rw [hport]

theorem State.receive_refused (h : s.requests.runState = .stopped ∨ (s.port p).role = none) :
    s.receive p ok bytes = (s.countIn p).countDrop p .policy := by
  have hrun : (s.countIn p).requests.runState = s.requests.runState := rfl
  unfold State.receive
  dsimp only
  rw [State.countIn_role, hrun]
  rcases h with h | h
  · rw [h]
  · rw [h]
    cases s.requests.runState <;> rfl

theorem State.receive_badForm (hrun : s.requests.runState = .running) (hrole : (s.port p).role ≠ none)
    (h : ¬ FrameInForm ok bytes) : s.receive p ok bytes = (s.countIn p).countDrop p .unknown := by
  obtain ⟨role, hrole⟩ := Option.ne_none_iff_exists'.mp hrole
  have hbad : goodFrame ok bytes = false := Bool.eq_false_iff.mpr fun hg => h (goodFrame_iff.mp hg)
  have hrun' : (s.countIn p).requests.runState = .running := hrun
  unfold State.receive
  dsimp only
  rw [State.countIn_role, hrole, hrun', hbad]
  rfl

/-- A frame that passes the frame check goes on from the state in which it has arrived. -/
theorem State.receive_arrived (hrun : s.requests.runState = .running) (hrole : (s.port p).role = some role)
    (hg : role ≠ .guest) (h : FrameInForm ok bytes) :
    s.receive p ok bytes = (s.arrived (Frame.ofBytes bytes).source p).steps p role (Frame.ofBytes bytes) := by
  have hrun' : (s.countIn p).requests.runState = .running := hrun
  unfold State.receive
  dsimp only
  rw [State.countIn_role, hrole, hrun', goodFrame_iff.mpr h]
  dsimp only
  rw [State.learn_arrived s _ (by rw [hrole]; exact fun h => hg (Option.some.inj h)), if_neg hg]
  rfl

theorem exec_frameReceive (hs : s.Sound) (h : s.receive p ok bytes = t) (hdue : t.link.due = s.link.due) :
    exec (.frameReceive p ok bytes) s = .next t := by
  have hsettle := State.settle_of_none t (hdue.trans hs.2.2)
  exact powered_next hs.1 (by rw [h, hsettle])

/-! ### What becomes of a frame that has arrived -/

/-- Between two states a frame received on a port has been counted there, and dropped for a reason. -/
def DroppedOn (s t : State) (p : Port) (r : DropReason) : Prop :=
  (t.port p).counters = (s.port p).counters.received.drop r
    ∧ { t.port p with counters := (s.port p).counters } = s.port p ∧ ∀ q, q ≠ p → t.port q = s.port q

theorem DroppedOn.of_port (hp : t.port p = { s.port p with counters := (s.port p).counters.received.drop r })
    (ho : ∀ q, q ≠ p → t.port q = s.port q) : DroppedOn s t p r := by
  unfold DroppedOn
  rw [hp]
  exact ⟨rfl, rfl, ho⟩

theorem DroppedOn.countIn (s : State) (p : Port) (r : DropReason) : DroppedOn s ((s.countIn p).countDrop p r) p r := by
  have hin : (s.countIn p).port p = { s.port p with counters := (s.port p).counters.received } := PerPort.get_set_same _ _ _
  refine .of_port ?_ fun q hq => ?_
  · unfold State.countDrop
    rw [hin]
    exact PerPort.get_set_same _ _ _
  · exact (PerPort.get_set_other _ _ hq).trans (PerPort.get_set_other _ _ hq)

theorem DroppedOn.arrived (s : State) (a : MacAddr) (p : Port) (r : DropReason) :
    DroppedOn s ((s.arrived a p).countDrop p r) p r := by
  refine .of_port ?_ fun q hq => ?_
  · unfold State.countDrop
    rw [State.arrived_port_same]
    exact PerPort.get_set_same _ _ _
  · exact (PerPort.get_set_other _ _ hq).trans (s.arrived_port_other a hq)

/-- A frame that passes the frame check on a port of a role that is not GUEST. -/
structure Passes (s : State) (p : Port) (role : Role) (ok : Bool) (bytes : List Byte) : Prop where
  sound : s.Sound
  running : s.requests.runState = .running
  onPort : (s.port p).role = some role
  notGuest : role ≠ .guest
  inForm : FrameInForm ok bytes

/-- A frame received is dropped for a reason, its source learned; nothing else has changed. -/
def Drops (s : State) (p : Port) (ok : Bool) (bytes : List Byte) (r : DropReason) : Prop :=
  ∃ t, exec (.frameReceive p ok bytes) s = .next t ∧ DroppedOn s t p r ∧ t.net.classes = s.net.classes
    ∧ t.net.delivery = s.net.delivery ∧ LearnedFrom s t p (Frame.ofBytes bytes).source ∧ t.setNet s.net = s

theorem Passes.next (h : Passes s p role ok bytes)
    (ht : (s.arrived (Frame.ofBytes bytes).source p).steps p role (Frame.ofBytes bytes) = t)
    (hdue : t.link.due = s.link.due) : exec (.frameReceive p ok bytes) s = .next t :=
  exec_frameReceive h.sound ((State.receive_arrived h.running h.onPort h.notGuest h.inForm).trans ht) hdue

theorem Passes.arrived_role (h : Passes s p role ok bytes) (a : MacAddr) : ((s.arrived a p).port p).role = some role :=
  (s.arrived_role a p p).trans h.onPort

theorem Drops.of_steps (h : Passes s p role ok bytes)
    (ht : (s.arrived (Frame.ofBytes bytes).source p).steps p role (Frame.ofBytes bytes)
      = (s.arrived (Frame.ofBytes bytes).source p).countDrop p r) : Drops s p ok bytes r :=
  ⟨_, h.next ht rfl, .arrived .., rfl, rfl, LearnedFrom.arrived s p _, rfl⟩

/-! ### Step 1: frames for the part (R149) -/

theorem State.hasRole_iff (hr : (v.port p).role = some role) (x : Role) : v.hasRole p x = true ↔ role = x := by
  unfold State.hasRole
  rw [hr, beq_iff_eq, Option.some.injEq]

theorem State.consumeLink_till_some (hr : (v.port p).role = some .till) (hd : f.dest = v.net.controller)
    (he : f.etherType = v.net.tillType) {m : TillMessage} (hm : TillMessage.parse f.payload = some m) :
    v.consumeLink p f = some (v.setTills { v.tills with
      inbox := v.tills.inbox ++ [{ port := p, source := f.source, till := beField f.payload 1 1, message := m }] }) := by
  unfold State.consumeLink
  rw [if_neg (not_not_intro hd), if_pos ⟨he, (State.hasRole_iff hr _).mpr rfl⟩, hm]

theorem State.consumeLink_till_none (hr : (v.port p).role = some .till) (hd : f.dest = v.net.controller)
    (he : f.etherType = v.net.tillType) (hm : TillMessage.parse f.payload = none) :
    v.consumeLink p f = some (v.countDrop p .unknown) := by
  unfold State.consumeLink
  rw [if_neg (not_not_intro hd), if_pos ⟨he, (State.hasRole_iff hr _).mpr rfl⟩, hm]

theorem State.consumeLink_label_some (hr : (v.port p).role = some .label) (hd : f.dest = v.net.controller)
    (he : f.etherType = v.net.labelType) {id : Nat} {m : LabelMessage}
    (hm : LabelMessage.parse f.payload = some (id, m)) :
    v.consumeLink p f = some (v.setLink { v.link with
      inbox := v.link.inbox ++ [{ port := p, source := f.source, station := id, message := m }] }) := by
  have hno : ¬ (f.etherType = v.net.tillType ∧ v.hasRole p .till = true) := fun h => by
    cases (State.hasRole_iff hr _).mp h.2
  unfold State.consumeLink
  rw [if_neg (not_not_intro hd), if_neg hno, if_pos ⟨he, (State.hasRole_iff hr _).mpr rfl⟩, hm]

theorem State.consumeLink_label_none (hr : (v.port p).role = some .label) (hd : f.dest = v.net.controller)
    (he : f.etherType = v.net.labelType) (hm : LabelMessage.parse f.payload = none) :
    v.consumeLink p f = some (v.countDrop p .unknown) := by
  have hno : ¬ (f.etherType = v.net.tillType ∧ v.hasRole p .till = true) := fun h => by
    cases (State.hasRole_iff hr _).mp h.2
  unfold State.consumeLink
  rw [if_neg (not_not_intro hd), if_neg hno, if_pos ⟨he, (State.hasRole_iff hr _).mpr rfl⟩, hm]

theorem State.consumeLink_other (hr : (v.port p).role = some role) (h : f.dest = v.net.controller →
    (f.etherType ≠ v.net.tillType ∨ role ≠ .till) ∧ (f.etherType ≠ v.net.labelType ∨ role ≠ .label)) :
    v.consumeLink p f = none := by
  unfold State.consumeLink
  split
  · rfl
  next hd =>
    obtain ⟨h1, h2⟩ := h (not_not.mp hd)
    rw [if_neg, if_neg]
    · exact fun ⟨he, hl⟩ => h2.elim (· he) (· ((State.hasRole_iff hr _).mp hl))
    · exact fun ⟨he, hl⟩ => h1.elim (· he) (· ((State.hasRole_iff hr _).mp hl))

theorem ipv4HeaderLength_eq (bs : List Byte) : ipv4HeaderLength bs =
    if beField bs 0 1 / 16 = 4 ∧ 5 ≤ beField bs 0 1 % 16 ∧ 4 * (beField bs 0 1 % 16) ≤ bs.length
    then some (4 * (beField bs 0 1 % 16)) else none := by
  unfold ipv4HeaderLength
  dsimp only
  by_cases h : beField bs 0 1 / 16 = 4 ∧ 5 ≤ beField bs 0 1 % 16 ∧ 4 * (beField bs 0 1 % 16) ≤ bs.length
  · rw [if_pos h, if_pos (by omega), Nat.mul_comm]
  · rw [if_neg h, if_neg (by omega)]

/-- The bytes of the UDP datagram in an IPv4 datagram's payload (log 57). -/
abbrev udpIn (bs : List Byte) : List Byte := (bs.take (beField bs 2 2)).drop (4 * (beField bs 0 1 % 16))

/-- The UDP datagram is one to a port. -/
abbrev UdpTo (bs : List Byte) (port : Nat) : Prop :=
  beField bs 9 1 = 17 ∧ 8 ≤ (udpIn bs).length ∧ beField (udpIn bs) 2 2 = port

/-- What step 1 makes of a frame that the UPLINK port looks into for the exchange. -/
theorem State.consumeExchange_own (hr : (v.port p).role = some role) (h : v.OwnDatagram role f) : v.consumeExchange p f =
    if beField f.payload 6 2 % 16384 ≠ 0 then some (v.countDrop p .unknown)
    else if UdpTo f.payload v.exchange.udpPort then
      some ((v.exchange.parse (BitVec.ofNat 32 (beField f.payload 12 4))
          (fieldBytes (udpIn f.payload) 8 (beField (udpIn f.payload) 4 2 - 8))).elim v
        (fun m => v.setExchange { v.exchange with inbox := v.exchange.inbox ++ [m] }))
    else none := by
  obtain ⟨hup, he, hd, hversion, hwords, hlen, hip⟩ := h
  have hrole : v.hasRole p .uplink = true := (State.hasRole_iff hr _).mpr hup
  have hlook : (!v.hasRole p .uplink || f.etherType != 0x0800
      || (f.dest != v.net.controller && f.dest != v.net.appliance)) = false := by
    rw [hrole, he]
    rcases hd with hd | hd
    · simp [hd]
    · simp [hd]
  unfold State.consumeExchange
  rw [hlook, if_neg Bool.false_ne_true, ipv4HeaderLength_eq, if_pos ⟨hversion, hwords, hlen⟩]
  dsimp only
  rw [if_neg (not_not_intro hip)]
  unfold isFragment udpOf
  by_cases hfragment : beField f.payload 6 2 % 16384 ≠ 0
  · rw [if_pos hfragment, if_pos (bne_iff_ne.mpr hfragment)]
  · rw [if_neg hfragment, if_neg (fun h => hfragment (bne_iff_ne.mp h))]
    by_cases hudp : beField f.payload 9 1 ≠ 17 ∨ (udpIn f.payload).length < 8
    · have hno : ¬ UdpTo f.payload v.exchange.udpPort := fun ⟨h1, h2, _⟩ => hudp.elim (· h1) (by omega)
      rw [if_neg hno, if_pos hudp]
    · rw [if_neg hudp]
      obtain ⟨h1, h2⟩ := not_or.mp hudp
      dsimp only
      by_cases hport : beField (udpIn f.payload) 2 2 = v.exchange.udpPort
      · rw [if_pos (show UdpTo f.payload v.exchange.udpPort from ⟨not_not.mp h1, by omega, hport⟩),
          if_neg (not_not_intro hport)]
        cases v.exchange.parse (BitVec.ofNat 32 (beField f.payload 12 4))
          (fieldBytes (udpIn f.payload) 8 (beField (udpIn f.payload) 4 2 - 8)) with
        | none => rfl
        | some m => rfl
      · rw [if_neg (show ¬ UdpTo f.payload v.exchange.udpPort from fun h => hport h.2.2), if_pos hport]

theorem State.consumeExchange_notOwn (hr : (v.port p).role = some role) (h : ¬ v.OwnDatagram role f) :
    v.consumeExchange p f = none := by
  unfold State.consumeExchange
  split
  · rfl
  next hlook =>
    simp only [Bool.or_eq_true, Bool.not_eq_true', bne_iff_ne, Bool.and_eq_true, not_or, not_and_or, not_not,
      Bool.not_eq_false] at hlook
    obtain ⟨⟨hup, he⟩, hd⟩ := hlook
    rw [ipv4HeaderLength_eq]
    by_cases hlen : beField f.payload 0 1 / 16 = 4 ∧ 5 ≤ beField f.payload 0 1 % 16
        ∧ 4 * (beField f.payload 0 1 % 16) ≤ f.payload.length
    · rw [if_pos hlen]
      exact if_pos fun hip => h ⟨(State.hasRole_iff hr _).mp hup, he, hd, hlen.1, hlen.2.1, hlen.2.2, hip⟩
    · rw [if_neg hlen]

theorem State.consumeExchange_other (hr : (v.port p).role = some role) (h : ¬ v.ExchangeDatagram role f) :
    v.consumeExchange p f = none := by
  by_cases hown : v.OwnDatagram role f
  · rw [State.consumeExchange_own hr hown, if_neg fun hfragment => h ⟨hown, .inl hfragment⟩,
      if_neg fun hudp => h ⟨hown, .inr hudp⟩]
  · exact State.consumeExchange_notOwn hr hown

theorem State.steps_link (h : v.consumeLink p f = some u) : v.steps p role f = u := by
  unfold State.steps State.consume
  rw [h]

theorem State.steps_exchange (hl : v.consumeLink p f = none) (h : v.consumeExchange p f = some u) :
    v.steps p role f = u := by
  unfold State.steps State.consume
  rw [hl, h]

theorem State.steps_controller (hl : v.consumeLink p f = none) (hx : v.consumeExchange p f = none)
    (hd : f.dest = v.net.controller) : v.steps p role f = v.countDrop p .unknown := by
  unfold State.steps State.consume
  rw [hl, hx]
  dsimp only
  rw [if_pos hd]

/-- A frame that is not for the part goes on to steps 2 to 4. -/
theorem State.steps_forward (hr : (v.port p).role = some role) (hd : f.dest ≠ v.net.controller)
    (hx : ¬ v.ExchangeDatagram role f) : v.steps p role f = v.forward p role f := by
  unfold State.steps State.consume
  rw [State.consumeLink_other hr fun h => absurd h hd, State.consumeExchange_other hr hx]
  dsimp only
  rw [if_neg hd]

end Sys2Proof.Machine
end

section
/-! PROOFS. FRAME_RECEIVE, steps 2 to 4 for a frame with one destination (R147, R150-R152, R155, R156, R168). -/

namespace Sys2Proof.Machine

variable {s t u v : State} {p q : Port} {f : Frame} {target : Target} {role : Role} {ok : Bool} {bytes : List Byte} {r : DropReason}

/-! ### Frames for the controller (R149, R41, R103, R125) -/

theorem State.arrived_counters (s : State) (a : MacAddr) (p : Port) :
    ((s.arrived a p).port p).counters = (s.port p).counters.received :=
  (congrArg PortState.counters (s.arrived_port_same a p) :)

/-- A till link frame on a TILL port is handed over when it spells a message. -/
theorem till_handedOver (h : Passes s p .till ok bytes) (hd : (Frame.ofBytes bytes).dest = s.net.controller)
    (he : (Frame.ofBytes bytes).etherType = s.net.tillType) {m : TillMessage}
    (hm : TillSpelled (Frame.ofBytes bytes).payload m) :
    ∃ t, exec (.frameReceive p ok bytes) s = .next t
      ∧ t.tills = { s.tills with
          inbox := s.tills.inbox ++ [{ port := p, source := (Frame.ofBytes bytes).source
                                       till := beField (Frame.ofBytes bytes).payload 1 1, message := m }] }
      ∧ (t.port p).counters = (s.port p).counters.received ∧ LearnedFrom s t p (Frame.ofBytes bytes).source
      ∧ (t.setTills s.tills).setNet s.net = s :=
  ⟨_, h.next (State.steps_link (State.consumeLink_till_some (h.arrived_role _) hd he (TillMessage.parse_iff.mpr hm))) rfl,
    rfl, s.arrived_counters (Frame.ofBytes bytes).source p, LearnedFrom.arrived s p (Frame.ofBytes bytes).source, rfl⟩

theorem till_dropped (h : Passes s p .till ok bytes) (hd : (Frame.ofBytes bytes).dest = s.net.controller)
    (he : (Frame.ofBytes bytes).etherType = s.net.tillType) (hm : ∀ m, ¬ TillSpelled (Frame.ofBytes bytes).payload m) :
    Drops s p ok bytes .unknown :=
  .of_steps h (State.steps_link (State.consumeLink_till_none (h.arrived_role _) hd he
    (Option.eq_none_iff_forall_not_mem.mpr fun m hp => hm m (TillMessage.parse_iff.mp hp))))

/-- A label link frame on a LABEL port is handed over when it spells a message. -/
theorem label_handedOver (h : Passes s p .label ok bytes) (hd : (Frame.ofBytes bytes).dest = s.net.controller)
    (he : (Frame.ofBytes bytes).etherType = s.net.labelType) {id : Nat} {m : LabelMessage}
    (hm : LabelSpelled (Frame.ofBytes bytes).payload id m) :
    ∃ t, exec (.frameReceive p ok bytes) s = .next t
      ∧ t.link = { s.link with
          inbox := s.link.inbox ++ [{ port := p, source := (Frame.ofBytes bytes).source, station := id, message := m }] }
      ∧ (t.port p).counters = (s.port p).counters.received ∧ LearnedFrom s t p (Frame.ofBytes bytes).source
      ∧ (t.setLink s.link).setNet s.net = s :=
  ⟨_, h.next (State.steps_link (State.consumeLink_label_some (h.arrived_role _) hd he (LabelMessage.parse_iff.mpr hm))) rfl,
    rfl, s.arrived_counters (Frame.ofBytes bytes).source p, LearnedFrom.arrived s p (Frame.ofBytes bytes).source, rfl⟩

theorem label_dropped (h : Passes s p .label ok bytes) (hd : (Frame.ofBytes bytes).dest = s.net.controller)
    (he : (Frame.ofBytes bytes).etherType = s.net.labelType)
    (hm : ∀ id m, ¬ LabelSpelled (Frame.ofBytes bytes).payload id m) : Drops s p ok bytes .unknown :=
  .of_steps h (State.steps_link (State.consumeLink_label_none (h.arrived_role _) hd he
    (Option.eq_none_iff_forall_not_mem.mpr fun x hp => hm x.1 x.2 (LabelMessage.parse_iff.mp hp))))

/-- Any other frame for the controller is UNKNOWN. -/
theorem controller_dropped (h : Passes s p role ok bytes) (hd : (Frame.ofBytes bytes).dest = s.net.controller)
    (ht : (Frame.ofBytes bytes).etherType ≠ s.net.tillType ∨ role ≠ .till)
    (hl : (Frame.ofBytes bytes).etherType ≠ s.net.labelType ∨ role ≠ .label)
    (hx : ¬ s.ExchangeDatagram role (Frame.ofBytes bytes)) : Drops s p ok bytes .unknown :=
  .of_steps h (State.steps_controller (State.consumeLink_other (h.arrived_role _) fun _ => ⟨ht, hl⟩)
    (State.consumeExchange_other (h.arrived_role _) hx) hd)

/-! ### Datagrams of the exchange (R125, R149) -/

/-- A frame that the UPLINK port looks into for the exchange is no link frame. -/
theorem own_noLink {a : MacAddr} (h : Passes s p role ok bytes) (hown : s.OwnDatagram role f) :
    (s.arrived a p).consumeLink p f = none := by
  obtain ⟨rfl, -⟩ := hown
  exact State.consumeLink_other (h.arrived_role _) fun _ => ⟨.inr nofun, .inr nofun⟩

theorem fragment_dropped (h : Passes s p role ok bytes) (hown : s.OwnDatagram role (Frame.ofBytes bytes))
    (hfragment : beField (Frame.ofBytes bytes).payload 6 2 % 16384 ≠ 0) : Drops s p ok bytes .unknown :=
  .of_steps h (State.steps_exchange (own_noLink h hown)
    ((State.consumeExchange_own (h.arrived_role _) hown).trans (if_pos hfragment)))

section
variable (h : Passes s p role ok bytes) (hown : s.OwnDatagram role (Frame.ofBytes bytes))
  (hwhole : beField (Frame.ofBytes bytes).payload 6 2 % 16384 = 0)
  (hudp : UdpTo (Frame.ofBytes bytes).payload s.exchange.udpPort)
include h hown hwhole hudp

/-- A whole UDP datagram to the exchange's port, by what the exchange makes of its message. -/
theorem datagram_steps : (s.arrived (Frame.ofBytes bytes).source p).steps p role (Frame.ofBytes bytes) =
    (s.exchange.parse (BitVec.ofNat 32 (beField (Frame.ofBytes bytes).payload 12 4))
        (fieldBytes (udpIn (Frame.ofBytes bytes).payload) 8 (beField (udpIn (Frame.ofBytes bytes).payload) 4 2 - 8))).elim
      (s.arrived (Frame.ofBytes bytes).source p)
      (fun m => (s.arrived (Frame.ofBytes bytes).source p).setExchange
        { s.exchange with inbox := s.exchange.inbox ++ [m] }) :=
  State.steps_exchange (own_noLink h hown) ((State.consumeExchange_own (h.arrived_role _) hown).trans
    ((if_neg (not_not_intro hwhole)).trans (if_pos hudp)))

theorem datagram_taken {m : ServerMessage}
    (hm : s.exchange.parse (BitVec.ofNat 32 (beField (Frame.ofBytes bytes).payload 12 4))
      (fieldBytes (udpIn (Frame.ofBytes bytes).payload) 8 (beField (udpIn (Frame.ofBytes bytes).payload) 4 2 - 8)) = some m) :
    ∃ t, exec (.frameReceive p ok bytes) s = .next t
      ∧ t.exchange = { s.exchange with inbox := s.exchange.inbox ++ [m] }
      ∧ (t.port p).counters = (s.port p).counters.received ∧ LearnedFrom s t p (Frame.ofBytes bytes).source
      ∧ (t.setExchange s.exchange).setNet s.net = s := by
  have hsteps := datagram_steps h hown hwhole hudp
  rw [hm] at hsteps
  exact ⟨_, h.next hsteps rfl, rfl, s.arrived_counters (Frame.ofBytes bytes).source p, LearnedFrom.arrived s p (Frame.ofBytes bytes).source, rfl⟩

theorem datagram_discarded
    (hm : s.exchange.parse (BitVec.ofNat 32 (beField (Frame.ofBytes bytes).payload 12 4))
      (fieldBytes (udpIn (Frame.ofBytes bytes).payload) 8 (beField (udpIn (Frame.ofBytes bytes).payload) 4 2 - 8)) = none) :
    ∃ t, exec (.frameReceive p ok bytes) s = .next t ∧ (t.port p).counters = (s.port p).counters.received
      ∧ t.net.classes = s.net.classes ∧ t.net.delivery = s.net.delivery
      ∧ LearnedFrom s t p (Frame.ofBytes bytes).source ∧ t.setNet s.net = s := by
  have hsteps := datagram_steps h hown hwhole hudp
  rw [hm] at hsteps
  exact ⟨_, h.next hsteps rfl, s.arrived_counters (Frame.ofBytes bytes).source p, rfl, rfl, LearnedFrom.arrived s p (Frame.ofBytes bytes).source, rfl⟩

end

/-! ### Towards the uplink (R150) -/

theorem State.towardsUplink_iff (v : State) (a : MacAddr) : v.towardsUplink a = true ↔
    a = v.net.gateway ∨ ∃ x, v.stationRecord a = some x ∧ (v.port x.port).role = some .uplink := by
  unfold State.towardsUplink State.learnedPort
  rw [Bool.or_eq_true, beq_iff_eq]
  refine or_congr Iff.rfl ?_
  cases v.stationRecord a with
  | none => exact ⟨nofun, nofun⟩
  | some x => exact ⟨fun h => ⟨x, rfl, beq_iff_eq.mp h⟩, fun ⟨y, hy, h⟩ => by cases hy; exact beq_iff_eq.mpr h⟩

theorem State.forward_toUplink (h : v.towardsUplink f.dest = true) : v.forward p role f = v.toUplink p role f :=
  if_pos h

theorem State.forward_toHost (h : v.towardsUplink f.dest = false) (hd : f.dest = v.net.appliance ∨ isGroup f.dest = true) :
    v.forward p role f = v.toHost p role f :=
  (if_neg (by rw [h]; exact Bool.false_ne_true)).trans (if_pos hd)

theorem State.forward_toGuest (h : v.towardsUplink f.dest = false)
    (hd : ¬ (f.dest = v.net.appliance ∨ isGroup f.dest = true)) {g : GuestSession} (hg : v.session f.dest = some g) :
    v.forward p .uplink f = v.toGuest p g f := by
  refine (if_neg (by rw [h]; exact Bool.false_ne_true)).trans ((if_neg hd).trans ?_)
  rw [if_pos rfl, hg]

theorem State.forward_byTable (h : v.towardsUplink f.dest = false)
    (hd : ¬ (f.dest = v.net.appliance ∨ isGroup f.dest = true)) (hg : v.session f.dest = none ∨ role ≠ .uplink) :
    v.forward p role f = v.byStationTable p role f := by
  refine (if_neg (by rw [h]; exact Bool.false_ne_true)).trans ((if_neg hd).trans ?_)
  have hnone : (if role = .uplink then v.session f.dest else none) = none := by
    by_cases hr : role = .uplink
    · rw [if_pos hr]
      exact hg.resolve_right (not_not_intro hr)
    · rw [if_neg hr]
  rw [hnone]

/-- The frame's destination is the gateway or a station learned on the UPLINK port. -/
theorem State.arrived_towards {a b : MacAddr} (h : b = s.net.gateway
      ∨ (a ≠ b ∧ ∃ x, s.stationRecord b = some x ∧ (s.port x.port).role = some .uplink)) :
    (s.arrived a p).towardsUplink b = true := by
  refine (State.towardsUplink_iff _ _).mpr (h.imp_right fun ⟨hne, x, hx, hrole⟩ => ⟨x, ?_, ?_⟩)
  · rw [s.arrived_record p hne.symm, hx]
  · rw [State.arrived_role, hrole]

theorem State.arrived_notTowards {a b : MacAddr} (hgw : b ≠ s.net.gateway)
    (h : ∀ x, (s.arrived a p).stationRecord b = some x → (s.port x.port).role ≠ some .uplink) :
    (s.arrived a p).towardsUplink b = false :=
  Bool.eq_false_iff.mpr fun ht => by
    rcases (State.towardsUplink_iff _ _).mp ht with hb | ⟨x, hx, hrole⟩
    · exact hgw hb
    · rw [State.arrived_role] at hrole
      exact h x hx hrole

theorem State.offer_refused (h : v.refusal target = some r) (f : Frame) : v.offer target f p = v.countDrop p r := by
  unfold State.offer
  rw [h]

theorem State.offer_joins (h : v.refusal target = none) (f : Frame) (p : Port) : v.offer target f p = v.join target f := by
  unfold State.offer
  rw [h]

theorem State.toUplink_policy (h : ingressClass role = none) : v.toUplink p role f = v.countDrop p .policy := by
  unfold State.toUplink
  rw [h]

theorem State.toUplink_offer {c : UplinkClass} (h : ingressClass role = some c) (hc : c ≠ .guest) :
    v.toUplink p role f = v.offer (.cls c) f p := by
  unfold State.toUplink State.offer
  rw [h]
  dsimp only
  cases v.refusal (.cls c) with
  | none => exact if_neg hc
  | some r => rfl

/-- A class queue refuses a frame for the first reason that holds (log 58). -/
theorem State.refusal_cls (c : UplinkClass) (h : v.net.uplink = some q) : v.refusal (.cls c) =
    if (v.port q).linkUp = false then some .unknown
    else if v.net.freeBuffers = 0 then some .noBuffer
    else if (v.net.classCaps.get c) ≤ (v.net.classes.get c).length then some .queueCap
    else none := by
  unfold State.refusal State.targetUp State.hasRoom
  dsimp only
  rw [h]
  dsimp only
  simp only [Bool.not_eq_true', decide_eq_false_iff_not, Nat.not_lt]

theorem not_exchangeDatagram (h : role ≠ .uplink ∨ (f.dest ≠ s.net.controller ∧ f.dest ≠ s.net.appliance)) :
    ¬ s.ExchangeDatagram role f := fun ⟨⟨hup, _, hd, _⟩, _⟩ => by
  rcases h with h | ⟨h1, h2⟩
  · exact h hup
  · exact hd.elim h1 h2

/-- A frame that goes on to steps 2 to 4, from the state in which it has arrived. -/
theorem Passes.forward (h : Passes s p role ok bytes) (hd : (Frame.ofBytes bytes).dest ≠ s.net.controller)
    (hx : ¬ s.ExchangeDatagram role (Frame.ofBytes bytes)) (ht : (s.arrived (Frame.ofBytes bytes).source p).forward p role
      (Frame.ofBytes bytes) = t) : (s.arrived (Frame.ofBytes bytes).source p).steps p role (Frame.ofBytes bytes) = t :=
  (State.steps_forward (h.arrived_role _) hd hx).trans ht

section
variable (h : Passes s p role ok bytes) (hd : (Frame.ofBytes bytes).dest ≠ s.net.controller)
  (htow : (Frame.ofBytes bytes).dest = s.net.gateway ∨ ((Frame.ofBytes bytes).source ≠ (Frame.ofBytes bytes).dest
    ∧ ∃ x, s.stationRecord (Frame.ofBytes bytes).dest = some x ∧ (s.port x.port).role = some .uplink))
include h hd htow

/-- The ingress role keeps the frame from the uplink. -/
theorem uplink_policy (hr : role = .label ∨ (role = .uplink ∧ (Frame.ofBytes bytes).dest ≠ s.net.appliance)) :
    Drops s p ok bytes .policy := by
  have hx : ¬ s.ExchangeDatagram role (Frame.ofBytes bytes) := not_exchangeDatagram (by
    rcases hr with rfl | ⟨-, happ⟩
    · exact .inl nofun
    · exact .inr ⟨hd, happ⟩)
  have hclass : ingressClass role = none := by rcases hr with rfl | ⟨rfl, -⟩ <;> rfl
  exact .of_steps h (h.forward hd hx ((State.forward_toUplink (State.arrived_towards htow)).trans
    (State.toUplink_policy hclass)))

/-- The ingress role sets the class that the frame is offered to. -/
theorem uplink_offered (hr : role = .till ∨ role = .office) :
    (s.arrived (Frame.ofBytes bytes).source p).steps p role (Frame.ofBytes bytes)
      = (s.arrived (Frame.ofBytes bytes).source p).offer (.cls (if role = .till then .payment else .store))
          (Frame.ofBytes bytes) p := by
  have hx : ¬ s.ExchangeDatagram role (Frame.ofBytes bytes) := not_exchangeDatagram (.inl (by
    rcases hr with rfl | rfl <;> exact nofun))
  refine h.forward hd hx ((State.forward_toUplink (State.arrived_towards htow)).trans ?_)
  rcases hr with rfl | rfl
  · exact State.toUplink_offer rfl nofun
  · exact State.toUplink_offer rfl nofun

end

theorem State.arrived_refusal_cls {a : MacAddr} (c : UplinkClass) (h : s.net.uplink = some q) :
    (s.arrived a p).refusal (.cls c) = if (s.port q).linkUp = false then some .unknown
      else if s.net.freeBuffers = 0 then some .noBuffer
      else if (s.net.classCaps.get c) ≤ (s.net.classes.get c).length then some .queueCap
      else none := by
  rw [State.refusal_cls c ((s.arrived_uplink a p).trans h), State.arrived_linkUp]
  rfl

/-- A frame joined to a class queue other than GUEST. -/
theorem classJoined (h : Passes s p role ok bytes) {c : UplinkClass} (hc : c ≠ .guest)
    (hsteps : (s.arrived (Frame.ofBytes bytes).source p).steps p role (Frame.ofBytes bytes)
      = (s.arrived (Frame.ofBytes bytes).source p).join (.cls c) (Frame.ofBytes bytes)) :
    ∃ t, exec (.frameReceive p ok bytes) s = .next t
      ∧ t.net.classes.get c = s.net.classes.get c ++ [Frame.ofBytes bytes]
      ∧ (∀ d, d ≠ c → t.net.classes.get d = s.net.classes.get d) ∧ t.net.freeBuffers = s.net.freeBuffers - 1
      ∧ (t.port p).counters = (s.port p).counters.received ∧ LearnedFrom s t p (Frame.ofBytes bytes).source
      ∧ t.setNet s.net = s := by
  have hjoin : (s.arrived (Frame.ofBytes bytes).source p).join (.cls c) (Frame.ofBytes bytes)
      = (s.arrived (Frame.ofBytes bytes).source p).setNet { (s.arrived (Frame.ofBytes bytes).source p).net with
        freeBuffers := s.net.freeBuffers - 1
        classes := s.net.classes.set c (s.net.classes.get c ++ [Frame.ofBytes bytes]) } := if_neg hc
  exact ⟨_, h.next (hsteps.trans hjoin) rfl, PerClass.get_set_same _ _ _, fun d hd => PerClass.get_set_other _ _ hd, rfl,
    s.arrived_counters (Frame.ofBytes bytes).source p, LearnedFrom.arrived s p (Frame.ofBytes bytes).source, rfl⟩

/-! ### To the host (R151, R156) -/

/-- No address but a group's is the broadcast address. -/
theorem ne_broadcast {a : MacAddr} (h : isGroup a = false) : a ≠ broadcastAddr := by
  rintro rfl
  exact absurd h (by decide)

theorem State.copyBroadcast_single (h : isGroup f.dest = false) : v.copyBroadcast p role f = v :=
  if_pos (.inl (ne_broadcast h))

theorem State.toHost_appliance (hr : role ≠ .guest) (h : isGroup f.dest = false) :
    v.toHost p role f = v.offerDelivery f p .toAppliance := by
  unfold State.toHost
  rw [if_neg hr, h, State.copyBroadcast_single h]
  rfl

/-- A frame offered for delivery: missed while DELIVERY does not run, refused without a buffer or room, or put in the queue
with a buffer taken (R156). -/
theorem State.offerDelivery_missed (h : (v.chain .delivery).phase ≠ .running) (x : DeliveryReason) :
    v.offerDelivery f p x = v.countMisses 1 := if_pos h

theorem State.offerDelivery_noBuffer (h : (v.chain .delivery).phase = .running) (hb : v.net.freeBuffers = 0)
    (x : DeliveryReason) : v.offerDelivery f p x = v.countDrop p .noBuffer :=
  (if_neg (not_not_intro h)).trans (if_pos hb)

theorem State.offerDelivery_full (h : (v.chain .delivery).phase = .running) (hb : 0 < v.net.freeBuffers)
    (hfull : 64 ≤ v.net.delivery.length) (x : DeliveryReason) : v.offerDelivery f p x = v.countDrop p .queueCap :=
  (if_neg (not_not_intro h)).trans ((if_neg (by omega)).trans (if_pos hfull))

theorem State.offerDelivery_queued (h : (v.chain .delivery).phase = .running) (hb : 0 < v.net.freeBuffers)
    (hroom : v.net.delivery.length < 64) (x : DeliveryReason) : v.offerDelivery f p x = v.setNet { v.net with
      freeBuffers := v.net.freeBuffers - 1
      delivery := v.net.delivery ++ [{ frame := f, ingress := p, reason := x }] } :=
  (if_neg (not_not_intro h)).trans ((if_neg (by omega)).trans (if_neg (by omega)))

theorem State.countMisses_word (hw : v.store.wf) :
    (v.countMisses 1).storeWord offDeliveryMiss = v.requests.deliveryMiss + 1 := by
  have hword : ∀ w : Word, BitVec.ofNat 32 w.toNat = w := fun w => by simp
  exact (State.storeWord_status (s := v.setRequests _) hw _ _).trans (hword _)

theorem State.unknown_notTowards {a b : MacAddr} (hgw : b ≠ s.net.gateway) (hrec : s.stationRecord b = none)
    (hne : a ≠ b) : (s.arrived a p).towardsUplink b = false :=
  State.arrived_notTowards hgw fun x hx => by
    rw [s.arrived_record p hne.symm, hrec] at hx
    cases hx

section
variable (h : Passes s p role ok bytes) (hd : (Frame.ofBytes bytes).dest ≠ s.net.controller)
  (hgw : (Frame.ofBytes bytes).dest ≠ s.net.gateway) (hrec : s.stationRecord (Frame.ofBytes bytes).dest = none)
  (hne : (Frame.ofBytes bytes).source ≠ (Frame.ofBytes bytes).dest)
include h hd hgw hrec hne

/-- A frame for the appliance station is offered for delivery. -/
theorem appliance_offered (hsingle : isGroup (Frame.ofBytes bytes).dest = false)
    (happ : (Frame.ofBytes bytes).dest = s.net.appliance) (hx : ¬ s.ExchangeDatagram role (Frame.ofBytes bytes)) :
    (s.arrived (Frame.ofBytes bytes).source p).steps p role (Frame.ofBytes bytes)
      = (s.arrived (Frame.ofBytes bytes).source p).offerDelivery (Frame.ofBytes bytes) p .toAppliance :=
  h.forward hd hx ((State.forward_toHost (State.unknown_notTowards hgw hrec hne) (.inl happ)).trans
    (State.toHost_appliance h.notGuest hsingle))

/-- A frame for a station nobody knows is UNKNOWN. -/
theorem nobody_dropped (hsingle : isGroup (Frame.ofBytes bytes).dest = false)
    (happ : (Frame.ofBytes bytes).dest ≠ s.net.appliance)
    (hg : s.session (Frame.ofBytes bytes).dest = none ∨ role ≠ .uplink) : Drops s p ok bytes .unknown := by
  have hno : ¬ ((Frame.ofBytes bytes).dest = s.net.appliance ∨ isGroup (Frame.ofBytes bytes).dest = true) := by
    rw [hsingle]
    exact fun h => h.elim happ nofun
  refine .of_steps h (h.forward hd (not_exchangeDatagram (.inr ⟨hd, happ⟩))
    ((State.forward_byTable (State.unknown_notTowards hgw hrec hne) hno hg).trans ?_))
  unfold State.byStationTable State.learnedPort
  rw [s.arrived_record p hne.symm, hrec]
  rfl

end

/-- The appliance's frame put in the host delivery queue. -/
theorem delivery_queued (h : Passes s p role ok bytes) {x : DeliveryReason}
    (hsteps : (s.arrived (Frame.ofBytes bytes).source p).steps p role (Frame.ofBytes bytes)
      = (s.arrived (Frame.ofBytes bytes).source p).offerDelivery (Frame.ofBytes bytes) p x)
    (hrun : (s.chain .delivery).phase = .running) (hb : 0 < s.net.freeBuffers) (hroom : s.net.delivery.length < 64) :
    ∃ t, exec (.frameReceive p ok bytes) s = .next t
      ∧ t.net.delivery = s.net.delivery ++ [{ frame := Frame.ofBytes bytes, ingress := p, reason := x }]
      ∧ t.net.freeBuffers = s.net.freeBuffers - 1 ∧ (t.port p).counters = (s.port p).counters.received
      ∧ LearnedFrom s t p (Frame.ofBytes bytes).source ∧ t.setNet s.net = s :=
  ⟨_, h.next (hsteps.trans (State.offerDelivery_queued (v := s.arrived (Frame.ofBytes bytes).source p) hrun hb hroom x)) rfl, rfl, rfl,
    s.arrived_counters (Frame.ofBytes bytes).source p, LearnedFrom.arrived s p (Frame.ofBytes bytes).source, rfl⟩

/-- A frame missed, from a state in which only the network side has changed. -/
theorem State.countMisses_spec (hw : s.store.wf) (hu : u.setNet s.net = s) :
    (u.countMisses 1).requests.deliveryMiss = s.requests.deliveryMiss + 1
      ∧ (u.countMisses 1).storeWord offDeliveryMiss = s.requests.deliveryMiss + 1
      ∧ ((u.countMisses 1).withLogOf s).setNet s.net = s := by
  have hrequests : u.requests = s.requests := (congrArg State.requests hu :)
  have hstore : u.store = s.store := (congrArg State.store hu :)
  refine ⟨?_, ?_, (congrArg (fun x : State => x.withLogOf s) hu :)⟩
  · rw [← hrequests]
    rfl
  · rw [State.countMisses_word (hstore ▸ hw), hrequests]

theorem delivery_missed (h : Passes s p role ok bytes) {x : DeliveryReason}
    (hsteps : (s.arrived (Frame.ofBytes bytes).source p).steps p role (Frame.ofBytes bytes)
      = (s.arrived (Frame.ofBytes bytes).source p).offerDelivery (Frame.ofBytes bytes) p x)
    (hrun : (s.chain .delivery).phase ≠ .running) :
    ∃ t, exec (.frameReceive p ok bytes) s = .next t ∧ t.requests.deliveryMiss = s.requests.deliveryMiss + 1
      ∧ t.storeWord offDeliveryMiss = s.requests.deliveryMiss + 1 ∧ (t.port p).counters = (s.port p).counters.received
      ∧ LearnedFrom s t p (Frame.ofBytes bytes).source ∧ (t.withLogOf s).setNet s.net = s := by
  obtain ⟨hmiss, hword, hframe⟩ := State.countMisses_spec h.sound.2.1.1 (s.arrived_frame (Frame.ofBytes bytes).source p)
  have hmissed := State.offerDelivery_missed (v := s.arrived (Frame.ofBytes bytes).source p) (p := p)
    (f := Frame.ofBytes bytes) hrun x
  refine ⟨_, h.next (hsteps.trans hmissed) rfl, hmiss, hword, ?_, ?_, hframe⟩
  · exact s.arrived_counters (Frame.ofBytes bytes).source p
  · exact LearnedFrom.arrived s p (Frame.ofBytes bytes).source

/-! ### By the station table (R147, R152) -/

theorem State.byStationTable_policy {x : StationRecord} (hx : v.stationRecord f.dest = some x)
    (h : x.port = p ∨ roleAllows role (v.port x.port).role = false) : v.byStationTable p role f = v.countDrop p .policy := by
  unfold State.byStationTable State.learnedPort
  rw [hx]
  exact if_pos (h.imp_right fun h => by rw [h]; rfl)

theorem State.byStationTable_offer {x : StationRecord} (hx : v.stationRecord f.dest = some x) (hp : x.port ≠ p)
    (h : roleAllows role (v.port x.port).role = true) : v.byStationTable p role f = v.offer (.lan x.port) f p := by
  unfold State.byStationTable State.learnedPort
  rw [hx]
  refine if_neg fun hno => hno.elim hp ?_
  rw [h]
  exact nofun

theorem State.arrived_refusal_lan (s : State) (a : MacAddr) (p q : Port) :
    (s.arrived a p).refusal (.lan q) = if s.JoinsLan q then none else some (s.lanDropReason q) := by
  rw [State.refusal_lan, State.arrived_lanDropReason, if_congr (s.arrived_joins a p q) rfl rfl]

/-- A frame joined to a port's LAN egress queue, from a state with the network side as it is on arrival. -/
theorem lanJoined_spec {a : MacAddr} (hv : v.net = (s.arrived a p).net) (q : Port) (f : Frame) :
    ((v.join (.lan q) f).port q).lan = (s.port q).lan ++ [f]
      ∧ (v.join (.lan q) f).net.freeBuffers = s.net.freeBuffers - 1
      ∧ ((v.join (.lan q) f).port p).counters = (s.port p).counters.received ∧ LearnedFrom s (v.join (.lan q) f) p a := by
  have hport : ∀ x, v.port x = (s.arrived a p).port x := fun x => by unfold State.port; rw [hv]
  have hq : (v.join (.lan q) f).port q = { v.port q with lan := (v.port q).lan ++ [f] } := PerPort.get_set_same _ _ _
  refine ⟨?_, ?_, ?_, (LearnedFrom.arrived s p a).of_stations (congrArg Forwarding.stations hv :)⟩
  · rw [hq, hport, State.arrived_lan]
  · exact (congrArg (fun n : Forwarding => n.freeBuffers - 1) hv :)
  · by_cases hpq : p = q
    · subst hpq
      rw [hq, hport, State.arrived_counters]
    · have hother : (v.join (.lan q) f).port p = v.port p := PerPort.get_set_other _ _ hpq
      rw [hother, hport, State.arrived_counters]

/-- A station's own frame back to it stays where it is. -/
theorem own_policy (h : Passes s p role ok bytes) (hd : (Frame.ofBytes bytes).dest ≠ s.net.controller)
    (hgw : (Frame.ofBytes bytes).dest ≠ s.net.gateway) (happ : (Frame.ofBytes bytes).dest ≠ s.net.appliance)
    (hsingle : isGroup (Frame.ofBytes bytes).dest = false) (heq : (Frame.ofBytes bytes).source = (Frame.ofBytes bytes).dest)
    (hroom : (s.stationRecord (Frame.ofBytes bytes).dest).isSome = true ∨ s.net.stations.length < 1024) :
    Drops s p ok bytes .policy := by
  have hrec : (s.arrived (Frame.ofBytes bytes).source p).stationRecord (Frame.ofBytes bytes).dest
      = some { port := p, lastSeen := s.now } := by
    rw [LearnedFrom.arrived s p, if_pos ⟨heq.symm, hsingle, hd, happ, hroom⟩]
  have hno : ¬ ((Frame.ofBytes bytes).dest = s.net.appliance ∨ isGroup (Frame.ofBytes bytes).dest = true) := by
    rw [hsingle]
    exact fun h => h.elim happ nofun
  refine .of_steps h (h.forward hd (not_exchangeDatagram (.inr ⟨hd, happ⟩)) ?_)
  by_cases hup : role = .uplink
  · rw [State.forward_toUplink, State.toUplink_policy (by rw [hup]; rfl)]
    refine (State.towardsUplink_iff _ _).mpr (.inr ⟨_, hrec, ?_⟩)
    rw [State.arrived_role, h.onPort, hup]
  · have hnot : (s.arrived (Frame.ofBytes bytes).source p).towardsUplink (Frame.ofBytes bytes).dest = false :=
      State.arrived_notTowards hgw fun x hx => by
        rw [hrec] at hx
        cases hx
        rw [h.onPort]
        exact fun hr => hup (Option.some.inj hr)
    rw [State.forward_byTable hnot hno (.inr hup)]
    exact State.byStationTable_policy hrec (.inl rfl)

section
variable (h : Passes s p role ok bytes) (hd : (Frame.ofBytes bytes).dest ≠ s.net.controller)
  (hgw : (Frame.ofBytes bytes).dest ≠ s.net.gateway) (happ : (Frame.ofBytes bytes).dest ≠ s.net.appliance)
  (hsingle : isGroup (Frame.ofBytes bytes).dest = false)
  (hne : (Frame.ofBytes bytes).source ≠ (Frame.ofBytes bytes).dest)

section
variable (hnot : ∀ x, s.stationRecord (Frame.ofBytes bytes).dest = some x → (s.port x.port).role ≠ some .uplink)
include hgw hne hnot

theorem known_notTowards : (s.arrived (Frame.ofBytes bytes).source p).towardsUplink (Frame.ofBytes bytes).dest = false :=
  State.arrived_notTowards hgw fun x hx => by
    rw [s.arrived_record p hne.symm] at hx
    exact hnot x hx

include h hd happ hsingle

theorem table_steps (hg : s.session (Frame.ofBytes bytes).dest = none ∨ role ≠ .uplink) :
    (s.arrived (Frame.ofBytes bytes).source p).steps p role (Frame.ofBytes bytes)
      = (s.arrived (Frame.ofBytes bytes).source p).byStationTable p role (Frame.ofBytes bytes) := by
  have hno : ¬ ((Frame.ofBytes bytes).dest = s.net.appliance ∨ isGroup (Frame.ofBytes bytes).dest = true) := by
    rw [hsingle]
    exact fun h => h.elim happ nofun
  exact h.forward hd (not_exchangeDatagram (.inr ⟨hd, happ⟩)) (State.forward_byTable (known_notTowards hgw hne hnot) hno hg)

theorem guest_steps (hr : role = .uplink) {g : GuestSession} (hg : s.session (Frame.ofBytes bytes).dest = some g) :
    (s.arrived (Frame.ofBytes bytes).source p).steps p role (Frame.ofBytes bytes)
      = (s.arrived (Frame.ofBytes bytes).source p).toGuest p g (Frame.ofBytes bytes) := by
  have hno : ¬ ((Frame.ofBytes bytes).dest = s.net.appliance ∨ isGroup (Frame.ofBytes bytes).dest = true) := by
    rw [hsingle]
    exact fun h => h.elim happ nofun
  subst hr
  exact h.forward hd (not_exchangeDatagram (.inr ⟨hd, happ⟩))
    (State.forward_toGuest (known_notTowards hgw hne hnot) hno hg)

end

section
variable {x : StationRecord} (hx : s.stationRecord (Frame.ofBytes bytes).dest = some x)
  (hnot : (s.port x.port).role ≠ some .uplink) (hg : s.session (Frame.ofBytes bytes).dest = none ∨ role ≠ .uplink)
include h hd hgw happ hsingle hne hx hnot hg

theorem table_known : (s.arrived (Frame.ofBytes bytes).source p).steps p role (Frame.ofBytes bytes)
      = (s.arrived (Frame.ofBytes bytes).source p).byStationTable p role (Frame.ofBytes bytes)
    ∧ (s.arrived (Frame.ofBytes bytes).source p).stationRecord (Frame.ofBytes bytes).dest = some x := by
  refine ⟨table_steps h hd hgw happ hsingle hne (fun y hy => ?_) hg, (s.arrived_record p hne.symm).trans hx⟩
  rw [hx] at hy
  cases hy
  exact hnot

theorem table_policy (hp : x.port = p ∨ roleAllows role (s.port x.port).role = false) : Drops s p ok bytes .policy := by
  obtain ⟨hsteps, hrec⟩ := table_known h hd hgw happ hsingle hne hx hnot hg
  refine .of_steps h (hsteps.trans (State.byStationTable_policy hrec ?_))
  rw [State.arrived_role]
  exact hp

variable (hp : x.port ≠ p) (hallow : roleAllows role (s.port x.port).role = true)
include hp hallow

theorem table_offered : (s.arrived (Frame.ofBytes bytes).source p).steps p role (Frame.ofBytes bytes)
    = (s.arrived (Frame.ofBytes bytes).source p).offer (.lan x.port) (Frame.ofBytes bytes) p := by
  obtain ⟨hsteps, hrec⟩ := table_known h hd hgw happ hsingle hne hx hnot hg
  refine hsteps.trans (State.byStationTable_offer hrec hp ?_)
  rw [State.arrived_role]
  exact hallow

theorem table_joined (hj : s.JoinsLan x.port) : ∃ t, exec (.frameReceive p ok bytes) s = .next t
    ∧ (t.port x.port).lan = (s.port x.port).lan ++ [Frame.ofBytes bytes] ∧ t.net.freeBuffers = s.net.freeBuffers - 1
    ∧ (t.port p).counters = (s.port p).counters.received ∧ LearnedFrom s t p (Frame.ofBytes bytes).source
    ∧ t.setNet s.net = s := by
  have hsteps := table_offered h hd hgw happ hsingle hne hx hnot hg hp hallow
  rw [State.offer_joins (by rw [State.arrived_refusal_lan, if_pos hj])] at hsteps
  obtain ⟨hlan, hfree, hcounters, hlearned⟩ :=
    lanJoined_spec (v := s.arrived (Frame.ofBytes bytes).source p) rfl x.port (Frame.ofBytes bytes)
  exact ⟨_, h.next hsteps rfl, hlan, hfree, hcounters, hlearned, rfl⟩

theorem table_refused (hj : ¬ s.JoinsLan x.port) : Drops s p ok bytes (s.lanDropReason x.port) :=
  .of_steps h ((table_offered h hd hgw happ hsingle hne hx hnot hg hp hallow).trans
    (State.offer_refused (by rw [State.arrived_refusal_lan, if_neg hj]) _))

end

end

/-! ### To a guest (R152, R167, R168) -/

/-- A frame that passes the frame check is as long as the bytes it was received as. -/
theorem Frame.ofBytes_length (h : 64 ≤ bytes.length) : (Frame.ofBytes bytes).length = bytes.length := by
  unfold Frame.length Frame.ofBytes fieldBytes
  dsimp only
  rw [List.length_take, List.length_drop]
  omega

theorem State.putSession_frame (v : State) (a : MacAddr) (g : GuestSession) : (v.putSession a g).setGuests v.guests = v := rfl

theorem State.session_putSession_same (v : State) (a : MacAddr) (g : GuestSession) : (v.putSession a g).session a = some g :=
  Table.find_put_same _ _ _

theorem State.session_putSession_other (v : State) {a b : MacAddr} (g : GuestSession) (h : b ≠ a) :
    (v.putSession a g).session b = v.session b :=
  Table.find_put_other _ _ fun heq => h (BitVec.toNat_inj.mp heq)

section
variable {g : GuestSession}

theorem State.toGuest_policy (h : (v.port g.port).role ≠ some .guest) : v.toGuest p g f = v.countDrop p .policy := by
  have hno : v.hasRole g.port .guest = false := beq_eq_false_iff_ne.mpr h
  unfold State.toGuest
  rw [hno]
  rfl

theorem State.toGuest_refused (h : (v.port g.port).role = some .guest) (hr : v.refusal (.lan g.port) = some r) :
    v.toGuest p g f = v.countDrop p r := by
  have hyes : v.hasRole g.port .guest = true := beq_iff_eq.mpr h
  unfold State.toGuest
  rw [hyes, hr]
  rfl

theorem State.toGuest_metered (h : (v.port g.port).role = some .guest) (hr : v.refusal (.lan g.port) = none) :
    v.toGuest p g f = if (v.guestMeter f.dest f.length).2 then (v.guestMeter f.dest f.length).1.join (.lan g.port) f
      else (v.guestMeter f.dest f.length).1.countDrop p .guest := by
  have hyes : v.hasRole g.port .guest = true := beq_iff_eq.mpr h
  unfold State.toGuest
  rw [hyes, hr]
  cases v.guestMeter f.dest f.length with
  | mk w pass => cases pass <;> rfl

/-- The answer about a frame of a length for a station with a session (R167). -/
theorem State.guestMeter_eq {a : MacAddr} (hg : v.session a = some g) (n : Nat) : v.guestMeter a n =
    if g.phase = .admitted then
      if g.used + n ≤ g.budget then (v.putSession a { g with used := g.used + n }, true) else (v.lapse a g .spent, false)
    else (v, false) := by
  unfold State.guestMeter
  rw [hg]

/-- The drop counted in a state with the network side as it is on arrival. -/
theorem DroppedOn.of_net {a : MacAddr} (hv : v.net = (s.arrived a p).net) (r : DropReason) :
    DroppedOn s (v.countDrop p r) p r := by
  have hport : ∀ x, v.port x = (s.arrived a p).port x := fun x => by unfold State.port; rw [hv]
  refine .of_port ?_ fun q hq => ?_
  · unfold State.countDrop
    rw [hport, State.arrived_port_same]
    exact PerPort.get_set_same _ _ _
  · exact (PerPort.get_set_other _ _ hq).trans ((hport q).trans (s.arrived_port_other a hq))

/-- A session lapsed SPENT: its record, its notice, and what has not moved (R168, R175). -/
theorem lapse_spec {a : MacAddr} (hw : s.store.wf) (hu : u.setNet s.net = s) :
    (u.lapse a g .spent).session a = some (g.lapsed .spent) ∧ (u.lapse a g .spent).net = u.net
      ∧ (u.lapse a g .spent).link = s.link
      ∧ Posted s (u.lapse a g .spent) .guestLapsed (addressSubject a) (twoParts 1 (g.used / 1048576))
      ∧ (((u.lapse a g .spent).withLogOf s).setNet s.net).setGuests s.guests = s := by
  obtain ⟨w, hput⟩ : ∃ w, w = u.putSession a (g.lapsed .spent) := ⟨_, rfl⟩
  have hlapse : u.lapse a g .spent = w.post .guestLapsed (addressSubject a) (twoParts 1 (g.used / 1048576)) := by
    rw [hput]
    rfl
  have hw' : (w.setNet s.net).setGuests s.guests = s := by
    rw [hput]
    exact (congrArg (fun x : State => x.setGuests s.guests) hu :)
  have hstore : w.store = s.store := (congrArg State.store hw' :)
  have hsame : SameLog s w := .of_eq hstore (congrArg State.requests hw' :) (congrArg State.clock hw' :)
  have hlog := w.post_withLog .guestLapsed (addressSubject a) (twoParts 1 (g.used / 1048576))
  rw [hlapse]
  refine ⟨?_, ?_, ?_, (Posted.post .guestLapsed _ _ (hstore ▸ hw)).of_sameLog hsame (.refl _), ?_⟩
  · have hguests : (w.post .guestLapsed (addressSubject a) (twoParts 1 (g.used / 1048576))).guests = w.guests :=
      State.post_guests ..
    unfold State.session
    rw [hguests, hput]
    exact u.session_putSession_same a _
  · rw [State.post_net, hput]
    rfl
  · exact (State.post_link ..).trans (congrArg State.link hw' :)
  · exact (congrArg (fun x : State => ((x.withLogOf s).setNet s.net).setGuests s.guests) hlog :).trans
      (congrArg (fun x : State => x.withLogOf s) hw' :)

section
variable (h : Passes s p role ok bytes)
  (hsteps : (s.arrived (Frame.ofBytes bytes).source p).steps p role (Frame.ofBytes bytes)
    = (s.arrived (Frame.ofBytes bytes).source p).toGuest p g (Frame.ofBytes bytes))
include h hsteps

theorem guest_policy (hrole : (s.port g.port).role ≠ some .guest) : Drops s p ok bytes .policy :=
  .of_steps h (hsteps.trans (State.toGuest_policy (by rwa [State.arrived_role])))

section
variable (hrole : (s.port g.port).role = some .guest)
include hrole

theorem guest_refused (hj : ¬ s.JoinsLan g.port) : Drops s p ok bytes (s.lanDropReason g.port) :=
  .of_steps h (hsteps.trans (State.toGuest_refused (by rwa [State.arrived_role])
    (by rw [State.arrived_refusal_lan, if_neg hj])))

section
variable (hj : s.JoinsLan g.port) (hg : s.session (Frame.ofBytes bytes).dest = some g)
include hj hg

theorem guest_metered : (s.arrived (Frame.ofBytes bytes).source p).steps p role (Frame.ofBytes bytes) =
    if g.phase = .admitted then
      if g.used + bytes.length ≤ g.budget then
        ((s.arrived (Frame.ofBytes bytes).source p).putSession (Frame.ofBytes bytes).dest
          { g with used := g.used + bytes.length }).join (.lan g.port) (Frame.ofBytes bytes)
      else ((s.arrived (Frame.ofBytes bytes).source p).lapse (Frame.ofBytes bytes).dest g .spent).countDrop p .guest
    else (s.arrived (Frame.ofBytes bytes).source p).countDrop p .guest := by
  have hsession : (s.arrived (Frame.ofBytes bytes).source p).session (Frame.ofBytes bytes).dest = some g := hg
  rw [hsteps, State.toGuest_metered (by rwa [State.arrived_role]) (by rw [State.arrived_refusal_lan, if_pos hj]),
    State.guestMeter_eq hsession, Frame.ofBytes_length h.inForm.2.1]
  by_cases hadmitted : g.phase = .admitted
  · rw [if_pos hadmitted, if_pos hadmitted]
    by_cases hfit : g.used + bytes.length ≤ g.budget
    · rw [if_pos hfit, if_pos hfit]
      rfl
    · rw [if_neg hfit, if_neg hfit]
      rfl
  · rw [if_neg hadmitted, if_neg hadmitted]
    rfl

theorem guest_notAdmitted (hp : g.phase ≠ .admitted) : Drops s p ok bytes .guest :=
  .of_steps h ((guest_metered h hsteps hrole hj hg).trans (if_neg hp))

theorem guest_joined (hp : g.phase = .admitted) (hfit : g.used + bytes.length ≤ g.budget) :
    ∃ t, exec (.frameReceive p ok bytes) s = .next t
      ∧ (t.port g.port).lan = (s.port g.port).lan ++ [Frame.ofBytes bytes] ∧ t.net.freeBuffers = s.net.freeBuffers - 1
      ∧ (t.port p).counters = (s.port p).counters.received ∧ LearnedFrom s t p (Frame.ofBytes bytes).source
      ∧ t.session (Frame.ofBytes bytes).dest = some { g with used := g.used + bytes.length }
      ∧ (∀ a, a ≠ (Frame.ofBytes bytes).dest → t.session a = s.session a) ∧ (t.setNet s.net).setGuests s.guests = s := by
  have hstep := (guest_metered h hsteps hrole hj hg).trans ((if_pos hp).trans (if_pos hfit))
  have hown := (s.arrived (Frame.ofBytes bytes).source p).session_putSession_same (Frame.ofBytes bytes).dest
    { g with used := g.used + bytes.length }
  have hothers := fun a (ha : a ≠ (Frame.ofBytes bytes).dest) => (s.arrived (Frame.ofBytes bytes).source p).session_putSession_other (b := a)
    { g with used := g.used + bytes.length } ha
  have hframe := (s.arrived (Frame.ofBytes bytes).source p).putSession_frame (Frame.ofBytes bytes).dest
    { g with used := g.used + bytes.length }
  generalize (s.arrived (Frame.ofBytes bytes).source p).putSession (Frame.ofBytes bytes).dest
    { g with used := g.used + bytes.length } = v at hstep hown hothers hframe
  have hnet : v.net = (s.arrived (Frame.ofBytes bytes).source p).net := (congrArg State.net hframe :)
  obtain ⟨hlan, hfree, hcounters, hlearned⟩ := lanJoined_spec hnet g.port (Frame.ofBytes bytes)
  have hjoined : ((v.join (.lan g.port) (Frame.ofBytes bytes)).setNet s.net).setGuests s.guests = s :=
    (congrArg (fun x : State => x.setNet s.net) hframe :)
  exact ⟨_, h.next hstep (congrArg (fun x : State => x.link.due) hjoined :), hlan, hfree, hcounters, hlearned, hown,
    hothers, hjoined⟩

theorem guest_spent (hp : g.phase = .admitted) (hover : g.budget < g.used + bytes.length) :
    ∃ t, exec (.frameReceive p ok bytes) s = .next t ∧ DroppedOn s t p .guest
      ∧ LearnedFrom s t p (Frame.ofBytes bytes).source
      ∧ t.session (Frame.ofBytes bytes).dest = some { g with phase := .lapsed, lapse := .spent }
      ∧ Posted s t .guestLapsed (addressSubject (Frame.ofBytes bytes).dest) (twoParts 1 (g.used / 1048576))
      ∧ ((t.withLogOf s).setNet s.net).setGuests s.guests = s := by
  have hstep := (guest_metered h hsteps hrole hj hg).trans ((if_pos hp).trans (if_neg (by omega)))
  obtain ⟨hsession, hnet, hlink, hposted, hframe⟩ := lapse_spec (g := g) (a := (Frame.ofBytes bytes).dest)
    h.sound.2.1.1 (s.arrived_frame (Frame.ofBytes bytes).source p)
  generalize (s.arrived (Frame.ofBytes bytes).source p).lapse (Frame.ofBytes bytes).dest g .spent = v
    at hstep hsession hnet hlink hposted hframe
  refine ⟨v.countDrop p .guest, h.next hstep (congrArg StationLink.due hlink :), .of_net hnet .guest, ?_, hsession,
    hposted.of_sameLog (.refl s) (.of_eq rfl rfl rfl), hframe⟩
  exact (LearnedFrom.arrived s p _).of_stations (congrArg Forwarding.stations hnet :)

end

end

end

end

end Sys2Proof.Machine
end

section
/-! PROOFS. FRAME_RECEIVE, group frames and the copies of a broadcast (R151). -/

namespace Sys2Proof.Machine

variable {s t u v w : State} {p q : Port} {f : Frame} {role : Role} {ok : Bool} {bytes : List Byte} {r : DropReason}

/-! ### Copies of a broadcast (R151) -/

theorem PortCounters.drop_drop (c : PortCounters) (r r' : DropReason) : (c.drop r).drop r' = (c.drop r').drop r := by
  cases r <;> cases r' <;> rfl

theorem PortCounters.drops_drop (c : PortCounters) (r r' : DropReason) (n : Nat) :
    (c.drop r).drops r' n = (c.drops r' n).drop r := by
  induction n generalizing c with
  | zero => rfl
  | succ n ih => rw [PortCounters.drops, PortCounters.drops, PortCounters.drop_drop, ih]

theorem PortCounters.drops_drops (c : PortCounters) (r r' : DropReason) (n m : Nat) :
    (c.drops r n).drops r' m = (c.drops r' m).drops r n := by
  induction n generalizing c with
  | zero => rfl
  | succ n ih => rw [PortCounters.drops, ih, PortCounters.drops_drop, PortCounters.drops]

theorem PortCounters.drops_add (c : PortCounters) (r : DropReason) (n m : Nat) :
    (c.drops r n).drops r m = c.drops r (n + m) := by
  induction n generalizing c with
  | zero => rw [Nat.zero_add, PortCounters.drops]
  | succ n ih => rw [PortCounters.drops, ih, Nat.succ_add, PortCounters.drops]

section
variable {c : Port → Bool} {l : List Port}

/-- The copies offered to ports, each counted on the port the frame came in by when it is dropped. -/
def State.copiesTo (v : State) (f : Frame) (p : Port) (c : Port → Bool) (l : List Port) : State :=
  l.foldl (fun v q => if c q = true then v.offer (.lan q) f p else v) v

/-- A port gets a copy and its link is down. -/
def copyDown (v : State) (c : Port → Bool) (q : Port) : Bool := c q && !(v.port q).linkUp

/-- A port gets a copy and its queue is full. -/
def copyFull (v : State) (c : Port → Bool) (q : Port) : Bool :=
  c q && ((v.port q).linkUp && decide ((v.port q).lanCap ≤ (v.port q).lan.length))

/-- A port gets a copy that joins its queue. -/
def copyJoins (v : State) (c : Port → Bool) (q : Port) : Bool :=
  c q && ((v.port q).linkUp && decide ((v.port q).lan.length < (v.port q).lanCap))

/-- Copies have been offered to ports between two states. -/
structure Copied (v t : State) (f : Frame) (p : Port) (c : Port → Bool) (l : List Port) : Prop where
  others : ∀ q, q ≠ p → t.port q =
    if q ∈ l ∧ copyJoins v c q = true then { v.port q with lan := (v.port q).lan ++ [f] } else v.port q
  own : t.port p = { v.port p with counters :=
    ((v.port p).counters.drops .unknown (l.countP (copyDown v c))).drops .queueCap (l.countP (copyFull v c)) }
  free : t.net.freeBuffers + l.countP (copyJoins v c) = v.net.freeBuffers
  rest : { t.net with ports := v.net.ports, freeBuffers := v.net.freeBuffers } = v.net
  frame : t.setNet v.net = v

/-- The ports that follow are as they were: their copies fare the same. -/
theorem copies_congr (hc : c p = false) (h : ∀ x ∈ l, x ≠ p → w.port x = v.port x) :
    ∀ x ∈ l, copyDown w c x = copyDown v c x ∧ copyFull w c x = copyFull v c x ∧ copyJoins w c x = copyJoins v c x := by
  intro x hx
  unfold copyDown copyFull copyJoins
  by_cases hxp : x = p
  · subst hxp
    rw [hc]
    exact ⟨rfl, rfl, rfl⟩
  · rw [h x hx hxp]
    exact ⟨rfl, rfl, rfl⟩

/-- Copies to some ports and then to others. -/
theorem Copied.append {l' : List Port} (hc : c p = false) (hdisjoint : ∀ x ∈ l', x ∉ l) (h : Copied v w f p c l)
    (h' : Copied w t f p c l') : Copied v t f p c (l ++ l') := by
  obtain ⟨hothers, hown, hfree, hrest, hframe⟩ := h
  obtain ⟨hothers', hown', hfree', hrest', hframe'⟩ := h'
  have hsame : ∀ x, x ≠ p → x ∉ l → w.port x = v.port x := fun x hx hl => by
    rw [hothers x hx, if_neg (fun h => hl h.1)]
  have hcongr := copies_congr (w := w) (v := v) (l := l') hc fun x hx hxp => hsame x hxp (hdisjoint x hx)
  have hdown : l'.countP (copyDown w c) = l'.countP (copyDown v c) :=
    List.countP_congr fun x hx => by rw [(hcongr x hx).1]
  have hfull : l'.countP (copyFull w c) = l'.countP (copyFull v c) :=
    List.countP_congr fun x hx => by rw [(hcongr x hx).2.1]
  have hjoins : l'.countP (copyJoins w c) = l'.countP (copyJoins v c) :=
    List.countP_congr fun x hx => by rw [(hcongr x hx).2.2]
  refine ⟨fun x hx => ?_, ?_, ?_, ?_, ?_⟩
  · rw [hothers' x hx]
    by_cases hl' : x ∈ l'
    · rw [(hcongr x hl').2.2, hsame x hx (hdisjoint x hl')]
      simp only [List.mem_append, hl', or_true, true_and]
    · rw [if_neg (fun h => hl' h.1), hothers x hx]
      simp only [List.mem_append, hl', or_false]
  · rw [hown', hown, hdown, hfull, List.countP_append, List.countP_append]
    dsimp only
    rw [PortCounters.drops_drops _ .queueCap .unknown, PortCounters.drops_add, PortCounters.drops_add]
  · rw [hjoins] at hfree'
    rw [List.countP_append]
    omega
  · rw [← hrest, ← hrest']
  · rw [← hframe, ← hframe']
    rfl

/-- A copy that does not join is dropped with its port's link down, or else with its queue full. -/
theorem lanDropReason_of_copy (hq : c q = true) (hb : 0 < v.net.freeBuffers) (h : ¬ v.JoinsLan q) :
    (v.lanDropReason q = .unknown ∧ copyDown v c q = true ∧ copyFull v c q = false)
      ∨ (v.lanDropReason q = .queueCap ∧ copyDown v c q = false ∧ copyFull v c q = true) := by
  unfold State.lanDropReason copyDown copyFull
  rw [hq]
  cases hup : (v.port q).linkUp with
  | false => exact .inl ⟨if_pos rfl, rfl, rfl⟩
  | true =>
    have hfull : (v.port q).lanCap ≤ (v.port q).lan.length := Nat.le_of_not_lt fun hroom => h ⟨hup, hb, hroom⟩
    refine .inr ⟨(if_neg (by exact nofun)).trans (if_neg (by omega)), rfl, ?_⟩
    rw [decide_eq_true hfull]
    rfl

/-- A copy offered to one port, or none. -/
theorem Copied.one (hc : c p = false) (hb : 0 < v.net.freeBuffers) (q : Port) (f : Frame) :
    Copied v (v.copiesTo f p c [q]) f p c [q] := by
  by_cases hq : c q = true
  · have hqp : q ≠ p := fun h => by rw [h, hc] at hq; cases hq
    have hto : v.copiesTo f p c [q] = v.offer (.lan q) f p := if_pos hq
    rw [hto]
    by_cases hj : v.JoinsLan q
    · rw [State.offer_joins (by rw [State.refusal_lan, if_pos hj])]
      obtain ⟨hup, -, hroom⟩ := hj
      have hjoins : copyJoins v c q = true := by simp [copyJoins, hq, hup, hroom]
      have hdown : copyDown v c q = false := by simp [copyDown, hup]
      have hfull : copyFull v c q = false := by simp [copyFull, hroom]
      have hport : (v.join (.lan q) f).port q = { v.port q with lan := (v.port q).lan ++ [f] } := PerPort.get_set_same _ _ _
      have hother : ∀ x, x ≠ q → (v.join (.lan q) f).port x = v.port x := fun x hx => PerPort.get_set_other _ _ hx
      refine ⟨fun x _ => ?_, ?_, ?_, rfl, rfl⟩
      · by_cases hx : x = q
        · subst hx
          rw [hport, if_pos ⟨List.mem_singleton.mpr rfl, hjoins⟩]
        · rw [hother x hx, if_neg (fun h => hx (List.mem_singleton.mp h.1))]
      · rw [hother p hqp.symm]
        simp [hdown, hfull, PortCounters.drops]
      · have hfree : (v.join (.lan q) f).net.freeBuffers = v.net.freeBuffers - 1 := rfl
        simp only [hfree, List.countP_singleton, hjoins, if_true]
        omega
    · rw [State.offer_refused (by rw [State.refusal_lan, if_neg hj])]
      have hjoins : copyJoins v c q = false := Bool.eq_false_iff.mpr fun h => by
        simp only [copyJoins, Bool.and_eq_true, decide_eq_true_eq] at h
        exact hj ⟨h.2.1, hb, h.2.2⟩
      have hport : (v.countDrop p (v.lanDropReason q)).port p
          = { v.port p with counters := (v.port p).counters.drop (v.lanDropReason q) } := PerPort.get_set_same _ _ _
      refine ⟨fun x hx => ?_, ?_, ?_, rfl, rfl⟩
      · rw [if_neg]
        · exact PerPort.get_set_other _ _ hx
        · rintro ⟨hl, hjx⟩
          rw [List.mem_singleton.mp hl, hjoins] at hjx
          cases hjx
      · rw [hport, List.countP_singleton, List.countP_singleton]
        rcases lanDropReason_of_copy hq hb hj with ⟨hr, hdown, hfull⟩ | ⟨hr, hdown, hfull⟩
        · rw [hr, hdown, hfull]
          rfl
        · rw [hr, hdown, hfull]
          rfl
      · simp only [List.countP_singleton, hjoins]
        rfl
  · have hto : v.copiesTo f p c [q] = v := if_neg hq
    have hno : c q = false := Bool.eq_false_iff.mpr hq
    rw [hto]
    refine ⟨fun x _ => ?_, ?_, ?_, rfl, rfl⟩
    · rw [if_neg]
      rintro ⟨hx, hj⟩
      rw [List.mem_singleton.mp hx] at hj
      unfold copyJoins at hj
      rw [hno] at hj
      cases hj
    · simp [copyDown, copyFull, hno, PortCounters.drops]
    · simp [copyJoins, hno]

/-- Copies offered to ports, while every one of them may need a buffer and finds it. -/
theorem Copied.copiesTo (hc : c p = false) (hnodup : l.Nodup) (hb : l.length ≤ v.net.freeBuffers) (f : Frame) :
    Copied v (v.copiesTo f p c l) f p c l := by
  induction l generalizing v with
  | nil => exact ⟨fun _ _ => rfl, rfl, rfl, rfl, rfl⟩
  | cons q l ih =>
    obtain ⟨hq, hl⟩ := List.nodup_cons.mp hnodup
    rw [List.length_cons] at hb
    have hone := Copied.one (v := v) hc (by omega) q f
    have hfree := hone.free
    have hcount : [q].countP (copyJoins v c) ≤ 1 := List.countP_le_length
    exact hone.append hc (fun x hx h => hq (by rwa [List.mem_singleton.mp h] at hx)) (ih hl (by omega))

end

/-- A port gets a copy of a broadcast: another port of the same role, OFFICE, LABEL or UPLINK (R151). -/
def Copies (s : State) (p : Port) (role : Role) (f : Frame) (q : Port) : Prop :=
  f.dest = 0xFFFFFFFFFFFF ∧ (role = .office ∨ role = .label ∨ role = .uplink) ∧ q ≠ p ∧ (s.port q).role = some role

theorem State.offer_lan_role (v : State) (q : Port) (f : Frame) (p x : Port) :
    ((v.offer (.lan q) f p).port x).role = (v.port x).role := by
  have hset : ∀ (w : State) (y : Port) (z : PortState), z.role = (w.port y).role →
      ((w.setPort y z).port x).role = (w.port x).role := fun w y z hz => by
    by_cases hx : x = y
    · subst hx
      exact (congrArg PortState.role (PerPort.get_set_same _ _ _)).trans hz
    · exact congrArg PortState.role (PerPort.get_set_other _ _ hx)
  unfold State.offer
  split
  · exact hset v p _ rfl
  · exact hset (v.setNet _) q _ rfl

/-- The copies of a broadcast go to the ports that get one. -/
theorem State.copyBroadcast_eq {c : Port → Bool} (hc : ∀ q, c q = true ↔ Copies v p role f q) :
    v.copyBroadcast p role f = v.copiesTo f p c Port.all := by
  unfold State.copyBroadcast State.copiesTo
  split
  next hno =>
    have hnone : ∀ q, ¬ c q = true := fun q hq => by
      obtain ⟨hd, hr, -⟩ := (hc q).mp hq
      rcases hno with h | ⟨h1, h2, h3⟩
      · exact h hd
      · rcases hr with h | h | h
        · exact h1 h
        · exact h2 h
        · exact h3 h
    simp [hnone]
  next hyes =>
    obtain ⟨hd, hr⟩ := not_or.mp hyes
    have hrole : role = .office ∨ role = .label ∨ role = .uplink := by
      by_contra hno
      obtain ⟨h1, h2⟩ := not_or.mp hno
      exact hr ⟨h1, not_or.mp h2⟩
    have hsame : ∀ (l : List Port) (w : State), (∀ x, (w.port x).role = (v.port x).role) →
        l.foldl (fun s q => if q ≠ p ∧ s.hasRole q role = true then s.offer (.lan q) f p else s) w
          = l.foldl (fun s q => if c q = true then s.offer (.lan q) f p else s) w := by
      intro l
      induction l with
      | nil => exact fun _ _ => rfl
      | cons q l ih =>
        intro w hw
        have hq : (q ≠ p ∧ w.hasRole q role = true) ↔ c q = true := by
          rw [hc]
          unfold Copies State.hasRole
          rw [beq_iff_eq, hw]
          exact ⟨fun h => ⟨not_not.mp hd, hrole, h⟩, fun h => h.2.2⟩
        rw [List.foldl_cons, List.foldl_cons, if_congr hq rfl rfl]
        refine ih _ fun x => ?_
        split
        · rw [State.offer_lan_role, hw]
        · exact hw x
    exact hsame Port.all v fun _ => rfl

/-! ### Group frames (R151) -/

/-- A port gets a copy that joins its queue. -/
def CopyJoins (s : State) (p : Port) (role : Role) (f : Frame) (q : Port) : Prop :=
  Copies s p role f q ∧ (s.port q).linkUp = true ∧ (s.port q).lan.length < (s.port q).lanCap

/-- Between two states a frame has arrived and its copies have been offered, `held` buffers having been taken before. -/
structure CopiedOnArrival (s t : State) (p : Port) (role : Role) (f : Frame) (held : Nat) : Prop where
  joined : ∀ q, q ≠ p → CopyJoins s p role f q → t.port q = { s.port q with lan := (s.port q).lan ++ [f] }
  kept : ∀ q, q ≠ p → ¬ CopyJoins s p role f q → t.port q = s.port q
  own : ∀ down full : Port → Bool, (∀ q, down q = true ↔ Copies s p role f q ∧ (s.port q).linkUp = false) →
    (∀ q, full q = true ↔ Copies s p role f q ∧ (s.port q).linkUp = true ∧ (s.port q).lanCap ≤ (s.port q).lan.length) →
    t.port p = { s.port p with counters :=
      ((s.port p).counters.received.drops .unknown (Port.all.countP down)).drops .queueCap (Port.all.countP full) }
  classes : t.net.classes = s.net.classes
  learned : LearnedFrom s t p f.source
  free : ∀ joins : Port → Bool, (∀ q, joins q = true ↔ CopyJoins s p role f q) →
    t.net.freeBuffers + held + Port.all.countP joins = s.net.freeBuffers

/-- The copies of a broadcast offered from a state with the ports as they are on arrival. -/
theorem CopiedOnArrival.copyBroadcast {held : Nat} (hports : ∀ x, v.port x = (s.arrived f.source p).port x)
    (hclasses : v.net.classes = s.net.classes) (hstations : v.net.stations = (s.arrived f.source p).net.stations)
    (hfree : v.net.freeBuffers + held = s.net.freeBuffers) (hb : 5 ≤ v.net.freeBuffers) :
    CopiedOnArrival s (v.copyBroadcast p role f) p role f held ∧ (v.copyBroadcast p role f).setNet v.net = v
      ∧ (v.copyBroadcast p role f).net.delivery = v.net.delivery := by
  classical
  obtain ⟨c, hc⟩ : ∃ c : Port → Bool, ∀ q, c q = true ↔ Copies v p role f q :=
    ⟨fun q => decide (Copies v p role f q), fun q => decide_eq_true_iff⟩
  have hcopies : ∀ q, c q = true ↔ Copies s p role f q := fun q => by
    rw [hc]
    unfold Copies
    rw [hports, State.arrived_role]
  have hcp : c p = false := Bool.eq_false_iff.mpr fun h => ((hcopies p).mp h).2.2.1 rfl
  have hother : ∀ q, q ≠ p → v.port q = s.port q := fun q hq => (hports q).trans (s.arrived_port_other _ hq)
  have hof : ∀ q, Copies s p role f q → v.port q = s.port q := fun q h => hother q h.2.2.1
  have hjoins : ∀ q, copyJoins v c q = true ↔ CopyJoins s p role f q := fun q => by
    unfold copyJoins CopyJoins
    rw [Bool.and_eq_true, Bool.and_eq_true, decide_eq_true_iff, hcopies]
    exact and_congr_right fun h => by rw [hof q h]
  have hdown : ∀ q, copyDown v c q = true ↔ Copies s p role f q ∧ (s.port q).linkUp = false := fun q => by
    unfold copyDown
    rw [Bool.and_eq_true, hcopies, Bool.not_eq_true']
    exact and_congr_right fun h => by rw [hof q h]
  have hfull : ∀ q, copyFull v c q = true ↔ Copies s p role f q ∧ (s.port q).linkUp = true
      ∧ (s.port q).lanCap ≤ (s.port q).lan.length := fun q => by
    unfold copyFull
    rw [Bool.and_eq_true, Bool.and_eq_true, decide_eq_true_iff, hcopies]
    exact and_congr_right fun h => by rw [hof q h]
  have hall : ∀ q, q ∈ Port.all := fun q => by cases q <;> decide
  obtain ⟨hothers, hown, hbuffers, hrest, hframe⟩ := Copied.copiesTo (v := v) (l := Port.all) hcp (by decide) hb f
  rw [← State.copyBroadcast_eq hc] at hothers hown hbuffers hrest hframe
  refine ⟨⟨fun q hq hj => ?_, fun q hq hj => ?_, fun down full hd hf => ?_, ?_, ?_, fun joins hj => ?_⟩, hframe, ?_⟩
  · rw [hothers q hq, if_pos ⟨hall q, (hjoins q).mpr hj⟩, hother q hq]
  · rw [hothers q hq, if_neg (fun h => hj ((hjoins q).mp h.2)), hother q hq]
  · have h1 : Port.all.countP (copyDown v c) = Port.all.countP down :=
      List.countP_congr fun q _ => (hdown q).trans (hd q).symm
    have h2 : Port.all.countP (copyFull v c) = Port.all.countP full :=
      List.countP_congr fun q _ => (hfull q).trans (hf q).symm
    rw [hown, h1, h2, hports, State.arrived_port_same]
  · exact (congrArg Forwarding.classes hrest :).trans hclasses
  · exact (LearnedFrom.arrived s p f.source).of_stations ((congrArg Forwarding.stations hrest :).trans hstations)
  · have h1 : Port.all.countP (copyJoins v c) = Port.all.countP joins :=
      List.countP_congr fun q _ => (hjoins q).trans (hj q).symm
    rw [h1] at hbuffers
    omega
  · exact (congrArg Forwarding.delivery hrest :)

section
variable (h : Passes s p role ok bytes) (hd : (Frame.ofBytes bytes).dest ≠ s.net.controller)
  (hgw : (Frame.ofBytes bytes).dest ≠ s.net.gateway) (happ : (Frame.ofBytes bytes).dest ≠ s.net.appliance)
  (hrec : s.stationRecord (Frame.ofBytes bytes).dest = none) (hgroup : isGroup (Frame.ofBytes bytes).dest = true)
include h hd hgw happ hrec hgroup

/-- A group frame is offered for delivery, and then its copies. -/
theorem group_steps : (s.arrived (Frame.ofBytes bytes).source p).steps p role (Frame.ofBytes bytes)
    = ((s.arrived (Frame.ofBytes bytes).source p).offerDelivery (Frame.ofBytes bytes) p .broadcast).copyBroadcast p role
        (Frame.ofBytes bytes) := by
  have hnot : (s.arrived (Frame.ofBytes bytes).source p).towardsUplink (Frame.ofBytes bytes).dest = false :=
    State.arrived_notTowards hgw fun x hx => by
      rw [LearnedFrom.arrived s p _ _, if_neg (fun hl => by rw [hgroup] at hl; cases hl.2.1), hrec] at hx
      cases hx
  refine h.forward hd (not_exchangeDatagram (.inr ⟨hd, happ⟩)) ((State.forward_toHost hnot (.inr hgroup)).trans ?_)
  unfold State.toHost
  rw [if_neg h.notGuest, if_pos hgroup]

variable (hb : 6 ≤ s.net.freeBuffers)
include hb

theorem group_queued (hrun : (s.chain .delivery).phase = .running) (hroom : s.net.delivery.length < 64) :
    ∃ t, exec (.frameReceive p ok bytes) s = .next t ∧ CopiedOnArrival s t p role (Frame.ofBytes bytes) 1
      ∧ t.net.delivery = s.net.delivery ++ [{ frame := Frame.ofBytes bytes, ingress := p, reason := .broadcast }]
      ∧ t.setNet s.net = s := by
  have hsteps := group_steps h hd hgw happ hrec hgroup
  have hqueued := State.offerDelivery_queued (v := s.arrived (Frame.ofBytes bytes).source p) (p := p)
    (f := Frame.ofBytes bytes) hrun (Nat.lt_of_lt_of_le (by decide) hb) hroom .broadcast
  have hfree : ((s.arrived (Frame.ofBytes bytes).source p).offerDelivery (Frame.ofBytes bytes) p .broadcast).net.freeBuffers
      = s.net.freeBuffers - 1 := by
    rw [hqueued]
    rfl
  have hports : ∀ x, ((s.arrived (Frame.ofBytes bytes).source p).offerDelivery (Frame.ofBytes bytes) p .broadcast).port x
      = (s.arrived (Frame.ofBytes bytes).source p).port x := fun x => by
    rw [hqueued]
    rfl
  have hframe : ((s.arrived (Frame.ofBytes bytes).source p).offerDelivery (Frame.ofBytes bytes) p .broadcast).setNet s.net
      = s := by
    rw [hqueued]
    rfl
  obtain ⟨hcopied, hnet, hdelivery⟩ := CopiedOnArrival.copyBroadcast (s := s) (role := role) (held := 1) hports
    (by rw [hqueued]; rfl) (by rw [hqueued]; rfl) (by omega) (by omega)
  have honly := (congrArg (fun x : State => x.setNet s.net) hnet :).trans hframe
  exact ⟨_, h.next hsteps (congrArg (fun x : State => x.link.due) honly :), hcopied, hdelivery.trans (by rw [hqueued]; rfl),
    honly⟩

theorem group_missed (hrun : (s.chain .delivery).phase ≠ .running) :
    ∃ t, exec (.frameReceive p ok bytes) s = .next t ∧ CopiedOnArrival s t p role (Frame.ofBytes bytes) 0
      ∧ t.net.delivery = s.net.delivery ∧ t.requests.deliveryMiss = s.requests.deliveryMiss + 1
      ∧ (t.withLogOf s).setNet s.net = s := by
  have hsteps := group_steps h hd hgw happ hrec hgroup
  have hmissed := State.offerDelivery_missed (v := s.arrived (Frame.ofBytes bytes).source p) (p := p)
    (f := Frame.ofBytes bytes) hrun .broadcast
  rw [hmissed] at hsteps
  obtain ⟨hmiss, -, hframe⟩ := State.countMisses_spec h.sound.2.1.1 (s.arrived_frame (Frame.ofBytes bytes).source p)
  have hsame : ((s.arrived (Frame.ofBytes bytes).source p).countMisses 1).net
      = (s.arrived (Frame.ofBytes bytes).source p).net := rfl
  generalize (s.arrived (Frame.ofBytes bytes).source p).countMisses 1 = v at hsteps hmiss hframe hsame
  have hfree : v.net.freeBuffers = s.net.freeBuffers := (congrArg Forwarding.freeBuffers hsame :)
  obtain ⟨hcopied, hnet, hdelivery⟩ := CopiedOnArrival.copyBroadcast (s := s) (role := role) (held := 0) (p := p)
    (f := Frame.ofBytes bytes) (v := v) (fun x => by unfold State.port; rw [hsame]) (congrArg Forwarding.classes hsame :)
    (congrArg Forwarding.stations hsame :) hfree (by omega)
  have honly := (congrArg (fun x : State => (x.withLogOf s).setNet s.net) hnet :).trans hframe
  refine ⟨_, h.next hsteps (congrArg (fun x : State => x.link.due) honly :), hcopied, ?_, ?_, honly⟩
  · exact hdelivery.trans (congrArg Forwarding.delivery hsame :)
  · exact (congrArg (fun x : State => x.requests.deliveryMiss) hnet :).trans hmiss

end

end Sys2Proof.Machine
end

section
/-! PROOFS. FRAME_RECEIVE on a port that is not GUEST: O36. -/

namespace Sys2Proof.Machine

variable {s t u v w : State} {p q : Port} {f : Frame} {role : Role} {ok : Bool} {bytes : List Byte} {r : DropReason}

/-! ### O36 -/

/-- The role matrix between LAN ports (R147). -/
theorem roleAllows_iff (a b : Role) : roleAllows a (some b) = true ↔ (a = .till ∧ b = .office)
    ∨ (a = .label ∧ (b = .office ∨ b = .label))
    ∨ ((a = .office ∨ a = .uplink) ∧ (b = .till ∨ b = .label ∨ b = .office)) := by
  cases a <;> cases b <;> decide

/-- A frame counted and dropped with no source learned (R145, R148). -/
theorem dropped_onArrival (hs : s.Sound) (h : s.receive p ok bytes = (s.countIn p).countDrop p r) :
    ∃ t, exec (.frameReceive p ok bytes) s = .next t ∧ DroppedOn s t p r ∧ { t.net with ports := s.net.ports } = s.net
      ∧ t.setNet s.net = s :=
  ⟨_, exec_frameReceive hs h rfl, .countIn .., rfl, rfl⟩

/-- Settles O36: a frame received, by its form, its destination and the ingress role. -/
theorem framesReceived : Obligations.FramesReceived := by
  unfold Obligations.FramesReceived
  refine ⟨roleAllows_iff, fun p ok bytes s hs => ?_⟩
  intro f counted inForm dropped learned onlyNet drops
  refine ⟨fun hno => dropped_onArrival hs (State.receive_refused hno),
    fun hrun hrole hbad => dropped_onArrival hs (State.receive_badForm hrun hrole hbad),
    fun role hrun hrole hguest hform => ?_⟩
  have h : Passes s p role ok bytes := ⟨hs, hrun, hrole, hguest, hform⟩
  refine ⟨?_, ?_, ?_, ?_, ?_, ?_, ?_, ?_, ?_, ?_⟩
  · rintro hd he rfl
    exact ⟨fun m hm => till_handedOver h hd he hm, fun hm => till_dropped h hd he hm⟩
  · rintro hd - he rfl
    exact ⟨fun id m hm => label_handedOver h hd he hm, fun hm => label_dropped h hd he hm⟩
  · exact fun hd ht hl hx => controller_dropped h hd ht hl hx
  · intro hown words
    refine ⟨fun hfragment => fragment_dropped h hown hfragment, ?_⟩
    intro udp message taken hwhole hprotocol hlen hport
    have hudp : UdpTo f.payload s.exchange.udpPort := ⟨hprotocol, hlen, hport⟩
    refine ⟨fun m ⟨htaken, hheader⟩ hm => datagram_taken h hown hwhole hudp
      (Exchange.parse_iff.mpr ⟨⟨htaken, hheader⟩, hm⟩), fun hno => datagram_discarded h hown hwhole hudp ?_⟩
    refine Option.eq_none_iff_forall_not_mem.mpr fun m hm => ?_
    obtain ⟨htaken, hspelled⟩ := Exchange.parse_iff.mp hm
    exact hno.elim (· htaken) (· m hspelled)
  · intro hd htow
    refine ⟨fun hr => uplink_policy h hd htow hr, fun w hr hw => ?_⟩
    intro c
    have hsteps := uplink_offered h hd htow hr
    have hrefusal := State.arrived_refusal_cls (p := p) (a := f.source) c hw
    refine ⟨fun hdown => ?_, fun hup hbuffers => ?_, fun hup hbuffers hfull => ?_, fun hup hbuffers hroom => ?_⟩
    · rw [if_pos hdown] at hrefusal
      exact Drops.of_steps h (hsteps.trans (State.offer_refused hrefusal _))
    · rw [if_neg (by rw [hup]; exact nofun), if_pos hbuffers] at hrefusal
      exact Drops.of_steps h (hsteps.trans (State.offer_refused hrefusal _))
    · rw [if_neg (by rw [hup]; exact nofun), if_neg (Nat.ne_of_gt hbuffers), if_pos hfull] at hrefusal
      exact Drops.of_steps h (hsteps.trans (State.offer_refused hrefusal _))
    · rw [if_neg (by rw [hup]; exact nofun), if_neg (Nat.ne_of_gt hbuffers), if_neg (Nat.not_le.mpr hroom)] at hrefusal
      refine classJoined h ?_ (hsteps.trans (State.offer_joins hrefusal _ _))
      rcases hr with rfl | rfl <;> exact nofun
  · intro hd hgw hrec hne hsingle
    refine ⟨fun happ hx => ?_, fun happ hg => nobody_dropped h hd hgw hrec hne hsingle happ hg⟩
    have hsteps := appliance_offered h hd hgw hrec hne hsingle happ hx
    refine ⟨fun hphase hbuffers hroom => delivery_queued h hsteps hphase hbuffers hroom, fun hphase hbuffers => ?_,
      fun hphase hbuffers hfull => ?_, fun hphase => delivery_missed h hsteps hphase⟩
    · exact Drops.of_steps h (hsteps.trans (State.offerDelivery_noBuffer (v := s.arrived f.source p) hphase hbuffers _))
    · exact Drops.of_steps h (hsteps.trans (State.offerDelivery_full (v := s.arrived f.source p) hphase hbuffers hfull _))
  · intro hd hgw happ hrec hgroup hbuffers hroom copies joins copied
    have hcopied : ∀ held t, CopiedOnArrival s t p role f held → copied held t := by
      rintro held t ⟨hjoined, hkept, hown, hclasses, hlearned, hfree⟩
      refine ⟨fun q hq => ?_, hown _ _ (fun q => decide_eq_true_iff) (fun q => decide_eq_true_iff), hclasses, hlearned,
        hfree _ fun q => decide_eq_true_iff⟩
      split
      next hj => exact hjoined q hq hj
      next hj => exact hkept q hq hj
    refine ⟨fun hphase => ?_, fun hphase => ?_⟩
    · obtain ⟨t, hexec, ht, hrest⟩ := group_queued h hd hgw happ hrec hgroup hbuffers hphase hroom
      exact ⟨t, hexec, hcopied 1 t ht, hrest⟩
    · obtain ⟨t, hexec, ht, hrest⟩ := group_missed h hd hgw happ hrec hgroup hbuffers hphase
      exact ⟨t, hexec, hcopied 0 t ht, hrest⟩
  · exact fun hd hgw happ hsingle heq hroom => own_policy h hd hgw happ hsingle heq hroom
  · intro g hr hd hgw happ hsingle hne hg hnot
    have hsteps := guest_steps h hd hgw happ hsingle hne hnot hr hg
    exact ⟨fun hno => guest_policy h hsteps hno, fun hyes hj => guest_refused h hsteps hyes hj,
      fun hyes hj => ⟨fun hp => guest_notAdmitted h hsteps hyes hj hg hp,
        fun hp hfit => guest_joined h hsteps hyes hj hg hp hfit,
        fun hp hover => guest_spent h hsteps hyes hj hg hp hover⟩⟩
  · intro x hd hgw happ hsingle hne hg hx hnot
    exact ⟨fun hp => table_policy h hd hgw happ hsingle hne hx hnot hg hp, fun hp hallow =>
      ⟨fun hj => table_joined h hd hgw happ hsingle hne hx hnot hg hp hallow hj,
        fun hj => table_refused h hd hgw happ hsingle hne hx hnot hg hp hallow hj⟩⟩

end Sys2Proof.Machine
end
